-- ==== Sys2Proof/Word.lean ====
section
/-! DEFINITION. The register word and the byte of the module (R16, R17), and the two ends a unit can have:
Leaf A / ZUDIN_A and Leaf B / ZUDIN_B. -/

namespace Sys2Proof

/-- A 32-bit register value (R17). -/
abbrev Word := BitVec 32

/-- A byte of a command packet (R16). -/
abbrev Byte := BitVec 8

/-- One of the two leaves, and of the Zudin links they terminate: Leaf A serves ZUDIN_A, Leaf B serves ZUDIN_B. -/
inductive Side where
  | a
  | b
deriving DecidableEq, Repr

/-- The other leaf. -/
def Side.other : Side → Side
  | .a => .b
  | .b => .a

/-- The number of a leaf or link in packets and records: 0 = A, 1 = B. -/
def Side.num : Side → Nat
  | .a => 0
  | .b => 1

/-- Two of a thing, one for each leaf or link. -/
structure Pair (α : Type) where
  a : α
  b : α
deriving DecidableEq, Repr

/-- The half of a pair that belongs to `i`. -/
def Pair.get {α : Type} (p : Pair α) : Side → α
  | .a => p.a
  | .b => p.b

/-- Replace the half of a pair that belongs to `i`. -/
def Pair.set {α : Type} (p : Pair α) (i : Side) (x : α) : Pair α :=
  match i with
  | .a => { p with a := x }
  | .b => { p with b := x }

/-- Apply a function to one half of a pair. -/
def Pair.modify {α : Type} (p : Pair α) (i : Side) (f : α → α) : Pair α :=
  p.set i (f (p.get i))

end Sys2Proof
end

