-- ==== Sys2Proof/Syntax.lean ====
section
/-! DEFINITION. The commands of the module: one constructor of `Instr` for each row of spec/opcode_table.json, with the
operands that the row's chapter gives it. What the world outside decides (a reading, a verdict on a signature, a choice
the spec leaves to the hardware within stated limits) is an operand too. -/

namespace Sys2Proof

/-- A request packet on a Zudin link as it is taken from the receive buffer (04 Table 2), its CRC already good; the
opcode is that of the row. -/
structure Packet where
  link    : Side
  version : Byte := 1
  tag     : BitVec 16
  role    : Byte
  flags   : Byte := 0
  status  : Byte := 0
  state   : Byte := 0
  session : Word
  len8    : BitVec 16
  rsv     : BitVec 16 := 0
  ext     : BitVec 96 := 0
  payload : List Byte
deriving DecidableEq, Repr

/-- A REG_WRITE packet to a register that has a row of its own: header fields, VALUE and MASK (R171). -/
structure RegW where
  link    : Side
  tag     : BitVec 16
  role    : Byte
  session : Word
  value   : Word
  mask    : Word
deriving DecidableEq, Repr

/-- A MEMS element: brick (plane × 68 + tile number, R87), line and rail (R64). -/
structure Elem where
  brick : Nat
  line  : Nat
  rail  : Nat
deriving DecidableEq, Repr

/-- The fields of a Mortar instruction word other than CLASS and OP (06 Table 4). -/
structure MWord where
  fmt  : BitVec 4 := 0
  rnd  : BitVec 2 := 0
  chk  : Bool := false
  acc  : Bool := false
  mod  : BitVec 6 := 0
  dst  : BitVec 8 := 0
  srcA : BitVec 8 := 0
  srcB : BitVec 8 := 0
  imm  : BitVec 16 := 0
deriving DecidableEq, Repr

/-- One port monitor's conversion: input tap and output tap, in 0.01 dBm (R185). -/
structure PortReading where
  port   : Nat
  inTap  : Int
  outTap : Int
deriving DecidableEq, Repr

/-- What the Sense phase brings in: which sills' sets arrived over the links to Leaf A and to Leaf B, which were
carried, and the conversions (temperatures in 1/16 °C, MEMS rail halves in mV, powers in 0.01 dBm). -/
structure SenseIn where
  arrivedA   : BitVec 8
  arrivedB   : BitVec 8
  carried    : BitVec 8 := 0
  tileTemp   : List (Nat × Int) := []
  sillTemp   : List (Nat × Int) := []
  ports      : List PortReading := []
  oscPower   : List (Nat × Int) := []
  dropMon    : List (Nat × Int) := []
  memsPos    : Nat := 25500
  memsNeg    : Nat := 25500
  mortarTemp : Nat := 0
  bankTemp   : Int := 0
  laserMon   : List (Nat × Int) := []
  retries    : Nat := 0
deriving DecidableEq, Repr

/-- What the Compute phase brings in: the measured value of each loop evaluated (loop index, class unit × 2^16), the
groups carried, and the REFCLK cycles used. -/
structure ComputeIn where
  readings : List (Nat × Int)
  carried  : List Nat := []
  cycles   : Nat := 200
deriving DecidableEq, Repr

/-- A link frame as it arrives after FEC correction: its 256 bytes (04 Table 1). -/
structure LinkFrame where
  bytes : List Byte
deriving DecidableEq, Repr

/-- What a signature check has found: `sig` is a valid signature over `message` under the public key `key`. A command that
carries a signature comes with the triple that was found valid, if any; the model compares it with the triple it has to check. -/
structure Proven where
  key     : List Byte
  message : List Byte
  sig     : List Byte
deriving DecidableEq, Repr

/-- An OSC frame as it arrives: bits since the last SYNC word, whether SYNC reads as sent, how many of its 192 symbols are
in error, the 128 payload bytes as sent, and this module's tick time at the reference point (2^−16 ns). -/
structure OscFrame where
  port    : Nat
  spacing : Nat
  syncOk  : Bool
  errors  : Nat
  payload : List Byte
  pdRx    : Nat
deriving DecidableEq, Repr

/-- A Felso transaction: ADDR, DATA and the CRC-8 byte sent (R506); the operation is that of the row. -/
structure FelsoTx where
  addr : Word
  data : Word
  crc  : Byte
deriving DecidableEq, Repr

/-- A test element of a calibration run, and how many SET pulses it takes until it reads SET (R309); one for an element of a service
circuit (R313). -/
structure TestPulse where
  elem   : Elem
  pulses : Nat := 1
deriving DecidableEq, Repr

/-- One tap's outcome of a calibration run: measured or skipped, up to three measured values, and the test elements it uses. -/
structure CalTap where
  tap      : Nat
  measured : Bool := true
  a        : Int := 0
  b        : Int := 0
  c        : Int := 0
  cells    : List TestPulse := []
deriving DecidableEq, Repr

/-- What a boot finds: whether the staged, primary and golden images pass their checks (R491), which courses pass the
Mortar self-test (R254), which channels train (R542), and the straps (R558). -/
structure BootIn where
  stagedOk   : Bool := false
  primaryOk  : Bool := true
  goldenOk   : Bool := true
  coursesOk  : BitVec 16 := 0xFFFF
  channelsOk : BitVec 8 := 0xFF
  leafPref   : Bool := true
  slotId     : BitVec 4 := 0
deriving DecidableEq, Repr

/-- A circuit entry (04 Table 11): ports, kind byte, flags byte, reserved half, JOB_TAG. -/
structure Entry where
  src    : Nat
  dst    : Nat
  kind   : Byte
  eflags : Byte
  rsv    : BitVec 16 := 0
  jobTag : Word
deriving DecidableEq, Repr

/-- How a solve ended: a plan, a demand left unmet, or a checker failure (R268, R270). -/
inductive SolveResult where
  | plan (entries : List Entry) (short : Option Nat)
  | unmet (demand : Nat)
  | checkFail
deriving DecidableEq, Repr

/-- The commands, in the order of the table's rows. -/
inductive Instr where
  /-- TICK_BOUNDARY (R35). At each tick boundary TICK_COUNT increments and every pending state change, accepted command effect, exponent change and power vote takes effect. -/
  | tickBoundary (auxPeriods : Nat) (power : Nat)
  /-- SENSE (R32). At REFCLK cycle 0 the integrators close, the ADCs convert and each sill sends its Sense set, with lease report and readback, over both sill links. -/
  | sense (i : SenseIn)
  /-- COMPUTE (R186). At cycle 150 Trowel evaluates every loop group using this tick's Sense results and Mortar predictions. -/
  | compute (i : ComputeIn)
  /-- ACTUATE (R66). At cycle 500 heater DAC values latch in the sills and MEMS pulse batches fire as CLEAR then SET sub-pulses. -/
  | actuate (failed : List Elem) (carried : List Nat)
  /-- COMMIT_STEP (R32). At cycle 700 the plan/commit engine advances one step, the OSC frame goes out and RENEW is sent to every sill. -/
  | commitStep (carried : Bool) (unreached : BitVec 8)
  /-- GUARD (R32). At cycle 900 the loops, servo and state are mirrored to the standby leaf, grants are sent and carry decisions are made. -/
  | guard (mirrorOk : Bool)
  /-- OVERRUN_CAUSE_SET (R39). After 100 consecutive ticks with carried work the degraded cause TICK_OVERRUN is set, and it clears after 10,000 ticks with none. -/
  | overrunCauseSet
  /-- REFCLK_LOSS (R31). Loss of REFCLK after BOOT moves the tick to holdover on the internal oscillator, sets TICK_STATUS.SRC and the degraded condition. -/
  | refclkLoss
  /-- REFCLK_RETURN (R31). Once REFCLK has been valid for 1,000 consecutive ticks the tick returns to REFCLK at a boundary. -/
  | refclkReturn
  /-- CLOCK_MOVE (R458). After power-on, once REFCLK has been valid for 10 ms, the core clocks move to the REFCLK PLLs and the tick moves to REFCLK at the next boundary. -/
  | clockMove
  /-- VAUX_RISE (R461). VAUX rising through 3.05 V releases the always-on reset, clearing aux time and TICK_COUNT and starting the power controller. -/
  | vauxRise (dt : Nat)
  /-- VAUX_FALL (R447). VAUX falling below 2.95 V leaves 5 ms of stored energy to complete Cornerstone records, treating it as loss of VIN54 where VIN54 is present. -/
  | vauxFall (dt : Nat)
  /-- VANA_RISE (R444). VANA reaching good is timed against VAUX and recorded as a sequencing violation when early. -/
  | vanaRise (dt : Nat)
  /-- VANA_FALL (R445). VANA falling below 4.65 V is checked against the down-sequence and treated as loss of VIN54 where VIN54 is still present. -/
  | vanaFall (dt : Nat)
  /-- VIN54_RISE (R444). VIN54 rising through 43.0 V with the other conditions met starts the converters and, at regulation, completes the power-on reset and begins boot. -/
  | vin54Rise (dt aux volts : Nat) (refclk : Bool) (b : BootIn)
  /-- VIN54_LOSS (R446). VIN54 below 41.0 V stops further MEMS batches, writes a power-loss record and puts the module in OFF. -/
  | vin54Loss (dt volts : Nat)
  /-- VIN54_OVERVOLTAGE (R443). VIN54 above 60.0 V turns off every VIN54-derived rail within one tick and is treated as loss of VIN54. -/
  | vin54Overvoltage (dt volts : Nat)
  /-- RESET_N_ASSERT (R462). A low pulse on RESET_N of 2 µs or more is taken as a warm reset that begins at the next tick boundary, holding both leaves in reset while low. -/
  | resetNAssert (lowNs : Nat) (taken : Bool)
  /-- RESET_N_RELEASE (R462). Release of RESET_N starts boot, starting the tick sequencers and rebasing TICK_COUNT where the rails came up with RESET_N low. -/
  | resetNRelease (aux : Nat) (b : BootIn)
  /-- WARM_RESET_START (R461). At the tick boundary after a warm-reset request both leaves, Mortar and the lintel controllers reset, every pending command receives a final of E_INTEGRITY and the sessions close. -/
  | warmResetStart (b : BootIn)
  /-- BOOT_READBACK (R71). At boot the sills read back the whole fabric within 16 ticks before any pulse is fired. -/
  | bootReadback
  /-- JOURNAL_RESTART (R497). After a power-on reset, once the channels have trained and the SEQ mark has been read, the lintels write the KIND 4 journal entry and the Zudin links may train. -/
  | journalRestart
  /-- BOOT_COMPLETE (R412). A leaf that completes BOOT grants the lease or enters STANDBY according to the lease reports of the sills it reaches. -/
  | bootComplete (leaf : Side)
  /-- WATCHDOG (R416). A hardware watchdog not serviced for 10,000 ticks resets its leaf, and an active leaf then loses control by lapse. -/
  | watchdog (leaf : Side)
  /-- LEAF_RAIL_COLLAPSE (R416). A leaf whose rails collapse stops at once without a Release and is held in reset until the rails return. -/
  | leafRailCollapse (leaf : Side)
  /-- LEAF_RAIL_RETURN (R461). The return of a collapsed leaf's rails triggers a leaf-local reset and boot. -/
  | leafRailReturn (leaf : Side)
  /-- SELF_DIAGNOSIS_FAILURE (R416). An item of the per-tick hardware self-diagnosis fails, and the active leaf releases the lease when the standby is eligible, or otherwise records the failure. -/
  | selfDiagnosisFailure (leaf : Side) (items : BitVec 8)
  /-- RELEASE (R408). The lease holder's RELEASE message makes the sill lease RELEASED at cycle 900 and triggers a lapse or release notice. -/
  | release (leaf : Side)
  /-- RENEW (R408). A RENEW carrying the sill's epoch restarts its lapse count, carries the HOLD flag, and returns a LAPSED sill to VALID. -/
  | renew (leaf : Side) (sill : Nat) (epoch : Nat)
  /-- GRANT (R408). A GRANT with an epoch above the sill's is accepted when the lease is NONE, LAPSED or RELEASED, and becomes VALID at the next boundary. -/
  | grant (leaf : Side) (sill : Nat) (epoch : Nat)
  /-- FORCED_GRANT (R408). A FORCED GRANT from the standby is accepted in any lease state when its epoch is higher. -/
  | forcedGrant (leaf : Side) (sill : Nat) (epoch : Nat)
  /-- LEASE_LAPSE (R409). A VALID lease lapses when three consecutive Commit steps pass without a RENEW of its epoch, and the sill sends a lapse notice. -/
  | leaseLapse (sill : Nat)
  /-- LAPSE_NOTICE (R414). A standby that passes self-diagnosis and receives a lapse or release notice sends a FORCED GRANT to every sill it reaches and takes control. -/
  | lapseNotice (leaf : Side) (sill : Nat) (selfOk : Bool)
  /-- REVERT (R417). The preferred standby leaf, after 60 s of clean eligibility with REVERT_EN set, takes control back at an idle boundary. -/
  | revert
  /-- STANDBY_REPORT (R420). At the end of each 10,000-tick report period the standby sends a class 4 health event, and the active leaf updates LEAF_HEALTH. -/
  | standbyReport (items : BitVec 8)
  /-- REPORT_MISSING (R420). When no standby report has arrived for 2 periods the active leaf counts the standby as not eligible. -/
  | reportMissing
  /-- CROSS_LINK_DOWN (R421). After 4 Guard phases without a valid mirror message the cross-link is down, CROSS_LINK is set and the standby sends a class 5 event and sets STALE. -/
  | crossLinkDown
  /-- CROSS_LINK_UP (R421). After 100 consecutive valid mirror messages the cross-link is up again and a class 5 event is sent. -/
  | crossLinkUp (cycles : Int)
  /-- DIE_LINK_DOWN (R539). A die-to-die link whose retries have failed on 3 consecutive ticks goes down and is retrained, with work moved to the counterpart link. -/
  | dieLinkDown (link : Nat) (checkFails : Nat)
  /-- DIE_LINK_UP (R539). A retrained die-to-die link comes up within 100 ticks of its far end answering. -/
  | dieLinkUp (link : Nat)
  /-- SILL_LINK_DOWN (R90). The failure of one sill link changes SILL_STATUS and sets SILL_LINK, and it causes a Release when the link is the active leaf's. -/
  | sillLinkDown (sill : Nat) (leaf : Side)
  /-- SILL_LOST (R569). A sill whose Sense set has failed on both links for 3 ticks is found lost, its bricks become UNDRIVEN and its pending moves are settled. -/
  | sillLost (sill : Nat)
  /-- SILL_POWER_LOSS (R83). A sill that loses power reads STATE 3, its windows relax to COLD, and the lane circuits through them become LOST. -/
  | sillPowerLoss (sill : Nat)
  /-- SILL_RETURN (R127). A returning sill is read back within 16 ticks, its orphans are cleared, FROZEN is cleared, and its windows are parked or relocked. -/
  | sillReturn (sill : Nat)
  /-- MEMS_RAIL_FAULT (R449). Either MEMS rail half out of limits in 2 consecutive Sense phases enters SAFE_HOLD with cause MEMS_RAIL. -/
  | memsRailFault
  /-- TILE_OVER_TEMPERATURE (R563). A tile above 75.0 °C in 2 consecutive Sense phases sets TILE_TEMP.OVER and enters SAFE_HOLD. -/
  | tileOverTemperature (tile : Nat)
  /-- SAFETY_INTERLOCK_ASSERT (R346). Asserting SAFETY_INTERLOCK_N closes every shutter within 1.5 ms, bypassing the leaves, and enters SAFE_HOLD. -/
  | safetyInterlockAssert
  /-- SAFETY_INTERLOCK_RELEASE (R346). Release of SAFETY_INTERLOCK_N clears the interlock cause, leaving shutters closed until HOLD_RELEASE. -/
  | safetyInterlockRelease
  /-- PACKET_DISCARD (R144). A packet whose CRC fails, or that arrives without credit, is discarded without a reply and counted in LINK_ERRORS.DISCARDS. -/
  | packetDiscard (link : Side)
  /-- LINK_FRAME_RX (R138). A link frame is received, checked by FCRC and taken as data, idle, control or retrain request. -/
  | linkFrameRx (link : Side) (f : LinkFrame)
  /-- LINK_DOWN_TIMEOUT (R140). No valid frame for 10 ticks takes the link DOWN, discarding unacknowledged frames and partial packets, and retraining begins. -/
  | linkDownTimeout (link : Side)
  /-- RETRAIN_COMPLETE (R140). The link finishes retraining and is UP again. -/
  | retrainComplete (link : Side)
  /-- SESSION_LINK_TIMEOUT (R151). A session whose link has been DOWN for 1 s closes. -/
  | sessionLinkTimeout (link : Side) (session : Word)
  /-- AUTH_BACKOFF_END (R149). The 10 s SESSION_AUTH backoff on a link after 8 rejections expires. -/
  | authBackoffEnd (link : Side)
  /-- CREDITED_SEND (R164). A reply or event waiting for credit is sent in order once credit is available. -/
  | creditedSend (link : Side)
  /-- RESULT_EXPIRY (R160). A held final result expires 10 s after it became ready and its store is freed. -/
  | resultExpiry (link : Side) (session : Word) (tag : BitVec 16)
  /-- NOP (R169). The NOP command does nothing and replies OK. -/
  | nop (p : Packet)
  /-- SESSION_OPEN (R148). SESSION_OPEN negotiates the version and opens a session with the observer role, a new SESSION_ID and a NONCE. -/
  | sessionOpen (p : Packet)
  /-- SESSION_AUTH (R149). SESSION_AUTH verifies an SLH-DSA signature with an enrolled key and raises the session to the named role. -/
  | sessionAuth (p : Packet) (proof : Option Proven)
  /-- SESSION_CLOSE (R151). SESSION_CLOSE closes the session, leaving its held results readable until they expire. -/
  | sessionClose (p : Packet)
  /-- IDENTIFY (R169). IDENTIFY returns the serial, stepping, leaf identity, leaf role and versions. -/
  | identify (p : Packet)
  /-- ATTEST (R483). ATTEST returns a report signed with the next one-time key of the current attestation batch. -/
  | attest (p : Packet)
  /-- RESULT_READ (R162). RESULT_READ returns a held final of any session through either leaf, or PENDING, or E_PARAM for an unknown tag. -/
  | resultRead (p : Packet)
  /-- EVENT_SUBSCRIBE (R176). EVENT_SUBSCRIBE sets the event classes delivered to the session. -/
  | eventSubscribe (p : Packet)
  /-- RESULT_RELEASE (R160). RESULT_RELEASE frees the held results of the named tags. -/
  | resultRelease (p : Packet)
  /-- CIRCUIT_SET (R105). CIRCUIT_SET stages and queues a one-circuit plan that adds the circuit, checked against the tail of the commit queue. -/
  | circuitSet (p : Packet) (prefer : List Nat)
  /-- CIRCUIT_CLEAR (R105). CIRCUIT_CLEAR stages and queues a one-circuit plan that clears a member. -/
  | circuitClear (p : Packet) (prefer : List Nat)
  /-- PLAN_STAGE (R102). PLAN_STAGE replies PENDING and begins the ordered checks of a plan against its base set. -/
  | planStage (p : Packet)
  /-- PLAN_CHECK_DONE (R103). The plan checks finish within 100 ticks, and the plan is STAGED with N, W, moves and transitions, or refused with the first failing status. -/
  | planCheckDone (planId : Word) (prefer : List Nat)
  /-- PLAN_COMMIT (R107). PLAN_COMMIT queues a STAGED plan whose BASE equals the tail generation, checking any requested instant under R109. -/
  | planCommit (p : Packet)
  /-- PLAN_ABORT (R106). PLAN_ABORT frees a STAGED plan, dequeues a QUEUED one, or stops a RUNNING commit at the next Commit step. -/
  | planAbort (p : Packet)
  /-- PLAN_QUERY (R169). PLAN_QUERY reports a plan's state, generation, schedule counts, launch record and outcome list. -/
  | planQuery (p : Packet)
  /-- PLAN_SOLVE (R264). PLAN_SOLVE checks a job description and queues a solve, up to 8 waiting. -/
  | planSolve (p : Packet)
  /-- CIRCUIT_QUERY (R169). CIRCUIT_QUERY returns the context records of members with the named end in a port range. -/
  | circuitQuery (p : Packet)
  /-- PORT_CLASS_SET (R374). PORT_CLASS_SET writes port classes to the Cornerstone, and they take effect at the next boundary. -/
  | portClassSet (p : Packet)
  /-- PORT_QUERY (R375). PORT_QUERY returns class, flags and filtered powers per port. -/
  | portQuery (p : Packet)
  /-- BLINK_OPEN (R376). BLINK_OPEN opens a blink window over scoped ports at the next boundary and takes their baselines. -/
  | blinkOpen (p : Packet)
  /-- BLINK_CLOSE (R377). At tick b + TICKS the window closes and its final reply carries DARK and FIRST_DARK_TICK. -/
  | blinkClose
  /-- NEIGHBOUR_QUERY (R373). NEIGHBOUR_QUERY returns a port's neighbour record. -/
  | neighbourQuery (p : Packet)
  /-- LOOP_MODE (R201). LOOP_MODE sets a loop to automatic, manual or hold, with an optional manual output. -/
  | loopMode (p : Packet)
  /-- LOOP_SETPOINT (R201). LOOP_SETPOINT sets the target of a loop's ramp. -/
  | loopSetpoint (p : Packet)
  /-- TRACE_ARM (R217). TRACE_ARM replaces any trace in progress, empties the buffers and arms a new trace. -/
  | traceArm (p : Packet)
  /-- TRACE_READ (R219). TRACE_READ returns the trace state and samples of one buffer. -/
  | traceRead (p : Packet)
  /-- CAL_RUN (R322). CAL_RUN triggers the named calibration classes on every unit and replies PENDING. -/
  | calRun (p : Packet)
  /-- CAL_RUN_DONE (R322). The CAL_RUN final leaves when every named class has finished on every unit, or after 1 s. -/
  | calRunDone
  /-- CAL_QUERY (R324). CAL_QUERY returns run counts, last run and flags per calibration class. -/
  | calQuery (p : Packet)
  /-- JOB_LOAD (R274). JOB_LOAD takes one segment of a job package and hashes it, with the LAST segment starting verification. -/
  | jobLoad (p : Packet)
  /-- JOB_VERIFY_DONE (R275). Package verification completes within 1,000 ticks, and the package becomes LOADED or REJECTED. -/
  | jobVerifyDone (slot : Nat) (proof : Option Proven)
  /-- JOB_START (R276). JOB_START checks the package, grants courses and LPDDR6, zeroes them, copies the data and starts the job RUNNING. -/
  | jobStart (p : Packet)
  /-- JOB_PAUSE (R283). JOB_PAUSE replies with a SAVE_ID and stops a RUNNING job at the next instruction boundary. -/
  | jobPause (p : Packet)
  /-- JOB_PAUSE_STOPPED (R283). The job's courses stop at an instruction boundary within 2 ticks and the save begins. -/
  | jobPauseStopped (slot : Nat)
  /-- JOB_SAVE_DONE (R283). Every course state, SRAM and descriptor is saved to the job pool within 20 ticks and the job is PAUSED. -/
  | jobSaveDone (slot : Nat)
  /-- JOB_RESUME (R283). JOB_RESUME restores a PAUSED job from its latest save onto the same number of courses. -/
  | jobResume (p : Packet)
  /-- JOB_STOP (R284). JOB_STOP ends a running or paused job with reason STOPPED, or unloads a package. -/
  | jobStop (p : Packet)
  /-- JOB_QUERY (R286). JOB_QUERY returns the 40-byte job state. -/
  | jobQuery (p : Packet)
  /-- JOB_TIME_LIMIT (R285). A job reaching TICK_LIMIT ticks of run time ends with reason TIME_LIMIT. -/
  | jobTimeLimit (slot : Nat)
  /-- TIME_QUERY (R391). TIME_QUERY samples tick, fabric, host and aux time at one REFCLK cycle. -/
  | timeQuery (p : Packet)
  /-- HOST_TIME_SET (R389). HOST_TIME_SET sets host time at the next boundary while host time is unset or HOST_REBASED is set. -/
  | hostTimeSet (p : Packet)
  /-- TIME_RATE (R386). TIME_RATE sets the rate of root fabric time or of host time in ppb from the next boundary. -/
  | timeRate (p : Packet)
  /-- TIME_STEP (R385). TIME_STEP steps root or host time by an offset, or authorises a follower's step to its upstream, at the next boundary. -/
  | timeStep (p : Packet)
  /-- LAUNCH_SCHEDULE (R392). LAUNCH_SCHEDULE queues a 32-byte body for a fabric-time instant. -/
  | launchSchedule (p : Packet)
  /-- SCHEDULED_LAUNCH (R392). At the first boundary at or after its instant, a scheduled body goes into an OSC frame or a class 6 event, and the final reply carries LAUNCH_TICK. -/
  | scheduledLaunch
  /-- JOURNAL_READ (R499). JOURNAL_READ returns held journal entries from FROM_SEQ, oldest first. -/
  | journalRead (p : Packet)
  /-- CORNERSTONE_READ (R501). CORNERSTONE_READ returns Cornerstone log records from FROM_SEQ. -/
  | cornerstoneRead (p : Packet)
  /-- KEYHOLE_FREEZE (R505). KEYHOLE_FREEZE stops or resumes Keyhole recording from the next boundary. -/
  | keyholeFreeze (p : Packet)
  /-- KEYHOLE_READ (R504). KEYHOLE_READ returns held snapshots from FROM_SEQ. -/
  | keyholeRead (p : Packet)
  /-- KEYHOLE_CLEAR (R505). KEYHOLE_CLEAR empties the ring and MISSED and writes a Cornerstone record. -/
  | keyholeClear (p : Packet)
  /-- FW_STAGE_BEGIN (R488). FW_STAGE_BEGIN checks an image header and opens a download buffer for the session. -/
  | fwStageBegin (p : Packet)
  /-- FW_STAGE_DATA (R489). FW_STAGE_DATA appends image bytes at the next expected offset. -/
  | fwStageData (p : Packet)
  /-- FW_STAGE_END (R490). FW_STAGE_END checks completeness, stepping, version, signature and ownership, then writes the staged slot. -/
  | fwStageEnd (p : Packet) (proof : Option Proven)
  /-- FW_STAGE_WRITE_DONE (R490). The write of the owner's image to the staged slot completes within 5 s and the final reply is OK. -/
  | fwStageWriteDone
  /-- FW_CONFIRM (R492). FW_CONFIRM confirms a healthy TRIAL image, raising FW_COUNTER and copying primary to golden. -/
  | fwConfirm (p : Packet)
  /-- AUTO_CONFIRM (R492). With AUTO_CONFIRM set the module confirms a trial image by itself once HEALTH_OK is set. -/
  | autoConfirm
  /-- GOLDEN_COPY_DONE (R492). The copy of primary to golden completes within 15 s and the staged slot is emptied. -/
  | goldenCopyDone
  /-- FW_TRIAL_EXPIRY (R493). A TRIAL image not confirmed within 10 min falls back to golden through leaf-local resets and a Switch, and is REJECTED. -/
  | fwTrialExpiry
  /-- FW_QUERY (R496). FW_QUERY returns the counter, trial state and the three slot entries. -/
  | fwQuery (p : Packet)
  /-- UNLOCK_CHALLENGE (R507). UNLOCK_CHALLENGE returns a NONCE for a debug target, or relocks every target for TARGET 0xFF. -/
  | unlockChallenge (p : Packet)
  /-- UNLOCK_RESPONSE (R507). UNLOCK_RESPONSE verifies a debug-unlock signature and unlocks the target, first running a Switch for the active leaf's cores. -/
  | unlockResponse (p : Packet) (proof : Option Proven)
  /-- KEY_ENROL (R480). KEY_ENROL enrols or revokes a public key in the key table and records it in the Cornerstone. -/
  | keyEnrol (p : Packet)
  /-- POWER_QUERY (R466). POWER_QUERY returns the state and votes of every switchable domain. -/
  | powerQuery (p : Packet)
  /-- POWER_REQUEST (R464). POWER_REQUEST sets the host vote of a course or wakes, or forces low, an idle-timer domain. -/
  | powerRequest (p : Packet)
  /-- IDLE_TIMER_SET (R465). IDLE_TIMER_SET writes a class's idle-timer ticks and restarts the count of every domain of the class. -/
  | idleTimerSet (p : Packet)
  /-- REG_READ (R170). REG_READ reads COUNT consecutive registers, latching groups and clearing RC fields. -/
  | regRead (p : Packet)
  /-- REG_WRITE (R171). REG_WRITE writes the masked bits of a register atomically, serving as the write of every register without a row of its own. -/
  | regWrite (p : Packet)
  /-- FUNCTION_REINIT (R424). FUNCTION_REINIT reinitialises one function of the active leaf and replies PENDING. -/
  | functionReinit (p : Packet)
  /-- FUNCTION_REINIT_DONE (R424). A reinitialised function comes back and the final is OK, or the bound expires and the final is E_TIMEOUT. -/
  | functionReinitDone (function : Nat) (back : Bool)
  /-- FIRMWARE_REINIT (R425). Firmware reinitialises a function whose self-check fails and marks it exhausted on a timeout or a third reinit in an hour. -/
  | firmwareReinit (function : Nat)
  /-- WARM_RESET (R172). WARM_RESET with the right CONFIRM replies OK and requests a warm reset at the next boundary. -/
  | warmReset (p : Packet)
  /-- HOLD_RELEASE (R44). HOLD_RELEASE leaves SAFE_HOLD once every cause has cleared. -/
  | holdRelease (p : Packet)
  /-- LEAF_SWITCH (R415). LEAF_SWITCH runs a Switch to an eligible leaf, or a Forced takeover when the cross-link is down, judged again at the boundary. -/
  | leafSwitch (p : Packet)
  /-- RECOVERY_ENTER (R172). RECOVERY_ENTER requests a warm reset after which the leaves boot to RECOVERY. -/
  | recoveryEnter (p : Packet)
  /-- VENDOR_SERVICE (R147). A vendor-service opcode 0xF0 to 0xFF, whose content is not published, is executed for a vendor-service session. -/
  | vendorService (opcode : Byte) (p : Packet)
  /-- FABRIC_CFG (R84). A write of FABRIC_CFG sets the HOT or RESERVE spare policy per plane from the next commit. -/
  | fabricCfg (r : RegW)
  /-- MEMS_BUDGET (R85). A write of MEMS_BUDGET sets the element moves per tick for commits launched afterwards. -/
  | memsBudget (r : RegW)
  /-- BRICK_SELECT (R87). A write of BRICK_SELECT chooses, per accessor, the brick that BRICK_STATUS reports. -/
  | brickSelect (r : RegW)
  /-- LOOP_SELECT (R528). A write of LOOP_SELECT chooses the loop per accessor and returns that accessor's loop-group latch to reset values. -/
  | loopSelect (r : RegW)
  /-- PARAM_SELECT (R229). A write of PARAM_SELECT chooses the class, set, parameter and view that PARAM_DATA reaches. -/
  | paramSelect (r : RegW)
  /-- PARAM_DATA (R230). A write of PARAM_DATA writes the selected parameter into the shadow copy. -/
  | paramData (r : RegW)
  /-- PARAM_APPLY (R231). Writing 1 to APPLY copies every shadow parameter into use at the next boundary as one swap. -/
  | paramApply (r : RegW)
  /-- EXP_SELECT (R232). A write of EXP_SELECT chooses the group that EXP_DATA reaches. -/
  | expSelect (r : RegW)
  /-- EXP_DATA (R197). A write of EXP_DATA changes a group's stage exponents at the next boundary, re-expressing the loop state. -/
  | expData (r : RegW)
  /-- MORTAR_CFG (R257). A write of DET_REQ requests a determinism profile change, pending until no job runs. -/
  | mortarCfg (r : RegW)
  /-- DET_PROFILE_CHANGE (R257). At the first boundary with no job RUNNING or PAUSING the requested determinism profile takes effect. -/
  | detProfileChange
  /-- GUARD_CFG (R294). A write of GUARD_CFG sets the residue tolerance and the exponent range limits. -/
  | guardCfg (r : RegW)
  /-- CAL_CFG (R348). A write of CAL_CFG sets CAL_DT and the classes that run on their own triggers. -/
  | calCfg (r : RegW)
  /-- LASER_CFG (R354). A write of LASER_CFG sets the SPARE_AT handover threshold. -/
  | laserCfg (r : RegW)
  /-- LASER_SELECT (R355). A write of LASER_SELECT chooses the laser that LASER_STATUS reports. -/
  | laserSelect (r : RegW)
  /-- SHUTTER_FORCE (R360). A write of SHUTTER_FORCE holds the named shutters closed with no probing pulses. -/
  | shutterForce (w : Nat) (r : RegW)
  /-- TIME_CFG (R398). A write of TIME_CFG changes the root role, PPS use and root priority at the next boundary. -/
  | timeCfg (r : RegW)
  /-- FABRIC_ID (R402). A write of FABRIC_ID is stored in the Cornerstone before the OK reply and takes effect at the next boundary. -/
  | fabricId (r : RegW)
  /-- POWER_CFG (R470). A write of POWER_CFG sets the planner's standing course vote. -/
  | powerCfg (r : RegW)
  /-- IDLE_TICKS (R471). A write of an IDLE_TICKS register is checked and applied as IDLE_TIMER_SET. -/
  | idleTicks (cls : Nat) (r : RegW)
  /-- LEAF_CFG (R433). A write of LEAF_CFG sets the preferred leaf selection and reversion. -/
  | leafCfg (r : RegW)
  /-- SEC_CFG (R481). A write of SEC_CFG sets AUTO_CONFIRM and VENDOR_EN, and clearing VENDOR_EN closes vendor sessions at the next boundary. -/
  | secCfg (r : RegW)
  /-- KEYHOLE_CFG (R518). A write of KEYHOLE_CFG sets the Keyhole triggers, enable and period. -/
  | keyholeCfg (r : RegW)
  /-- KEYHOLE_INDEX (R519). A write of KEYHOLE_INDEX chooses the snapshot slot that KEYHOLE_ADDR reaches. -/
  | keyholeIndex (r : RegW)
  /-- KEYHOLE_ADDR (R529). A write of KEYHOLE_ADDR sets a slot's register address, fixing the writer's select value for selected registers. -/
  | keyholeAddr (r : RegW)
  /-- KEYHOLE_TRIGGER (R521). Writing 1 to FIRE fires Keyhole trigger 8. -/
  | keyholeTrigger (r : RegW)
  /-- CHANNEL_SELECT (R547). A write of CHANNEL_SELECT chooses the LPDDR6 channel that CHANNEL_STATUS and CHANNEL_ERRORS report. -/
  | channelSelect (r : RegW)
  /-- KEYHOLE_SNAPSHOT (R503). At the boundary after an enabled trigger, the Keyhole captures the chosen registers into one snapshot. -/
  | keyholeSnapshot
  /-- KEYHOLE_AUTO_RESUME (R505). Recording resumes by itself 60 s after a freeze. -/
  | keyholeAutoResume
  /-- CORNERSTONE_WRITE (R501). A queued Cornerstone record is written within 100 ticks and a class 8 event is sent, or dropped records are counted. -/
  | cornerstoneWrite
  /-- COMMIT_LAUNCH (R108). A queued plan launches at the first eligible boundary, and its LAUNCH step rechecks BASE and port classes, reroutes around lost elements and writes the launch record. -/
  | commitLaunch (prefer : List Nat) (badContexts : List Nat)
  /-- WINDOW_START (R210). A deferred window start begins in the first tick in which its tile has one of its 32 starts free. -/
  | windowStart (window : Nat)
  /-- COMMIT_COMPLETE (R115). A commit completes once all additions and removals are settled and verified, updating COMMIT_GEN, the Cornerstone and the final reply. -/
  | commitComplete
  /-- COMMIT_END (R570). A commit ended by abort, SAFE_HOLD, takeover or reset sends its final after the required readback, with counts and COMPLETE_TICK. -/
  | commitEnd
  /-- ENGINE_COMMIT (R125). Between host commits the engine starts a commit of its own for spare substitution, stuck-element reroute or orphan clearing. -/
  | engineCommit (prefer : List Nat)
  /-- SOLVE_START (R264). The next queued PLAN_SOLVE starts when the one before it ends. -/
  | solveStart
  /-- SOLVE_DONE (R269). A solve finishes and its plan is staged as a PLAN_STAGE, with SOLVE_TICKS reported. -/
  | solveDone (result : SolveResult) (prefer : List Nat)
  /-- THERMAL_MODEL_SLICE (R261). From cycle 900 the reserved courses compute the thermal prediction, compare it and send it to both leaves by cycle 150. -/
  | thermalModelSlice (first second : List (Nat × BitVec 16))
  /-- FF_MISS (R188). A prediction missing its cycle-150 deadline is replaced by the previous one and FF_STATE reads STALE. -/
  | ffMiss
  /-- FF_LOST (R188). After 4 consecutive misses the Mortar term fades to 0 over 100 ticks and FF_LOST is set. -/
  | ffLost
  /-- FF_RESTORE (R188). After 10 predictions on time the Mortar term rises back, FF_STATE is FRESH and the cause clears. -/
  | ffRestore
  /-- COURSE_FAIL (R254). A course with 3 EXACT mismatches or uncorrectable SRAM errors in 1 s becomes FAILED and leaves the enabled set:
  here comes one EXACT mismatch (`reason` 0) or uncorrectable SRAM error (1). -/
  | courseFail (course : Nat) (reason : Nat)
  /-- THERMAL_PARTNER_RETURN (R263). After a reserved course fails, the model takes a new partner course, reclaiming it from a job, and returns to PAIR. -/
  | thermalPartnerReturn
  /-- DMA_DONE (R278). A job DMA transfer completes and releases waits on its tag. -/
  | dmaDone (course : Nat) (tag : BitVec 8) (badChannel : Option Nat)
  /-- IMPLAUSIBLE_HOLD (R214). A mismatch above PLAUS_TOL on 8 consecutive evaluations puts the loop in hold with cause 1 and sets LOOP_IMPLAUSIBLE. -/
  | implausibleHold (index : Nat)
  /-- IMPLAUSIBLE_RELEASE (R215). A loop held with cause 1 whose mismatch stays in tolerance for 1,000 ticks is released, at most 3 times per hour. -/
  | implausibleRelease (index : Nat)
  /-- TRACE_DONE (R218). After 4,096 − PRE samples past the trigger the trace is DONE and frozen. -/
  | traceDone
  /-- REF_CHECK (R301). Once per second each sill converts the leaf references, the median is taken, and a drifting reference is marked suspect and compensated. -/
  | refCheck (refs : List Nat)
  /-- CALIBRATION_RUN (R306). A triggered calibration class runs on a unit when its gaps allow. -/
  | calibrationRun (cls : Nat) (unit : Nat) (taps : List CalTap)
  /-- WRONG_LANE_CHECK (R326). At the end of each 64-tick locked run, D is computed and a window with |D| above half LANE_EQ is flagged WRONG_LANE. -/
  | wrongLaneCheck (window : Nat)
  /-- SIGNATURE_SWEEP (R328). In the first free tick with a start free, the flagged window's heater is swept down to confirm or clear the flag.
  What the sweep finds comes from the Sense phases of its ticks; the fields `lit` and `peak` carry nothing. -/
  | signatureSweep (window : Nat) (lit peak : Unit)
  /-- WRONG_LANE_TIMEOUT (R330). A flag not swept within 100 ms makes the window's members LOST. -/
  | wrongLaneTimeout (window : Nat)
  /-- LASER_HANDOVER (R334). A working laser whose 1 s mean bias passes SPARE_AT of EOL_BIAS hands over to a READY spare by crossfade and is RETIRED. -/
  | laserHandover (laser : Nat)
  /-- LASER_FAILOVER (R335). A laser whose monitor power falls below half its set-point is switched to its spare within 2 µs and becomes FAILED. -/
  | laserFailover (laser : Nat)
  /-- LASER_EOL (R336). A working laser without a spare whose bias reaches EOL_BIAS sets the degraded cause LASER_EOL. -/
  | laserEol (laser : Nat)
  /-- PROBE_LASER_FAILURE (R338). A probe laser that loses monitor power becomes FAILED and its service ports pass to its spare. -/
  | probeLaserFailure (laser : Nat)
  /-- LOS_ENTRY (R343). An input tap below −30 dBm on 20 consecutive ticks enters loss of signal, closing a TRUNK port's shutter and sending a class 3 event. -/
  | losEntry (port : Nat)
  /-- LOS_EXIT (R345). An input tap at −27 dBm or more on 100 consecutive ticks leaves loss of signal. -/
  | losExit (port : Nat)
  /-- PROBING_PULSE (R344). Every 10 s in loss of signal a TRUNK shutter opens for a probing pulse. -/
  | probingPulse (port : Nat)
  /-- PROBING_PULSE_END (R344). After 200 ticks of emission the probing pulse ends and the shutter closes. -/
  | probingPulseEnd (port : Nat)
  /-- SHUTTER_OPENED (R341). A shutter's position sense reports fully open, and the OSC modulator then emits. -/
  | shutterOpened (port : Nat)
  /-- OSC_FRAME_RX (R365). A received OSC frame is aligned, FEC-decoded and checked, and updates the neighbour record, link delay and time offset. -/
  | oscFrameRx (f : OscFrame)
  /-- NEIGHBOUR_UP (R367). A port enters UP after 4 consecutive valid frames. -/
  | neighbourUp (port : Nat)
  /-- NEIGHBOUR_LOST (R367). A port leaves UP after 16 ticks with no valid frame. -/
  | neighbourLost (port : Nat)
  /-- NEIGHBOUR_RECORD (R369). A neighbour UP with the same SERIAL and PORT for 1 s is recorded in the Cornerstone. -/
  | neighbourRecord (port : Nat)
  /-- UPSTREAM_CHANGE (R381). A follower changes upstream when its upstream stops qualifying or another port has been preferred for 1 s. -/
  | upstreamChange (port : Nat)
  /-- FABRIC_TIME_LOCK (R384). Offset within 100 ns on 64 consecutive frames makes fabric time LOCKED, taking its one allowed step on first leaving NONE. -/
  | fabricTimeLock
  /-- FABRIC_TIME_UNLOCK (R384). Offset above 1 µs on 8 consecutive frames returns fabric time to ACQUIRING, with STEP_NEEDED set when the offset exceeds 10 ms. -/
  | fabricTimeUnlock
  /-- PPS_IN_EDGE (R394). A PPS_IN rising edge is timestamped, validating PPS_IN after 4 edges and driving the PPS root servo. -/
  | ppsInEdge (time : Nat)
  /-- PPS_IN_LOSS (R394). No PPS_IN edge within 1.001 s makes PPS_IN invalid and the root enters HOLDOVER. -/
  | ppsInLoss
  /-- PPS_OUT_PULSE (R395). At each whole second of the selected base PPS_OUT rises. -/
  | ppsOutPulse
  /-- PPS_OUT_END (R395). PPS_OUT falls after 10 ticks high. -/
  | ppsOutEnd
  /-- IDLE_TIMER_EXPIRY (R452). An unheld idle-timer domain whose count reaches TICKS begins entry to its low state. -/
  | idleTimerExpiry (domain : Nat)
  /-- DOMAIN_ENTRY (R454). A domain runs its entry steps to RETENTION or OFF, abandoning them at an abort point on a wake event. -/
  | domainEntry (domain : Nat) (wake : Bool)
  /-- DOMAIN_WAKE (R453). A woken domain returns to ON within its wake time. -/
  | domainWake (domain : Nat)
  /-- THROTTLE (R456). Above 100 °C the unreserved courses step down one operating point every 10 ms, and they step back up after 100 ms below 95 °C. -/
  | throttle (down : Bool)
  /-- SCRUB (R427). Every 60 s the lintels scrub both copies of every record and re-derive bad ones. -/
  | scrub (bad : List (Nat × Nat))
  /-- CHANNEL_FAILURE (R429). A failed LPDDR6 channel, lintel or full quarantine map moves the store to single-copy operation and shrinks the job pool. -/
  | channelFailure (channel : Nat)
  /-- ATT_BATCH_PREPARE (R482). Once 768 keys of a batch are used, the next attestation batch is derived and signed within 1 s. -/
  | attBatchPrepare
  /-- FELSO_RELOCK (R510). A debug target relocks 1 h after unlock, resuming halted cores and clearing breakpoints. -/
  | felsoRelock (target : Nat)
  /-- FELSO_REGISTER_READ (R506). Felso operation 0x01 reads a register. -/
  | felsoRegisterRead (x : FelsoTx)
  /-- FELSO_REGISTER_WRITE (R530). Felso operation 0x02 writes a register under a mask with administrator rights, checked as REG_WRITE. -/
  | felsoRegisterWrite (x : FelsoTx)
  /-- FELSO_STATUS (R506). Felso operation 0x10 returns FELSO_STATUS. -/
  | felsoStatus (x : FelsoTx)
  /-- SELECT_CORE (R506). Felso operation 0x11 selects a leaf core or a course. -/
  | selectCore (x : FelsoTx)
  /-- FELSO_HALT (R506). Felso operation 0x20 halts the selected core. -/
  | felsoHalt (x : FelsoTx)
  /-- FELSO_RESUME (R506). Felso operation 0x21 resumes the selected core. -/
  | felsoResume (x : FelsoTx)
  /-- FELSO_STEP (R506). Felso operation 0x22 steps the selected core by one instruction. -/
  | felsoStep (x : FelsoTx)
  /-- SET_BREAKPOINT (R506). Felso operation 0x23 sets a breakpoint at ADDR. -/
  | setBreakpoint (x : FelsoTx)
  /-- CLEAR_BREAKPOINT (R506). Felso operation 0x24 clears a breakpoint at ADDR. -/
  | clearBreakpoint (x : FelsoTx)
  /-- MEMORY_READ (R506). Felso operation 0x30 reads memory of the selected core. -/
  | memoryRead (x : FelsoTx)
  /-- MEMORY_WRITE (R506). Felso operation 0x31 writes memory of the selected core. -/
  | memoryWrite (x : FelsoTx)
  /-- MMA (R242). MMA multiplies KB tensors block by block into an I32 accumulator. -/
  | mma (course : Nat) (w : MWord)
  /-- MMAT (R245). MMAT is MMA with A transposed. -/
  | mmat (course : Nat) (w : MWord)
  /-- MMAW (R249). MMAW loads the array's stationary weights from SRCB. -/
  | mmaw (course : Nat) (w : MWord)
  /-- MMAS (R249). MMAS streams rows of A through the stationary weights. -/
  | mmas (course : Nat) (w : MWord)
  /-- MMAD (R249). MMAD forms a block-diagonal product. -/
  | mmad (course : Nat) (w : MWord)
  /-- MMAX (R249). MMAX is MMA with a row mask from a scalar register. -/
  | mmax (course : Nat) (w : MWord)
  /-- OUTER (R245). OUTER accumulates an outer product. -/
  | outer (course : Nat) (w : MWord)
  /-- CONV1 (R249). CONV1 performs a one-dimensional convolution along rows. -/
  | conv1 (course : Nat) (w : MWord)
  /-- ACCZ (R249). ACCZ zeroes an accumulator tensor. -/
  | accz (course : Nat) (w : MWord)
  /-- ACCSET (R249). ACCSET sets ACC_EXP of an accumulator. -/
  | accset (course : Nat) (w : MWord)
  /-- VADD (R249). VADD adds elementwise. -/
  | vadd (course : Nat) (w : MWord)
  /-- VSUB (R249). VSUB subtracts elementwise. -/
  | vsub (course : Nat) (w : MWord)
  /-- VMUL (R249). VMUL multiplies elementwise. -/
  | vmul (course : Nat) (w : MWord)
  /-- VFMA (R249). VFMA computes DST = SRCA × SRCB + DST. -/
  | vfma (course : Nat) (w : MWord)
  /-- VMAX (R249). VMAX takes the elementwise maximum. -/
  | vmax (course : Nat) (w : MWord)
  /-- VMIN (R249). VMIN takes the elementwise minimum. -/
  | vmin (course : Nat) (w : MWord)
  /-- VABS (R249). VABS takes the elementwise absolute value. -/
  | vabs (course : Nat) (w : MWord)
  /-- VNEG (R249). VNEG negates elementwise. -/
  | vneg (course : Nat) (w : MWord)
  /-- VCLAMP (R249). VCLAMP clamps elements to bounds from scalar registers. -/
  | vclamp (course : Nat) (w : MWord)
  /-- VRCP (R249). VRCP computes reciprocals by the microcode tables. -/
  | vrcp (course : Nat) (w : MWord)
  /-- VRSQ (R249). VRSQ computes reciprocal square roots. -/
  | vrsq (course : Nat) (w : MWord)
  /-- VEXP2 (R249). VEXP2 computes 2^x. -/
  | vexp2 (course : Nat) (w : MWord)
  /-- VLOG2 (R249). VLOG2 computes log2. -/
  | vlog2 (course : Nat) (w : MWord)
  /-- VCMP (R249). VCMP compares elements into a mask by compare kind. -/
  | vcmp (course : Nat) (w : MWord)
  /-- VSEL (R249). VSEL selects SRCA or SRCB by mask. -/
  | vsel (course : Nat) (w : MWord)
  /-- VAND (R249). VAND is a bitwise AND on I32. -/
  | vand (course : Nat) (w : MWord)
  /-- VOR (R249). VOR is a bitwise OR on I32. -/
  | vor (course : Nat) (w : MWord)
  /-- VXOR (R249). VXOR is a bitwise XOR on I32. -/
  | vxor (course : Nat) (w : MWord)
  /-- VSHL (R249). VSHL is a saturating left shift by MOD. -/
  | vshl (course : Nat) (w : MWord)
  /-- VSHR (R249). VSHR is a right shift by MOD. -/
  | vshr (course : Nat) (w : MWord)
  /-- QNT (R241). QNT quantises KF16 or I32 to KB format with the smallest fitting block exponent. -/
  | qnt (course : Nat) (w : MWord)
  /-- REQNT (R241). REQNT requantises KB8 to KB4 or KB2. -/
  | reqnt (course : Nat) (w : MWord)
  /-- EXPAL (R249). EXPAL realigns each block to a given exponent. -/
  | expal (course : Nat) (w : MWord)
  /-- DQNT (R245). DQNT converts KB to KF16 or I32. -/
  | dqnt (course : Nat) (w : MWord)
  /-- CVTFI (R245). CVTFI converts KF16 to I32. -/
  | cvtfi (course : Nat) (w : MWord)
  /-- CVTIF (R245). CVTIF converts I32 to KF16. -/
  | cvtif (course : Nat) (w : MWord)
  /-- EXPRD (R249). EXPRD reads block exponents into an I32 vector. -/
  | exprd (course : Nat) (w : MWord)
  /-- EXPWR (R249). EXPWR writes block exponents from an I32 vector. -/
  | expwr (course : Nat) (w : MWord)
  /-- PACK (R249). PACK packs byte mantissas into KB4 or KB2 packing. -/
  | pack (course : Nat) (w : MWord)
  /-- UNPACK (R249). UNPACK unpacks KB4 or KB2 mantissas to bytes. -/
  | unpack (course : Nat) (w : MWord)
  /-- RSUMR (R245). RSUMR computes row sums in index order. -/
  | rsumr (course : Nat) (w : MWord)
  /-- RSUMC (R245). RSUMC computes column sums in index order. -/
  | rsumc (course : Nat) (w : MWord)
  /-- RMAXR (R245). RMAXR computes row maxima. -/
  | rmaxr (course : Nat) (w : MWord)
  /-- RMINR (R245). RMINR computes row minima. -/
  | rminr (course : Nat) (w : MWord)
  /-- RARGMAX (R245). RARGMAX finds the index of the maximum, the lowest on a tie. -/
  | rargmax (course : Nat) (w : MWord)
  /-- RARGMIN (R245). RARGMIN finds the index of the minimum, the lowest on a tie. -/
  | rargmin (course : Nat) (w : MWord)
  /-- PSCAN (R245). PSCAN computes prefix sums along rows. -/
  | pscan (course : Nat) (w : MWord)
  /-- XRED (R256). XRED reduces across courses in arrival order, or in fixed order under ORDERED. -/
  | xred (course : Nat) (w : MWord)
  /-- XREDO (R249). XREDO reduces across courses in logical course order. -/
  | xredo (course : Nat) (w : MWord)
  /-- XBCAST (R249). XBCAST broadcasts from one logical course to all of the client's courses. -/
  | xbcast (course : Nat) (w : MWord)
  /-- XGATH (R249). XGATH gathers from the client's courses in course order. -/
  | xgath (course : Nat) (w : MWord)
  /-- XBAR (R245). XBAR waits at a barrier across the client's courses. -/
  | xbar (course : Nat) (w : MWord)
  /-- LD (R249). LD loads a tensor in SRAM. -/
  | ld (course : Nat) (w : MWord)
  /-- ST (R249). ST stores a tensor in SRAM. -/
  | st (course : Nat) (w : MWord)
  /-- LDS (R249). LDS loads a scalar register from SRAM. -/
  | lds (course : Nat) (w : MWord)
  /-- STS (R249). STS stores a scalar register to SRAM. -/
  | sts (course : Nat) (w : MWord)
  /-- COPY (R249). COPY copies between SRAM descriptors. -/
  | copy (course : Nat) (w : MWord)
  /-- FILL (R249). FILL fills a descriptor with a scalar value. -/
  | fill (course : Nat) (w : MWord)
  /-- DMAIN (R249). DMAIN starts a transfer from the job's LPDDR6 region into SRAM. -/
  | dmain (course : Nat) (w : MWord)
  /-- DMAOUT (R249). DMAOUT starts a transfer from SRAM to the job's LPDDR6 region. -/
  | dmaout (course : Nat) (w : MWord)
  /-- DMA2D (R249). DMA2D starts a strided transfer in either direction. -/
  | dma2d (course : Nat) (w : MWord)
  /-- DMAWAIT (R249). DMAWAIT waits for the transfers of a tag. -/
  | dmawait (course : Nat) (w : MWord)
  /-- GATHER (R249). GATHER performs an indexed load. -/
  | gather (course : Nat) (w : MWord)
  /-- SCATTER (R249). SCATTER performs an indexed store. -/
  | scatter (course : Nat) (w : MWord)
  /-- SCATADD (R256). SCATADD accumulates at indices, with collisions ordered by arrival or by source order under ORDERED. -/
  | scatadd (course : Nat) (w : MWord)
  /-- SNAP (R279). SNAP copies a boundary-consistent telemetry snapshot into job memory. -/
  | snap (course : Nat) (w : MWord)
  /-- BR (R249). BR branches by the signed immediate. -/
  | br (course : Nat) (w : MWord)
  /-- BRC (R249). BRC branches when a scalar register compares with 0. -/
  | brc (course : Nat) (w : MWord)
  /-- CALL (R249). CALL pushes a return and branches. -/
  | call (course : Nat) (w : MWord)
  /-- RET (R249). RET pops a return address. -/
  | ret (course : Nat) (w : MWord)
  /-- LOOP (R249). LOOP starts a counted loop. -/
  | loop (course : Nat) (w : MWord)
  /-- ENDL (R245). ENDL closes a counted loop. -/
  | endl (course : Nat) (w : MWord)
  /-- SETR (R249). SETR writes a sign-extended immediate to a scalar register. -/
  | setr (course : Nat) (w : MWord)
  /-- ADDR (R249). ADDR adds scalar registers, saturating. -/
  | addr (course : Nat) (w : MWord)
  /-- MULR (R249). MULR multiplies scalar registers, saturating. -/
  | mulr (course : Nat) (w : MWord)
  /-- CMPR (R249). CMPR compares scalar registers to 1 or 0. -/
  | cmpr (course : Nat) (w : MWord)
  /-- TDESC (R249). TDESC loads a tensor descriptor from scalar registers. -/
  | tdesc (course : Nat) (w : MWord)
  /-- WAITD (R249). WAITD waits for an outstanding operand. -/
  | waitd (course : Nat) (w : MWord)
  /-- YIELD (R245). YIELD is a declared pause point. -/
  | yield (course : Nat) (w : MWord)
  /-- HALT (R285). HALT ends the job with a code. -/
  | halt (course : Nat) (w : MWord)
  /-- GCFG (R253). GCFG selects EXACT or SHADOW residue checking for later instructions. -/
  | gcfg (course : Nat) (w : MWord)
  /-- GSTAT (R249). GSTAT reads the client's sticky flags into a scalar register. -/
  | gstat (course : Nat) (w : MWord)
  /-- FLAGCLR (R249). FLAGCLR clears the client's selected sticky flags. -/
  | flagclr (course : Nat) (w : MWord)
  /-- TICKRD (R245). TICKRD reads TICK_COUNT. -/
  | tickrd (course : Nat) (w : MWord)
  /-- PERF (R245). PERF reads the course cycle counter. -/
  | perf (course : Nat) (w : MWord)
  /-- RNG (R245). RNG reads 64 bits from the entropy source. -/
  | rng (course : Nat) (w : MWord)
  /-- PROP (R280). PROP stages a plan proposal from the job's buffer and writes the status and PLAN_ID back. -/
  | prop (course : Nat) (w : MWord)
  /-- TRAP (R285). TRAP ends the job with a trap code. -/
  | trap (course : Nat) (w : MWord)
  /-- INSTR_NOP (R245). The Mortar NOP instruction does nothing. -/
  | instrNop (course : Nat) (w : MWord)
  /-- FFIN (R249). FFIN is the thermal model input instruction, reserved to the model. -/
  | ffin (course : Nat) (w : MWord)
  /-- FFOUT (R249). FFOUT is the thermal model output instruction, reserved to the model. -/
  | ffout (course : Nat) (w : MWord)
  /-- SILL_LINK_RESTORED (R90). A sill link that was down comes back up, SILL_STATUS.STATE returns to 0 and the degraded cause SILL_LINK clears. -/
  | sillLinkRestored (sill : Nat) (leaf : Side)
  /-- FAULT_N_ASSERT (R457). FAULT_N is driven low when no leaf has held the lease for 150,000 ticks after a lease ended. -/
  | faultNAssert
  /-- UNDEFINED_OPCODE (R169). A request packet with an undefined opcode, opcode 0x0F or an unspoken VERSION is refused with E_PARAM or E_VERSION and no side effect. -/
  | undefinedOpcode (opcode : Byte) (p : Packet)
deriving DecidableEq, Repr

end Sys2Proof
end

