-- ==== Sys2Proof/Machine/Bytes.lean ====
section
/-! DEFINITION. Bytes and numbers: little-endian fields (R16), bit fields (R15), saturating counts, CRC-32C, CRC-8,
SHA-256 (R146), exact rounding to nearest-even (R194, R243), and lists keyed by index. -/

namespace Sys2Proof.Machine

/-- The `n` low bytes of `v`, lowest first (R16). -/
def le : Nat → Nat → List Byte
  | 0, _ => []
  | n + 1, v => BitVec.ofNat 8 (v % 256) :: le n (v / 256)

/-- The number that bytes spell, lowest first (R16). -/
def unle : List Byte → Nat
  | [] => 0
  | b :: bs => b.toNat + 256 * unle bs

/-- `n` bytes at offset `off`; bytes past the end read 0. -/
def slice (bs : List Byte) (off n : Nat) : List Byte :=
  let t := (bs.drop off).take n
  t ++ List.replicate (n - t.length) 0

/-- The little-endian field of `n` bytes at offset `off`. -/
def field (bs : List Byte) (off n : Nat) : Nat :=
  unle (slice bs off n)

/-- `v` as an unsigned `n`-byte two's-complement number. -/
def wrapInt (n : Nat) (v : Int) : Nat :=
  (v % (2 ^ (8 * n) : Int)).toNat

/-- The signed number that an unsigned `bits`-wide pattern spells. -/
def signed (bits v : Nat) : Int :=
  if 2 ^ (bits - 1) ≤ v then (v : Int) - 2 ^ bits else v

/-- The signed little-endian field of `n` bytes. -/
def fieldS (bs : List Byte) (off n : Nat) : Int :=
  signed (8 * n) (field bs off n)

/-- Pad to a multiple of 8 bytes (R145). -/
def pad8 (bs : List Byte) : List Byte :=
  bs ++ List.replicate ((8 - bs.length % 8) % 8) 0

/-- Every byte from `off` on, `n` of them, is 0. -/
def zeros (bs : List Byte) (off n : Nat) : Bool :=
  ((bs.drop off).take n).all (· == 0)

/-- Bits [hi:lo] of a number (R15). -/
def bits (v hi lo : Nat) : Nat :=
  (v / 2 ^ lo) % 2 ^ (hi + 1 - lo)

/-- Bit `n` of a number. -/
def bitAt (v n : Nat) : Bool :=
  v.testBit n

/-- `v` placed at bit `lo` of a register. -/
def at_ (lo v : Nat) : Word :=
  BitVec.ofNat 32 (v * 2 ^ lo)

/-- A Bool as a bit. -/
def b2n (b : Bool) : Nat :=
  if b then 1 else 0

/-- A count that stops at `top`. -/
def sat (top v : Nat) : Nat :=
  if top < v then top else v

/-- Clamp to [lo, hi]. -/
def clampI (lo hi v : Int) : Int :=
  if v < lo then lo else if hi < v then hi else v

/-- Round to the nearest integer, ties to even (R194, R243). -/
def roundNE (x : Rat) : Int :=
  let f := x.floor
  let d := x - f
  if d < 1 / 2 then f else if 1 / 2 < d then f + 1 else if f % 2 = 0 then f else f + 1

/-- 2 to an integer power. -/
def pow2 (e : Int) : Rat :=
  if 0 ≤ e then (2 ^ e.toNat : Nat) else 1 / ((2 ^ (-e).toNat : Nat) : Rat)

/-- Look a key up in a list of pairs. -/
def aget {α : Type} (d : α) (l : List (Nat × α)) (k : Nat) : α :=
  match l with
  | [] => d
  | (j, x) :: t => if j = k then x else aget d t k

/-- Put a value at a key: replaced where it stands, else added at the end. -/
def aput {α : Type} (l : List (Nat × α)) (k : Nat) (x : α) : List (Nat × α) :=
  match l with
  | [] => [(k, x)]
  | (j, y) :: t => if j = k then (k, x) :: t else (j, y) :: aput t k x

/-- Change the value at a key, from the default where the key is not listed. -/
def amod {α : Type} (d : α) (l : List (Nat × α)) (k : Nat) (f : α → α) : List (Nat × α) :=
  aput l k (f (aget d l k))

/-- Element `k` of a list, or a default. -/
def lget {α : Type} (d : α) (l : List α) (k : Nat) : α :=
  (l[k]?).getD d

/-- Change element `k` of a list. -/
def lmod {α : Type} (l : List α) (k : Nat) (f : α → α) : List α :=
  match l, k with
  | [], _ => []
  | x :: t, 0 => f x :: t
  | x :: t, n + 1 => x :: lmod t n f

/-- Add to a list without repeats. -/
def insertNew {α : Type} [DecidableEq α] (x : α) (l : List α) : List α :=
  if x ∈ l then l else l ++ [x]

/-- Sum of a list of numbers. -/
def sumN (l : List Nat) : Nat :=
  l.foldl (· + ·) 0

/-- Sum of a list of integers. -/
def sumI (l : List Int) : Int :=
  l.foldl (· + ·) 0

/-- The mask of the elements of `l` below `n`. -/
def maskOf (n : Nat) (l : List Nat) : Nat :=
  sumN ((List.range n).map fun k => if k ∈ l then 2 ^ k else 0)

/-- The set bits of a number below `n`. -/
def bitsSet (n v : Nat) : List Nat :=
  (List.range n).filter fun k => v.testBit k

/-! ### CRC-32C, CRC-8 -/

/-- One bit of CRC-32C, reflected, polynomial 0x82F63B78 (PRESUMED, log 19: the standard the spec names). -/
def crcBit (c : Word) : Word :=
  if c.getLsbD 0 then (c >>> 1) ^^^ 0x82F63B78 else c >>> 1

/-- One byte of CRC-32C. -/
def crcByte (c : Word) (b : Byte) : Word :=
  let x := c ^^^ b.zeroExtend 32
  crcBit (crcBit (crcBit (crcBit (crcBit (crcBit (crcBit (crcBit x)))))))

/-- CRC-32C of bytes. -/
def crc32c (bs : List Byte) : Word :=
  bs.foldl crcByte 0xFFFFFFFF ^^^ 0xFFFFFFFF

/-- One bit of CRC-8, MSB first, polynomial 0x07 (R506). -/
def crc8Bit (c : Byte) : Byte :=
  if c.getLsbD 7 then (c <<< 1) ^^^ 0x07 else c <<< 1

/-- CRC-8 of bytes, from 0 (R506; the start value is not stated: DESIGN CHOICE 0, log 113). -/
def crc8 (bs : List Byte) : Byte :=
  bs.foldl (fun c b => crc8Bit (crc8Bit (crc8Bit (crc8Bit (crc8Bit (crc8Bit (crc8Bit (crc8Bit (c ^^^ b))))))))) 0

/-- The bytes of a word, highest first. -/
def beWord (w : Word) : List Byte :=
  (le 4 w.toNat).reverse

/-! ### SHA-256 (PRESUMED, log 19: the public hash standard that R146 names)

A block is worked through with a window of sixteen message words that slides by one word a round. -/

/-- The first 64 primes, from which the hash draws its constants. -/
def hashPrimes : List Nat :=
  [2, 3, 5, 7, 11, 13, 17, 19, 23, 29, 31, 37, 41, 43, 47, 53, 59, 61, 67, 71, 73, 79, 83, 89, 97, 101, 103, 107, 109, 113, 127,
    131] ++
  [137, 139, 149, 151, 157, 163, 167, 173, 179, 181, 191, 193, 197, 199, 211, 223, 227, 229, 233, 239, 241, 251, 257, 263, 269,
    271, 277, 281, 283, 293, 307, 311]

/-- The root of degree `k` of `n`, rounded down, found from its highest bit. -/
def rootDown (k n : Nat) : Nat → Nat → Nat
  | 0, r => r
  | b + 1, r => rootDown k n b (if (r + 2 ^ b) ^ k ≤ n then r + 2 ^ b else r)

/-- The first 32 bits of the fraction of a prime's root. -/
def rootFraction (k p : Nat) : Nat := rootDown k (p * 2 ^ (32 * k)) 35 0 % 2 ^ 32

/-- The eight chained values. -/
structure HashVars where
  a : Nat
  b : Nat
  c : Nat
  d : Nat
  e : Nat
  f : Nat
  g : Nat
  h : Nat
deriving DecidableEq, Repr

/-- A 32-bit value turned right. -/
def turnRight (n x : Nat) : Nat := x / 2 ^ n + x % 2 ^ n * 2 ^ (32 - n)

/-- One round; `kw` is the round's constant with its message word. -/
def HashVars.round (v : HashVars) (kw : Nat) : HashVars :=
  let t := v.h + (turnRight 6 v.e ^^^ turnRight 11 v.e ^^^ turnRight 25 v.e) + (v.g ^^^ (v.e &&& (v.f ^^^ v.g))) + kw
  let u := (turnRight 2 v.a ^^^ turnRight 13 v.a ^^^ turnRight 22 v.a) + ((v.a &&& v.b) ||| (v.c &&& (v.a ||| v.b)))
  { a := (t + u) % 2 ^ 32, b := v.a, c := v.b, d := v.c, e := (v.d + t) % 2 ^ 32, f := v.e, g := v.f, h := v.g }

/-- The word that follows a window of sixteen. -/
def nextWord (w : List Nat) : Nat :=
  let near := lget 0 w 14
  let far := lget 0 w 1
  (lget 0 w 0 + lget 0 w 9 + (turnRight 7 far ^^^ turnRight 18 far ^^^ (far / 2 ^ 3)) +
    (turnRight 17 near ^^^ turnRight 19 near ^^^ (near / 2 ^ 10))) % 2 ^ 32

/-- A round with the window's first word, and the window moved on. -/
def slideRound (p : List Nat × HashVars) (k : Nat) : List Nat × HashVars :=
  (p.1.tail ++ [nextWord p.1], p.2.round (k + lget 0 p.1 0))

/-- The values after the 64-byte block at an offset. -/
def HashVars.block (ks : List Nat) (bs : List Byte) (v : HashVars) (n : Nat) : HashVars :=
  let w := (List.range 16).map fun j => unle (slice bs (64 * n + 4 * j) 4).reverse
  let x := (ks.foldl slideRound (w, v)).2
  let add (p q : Nat) : Nat := (p + q) % 2 ^ 32
  { a := add v.a x.a, b := add v.b x.b, c := add v.c x.c, d := add v.d x.d
    e := add v.e x.e, f := add v.f x.f, g := add v.g x.g, h := add v.h x.h }

/-- The values before the first block: square roots of the first eight primes. -/
def HashVars.start : HashVars :=
  let r (k : Nat) : Nat := rootFraction 2 (lget 0 hashPrimes k)
  { a := r 0, b := r 1, c := r 2, d := r 3, e := r 4, f := r 5, g := r 6, h := r 7 }

/-- SHA-256 of bytes. -/
def sha256 (bs : List Byte) : List Byte :=
  let padded := bs ++ 0x80 :: List.replicate ((119 - bs.length % 64) % 64) 0 ++ (le 8 (8 * bs.length)).reverse
  let v := (List.range (padded.length / 64)).foldl (HashVars.block (hashPrimes.map (rootFraction 3)) padded) .start
  [v.a, v.b, v.c, v.d, v.e, v.f, v.g, v.h].flatMap fun x => (le 4 x).reverse

end Sys2Proof.Machine
end

