-- ==== Sys2Proof/Config.lean ====
section
/-! DEFINITION. What one module fixes at manufacture and what the spec leaves open: constants without a body, so that
no proof can see their value. Each is named in a row of the assumption log. -/

namespace Sys2Proof.Config

/-- Byte `i` of the 16 ASCII bytes of the module serial (R169 IDENTIFY, R483). Fixed at manufacture. -/
opaque serialByte : Nat → Byte

/-- The boot ROM version (IDENTIFY, Table 3 of the security chapter). -/
opaque romVersion : Word

/-- The image version of the factory image, which FW_COUNTER equals on a new module (R487). -/
opaque factoryVersion : Word

/-- The Mortar microcode version carried by an image of the given version (R485). -/
opaque microcodeOf : Nat → Word

/-- Bytes that the security engine returns and whose computation is keyed by secrets of the module (attestation
digests, signatures, keys and paths of R483, certificate of R477): byte `i` of item `k` for a report made with counter `n`. -/
opaque securityByte : (item : Nat) → (n : Nat) → (i : Nat) → Byte

/-- Free bytes: NONCE values (R148, R507), the entropy source (R245 RNG), contents that the spec does not state. The
argument is a counter held in State. -/
opaque freeByte : Nat → Byte

/-- ROLE of an event packet: the field is the role a command acts with, and an event answers none (R142). -/
opaque eventRole : BitVec 3

/-- Byte `i` of the public part of a Kwefold key, which the boot ROM holds (R481). -/
opaque kwefoldByte : (key : Nat) → (i : Nat) → Byte

/-- The factory image, encrypted, as it lies in the flash of a new module (R484, R487). -/
opaque factoryImage : List Byte

/-- The content key of an image, rewrapped under the module's key-encryption key, a secret (R476, R486). -/
opaque rewrappedCek : (image : List Byte) → List Byte

/-- The plaintext payload of an image that passes its checks: decrypted under its content key, which the fleet image key wraps (R485). -/
opaque plaintext : (image : List Byte) → List Byte

/-- A free natural number, for a value that the spec leaves open. -/
opaque freeNat : Nat → Nat

/-- A value the spec leaves open that depends on the operands of a Mortar operation (a result the spec does not
state: `op` numbers the operation, the list holds its operands). -/
opaque mortarOpen : (op : Nat) → List Int → Int

/-- The microcode tables behind VRCP, VRSQ, VEXP2 and VLOG2 (Table 5 of the Mortar chapter): not published. `op` is the
instruction (0 = VRCP, 1 = VRSQ, 2 = VEXP2, 3 = VLOG2), `fmt` the format code, then the operand's 16 or 32 bits. The result comes
before saturation: in units of 2^−39 for KF16, as an integer for I32. -/
opaque microcodeTable : (op fmt : Nat) → Nat → Int

/-- H_PARK0 of window `i` at tile temperature point `k` (40 + 5k °C), in 0.2 µW (R320); set at manufacture. -/
opaque hPark0 : (window : Nat) → (k : Nat) → Nat

/-- H_LOCK0 of window `i` at point `k`, in 0.2 µW (R320); set at manufacture. -/
opaque hLock0 : (window : Nat) → (k : Nat) → Nat

/-- I_TH of laser `l` at heat-sink temperature row `k` (15 + 5k °C), 0.01 mA (R321); manufacture value. -/
opaque laserITh : (laser : Nat) → (k : Nat) → Nat

/-- SLOPE of laser `l` at row `k`, 0.01 mA/mW (R321). -/
opaque laserSlope : (laser : Nat) → (k : Nat) → Nat

/-- COOL of laser `l` at row `k`, signed 0.1 mA (R321). -/
opaque laserCool : (laser : Nat) → (k : Nat) → Int

/-- NOMINAL_T of laser `l`, signed 1/16 °C (R321). -/
opaque laserNominalT : Nat → Int

/-- COOL_SLOPE of laser `l`, signed 0.1 mA per °C (R321). -/
opaque laserCoolSlope : Nat → Int

/-- EOL_BIAS of laser `l`, 0.01 mA (R321); set at manufacture. -/
opaque laserEolBias : Nat → Nat

/-- The calibrated set-point that a laser loop starts from (R206), in class unit × 2^16; `temp` selects the
temperature loop. -/
opaque laserSetpoint : (laser : Nat) → (temp : Bool) → Int

/-- What scaling a power by the ratio `num` / `den` adds to it in 0.01 dB (R302): the chapter gives no rounding of the logarithm. -/
opaque ratioDb : (num den : Nat) → Int

/-- Calibration values set at manufacture (R315 – R319): class, unit, tap, and which of the tap's values. -/
opaque calManufacture : (cls : Nat) → (unit : Nat) → (tap : Nat) → (item : Nat) → Int

/-- How many taps a unit of INTEGRATOR or MONITOR has: integrator channels of a sill and port monitor taps it serves. -/
opaque calTaps : (cls : Nat) → (unit : Nat) → Nat

/-- The rate, in ppb relative to tick time, that the servo of fabric time sets on a new offset (2^−16 ns) from its present
rate (R384): the spec gives its time constant and limits, not its law. -/
opaque servoRate : (fstate : Nat) → (offset : Int) → (rate : Int) → Int

/-- What a window's TRIM, in 0.2 µW units, adds to its position reading (R184), in GHz × 2^16: the spec gives no conversion. -/
opaque opticalTrim : (window : Nat) → (trim : Int) → Int

/-- A measured quantity that the spec reports and does not derive from anything the model holds; `what` is the register's
address, `now` the tick. -/
opaque openReading : (what : Nat) → (now : Nat) → Nat

/-- The calibrated value of a loop parameter that firmware loads during BOOT (R200): class, set, code to mantissa and
exponent. -/
opaque calibratedParam : (cls : Nat) → (set : Nat) → (code : Nat) → Int × Int

end Sys2Proof.Config
end

