-- ==== Sys2Proof/Machine/State.lean ====
section
/-! DEFINITION. The state of the module as plain data: every register, queue, record and mode the spec names, the queue of
waiting commands, and the state after reset. -/

namespace Sys2Proof.Machine

/-- Ordering codes (R3). -/
inductive Variant where
  | l
  | lc
  | p
deriving DecidableEq, Repr

/-- Leaf states (01 Table 6). -/
inductive LeafState where
  | off
  | boot
  | recovery
  | standby
  | ready
  | committing
  | degraded
  | safeHold
deriving DecidableEq, Repr

/-- Bits that stay set when the hardware sets them in the tick of a clearing write (R20): the bits, and those set in
this tick. -/
structure Sticky where
  bits  : Word
  fresh : Word
deriving DecidableEq, Repr

/-- The highest value since a register's last read (R20): since the read, since the last boundary, and since the last mirror. -/
structure Peak where
  val   : Nat
  edge  : Nat
  guard : Nat
deriving DecidableEq, Repr

/-- What of the tick has been done last: its boundary, or one of the phases of 01 Table 4 (R32). -/
inductive Phase where
  | boundary
  | sense
  | compute
  | actuate
  | commit
  | guard
deriving DecidableEq, Repr

/-- The tick (R30 – R40). `now` is the model's own count of tick boundaries, which nothing rebases; `refRun` counts the
boundaries since REFCLK last failed; the late lists are the sills and groups whose units were carried out of the phase's last
run (R36), `commitLate` says that the engine's step was, and `senseGot` the sills whose sets of this tick the working leaf has. -/
structure Tick where
  count         : Nat
  now           : Nat
  running       : Bool
  phase         : Phase
  senseGot      : List Nat
  senseLate     : List Nat
  computeLate   : List Nat
  actuateLate   : List Nat
  commitLate    : Bool
  refRun        : Nat
  ovrSense      : Nat
  ovrCompute    : Nat
  ovrActuate    : Nat
  ovrCommit     : Nat
  carryRun      : Nat
  cleanRun      : Nat
  carried       : Bool
  rebased       : Sticky
  src           : Bool
  refclkValid   : Bool
  coreA         : Bool
  coreB         : Bool
deriving DecidableEq, Repr

/-- The supply inputs as the power controller times them (R442 – R449, R467); instants are µs of its ring oscillator. -/
structure Supply where
  us          : Nat
  vaux        : Bool
  vana        : Bool
  vin54       : Bool
  vauxAt      : Nat
  vanaAt      : Nat
  vanaFellAt  : Option Nat
  vin54FellAt : Option Nat
  volts       : Nat
  armed       : Bool
  rails       : Bool
  seqHold     : Bool
  seq         : Bool
  memsOk      : Bool
  memsBad     : Nat
  resetN      : Bool
  slotId      : BitVec 4
  interlock   : Bool
  faultN      : Bool
deriving DecidableEq, Repr

/-- A running mean over the last 100,000 ticks: (tick, sample) pairs, newest first. -/
structure Meter where
  samples : List (Nat × Nat)
deriving DecidableEq, Repr

/-- Lease states of a sill (R405). -/
inductive Lease where
  | none
  | valid
  | lapsed
  | released
deriving DecidableEq, Repr

/-- A sill: its lease record (R405, R408, R409), its links and its drive (R83, R90). -/
structure Sill where
  epoch   : Nat
  lease   : Lease
  missed  : Nat
  renewed : Bool
  hold    : Bool
  grant   : Option Nat
  notice  : Bool
  linkA   : Bool
  linkB   : Bool
  silent  : Nat
  lost    : Bool
  powered : Bool
deriving DecidableEq, Repr

/-- Ways control moves (09 Table 2), as LAST_FAILOVER.KIND numbers them from 1. -/
inductive Move where
  | release
  | switch
  | revert
  | lapse
  | forced
deriving DecidableEq, Repr

/-- One leaf (R41, R405 – R425). `resetDue` is the cause of a reset of its own that has stopped it, until its state changes at
the next boundary (R35). -/
structure LeafSt where
  state      : LeafState
  inReset    : Bool
  resetDue   : Option Nat
  railsDown  : Bool
  epoch      : Nat
  highest    : Nat
  granting   : Bool
  stopped    : Bool
  failed     : BitVec 8
  degraded   : Bool
  causeLast  : Nat
  causePrev  : Nat
  hasMirror  : Bool
  toRecovery : Bool
  bootReads  : Bool
  plain      : List Byte
deriving DecidableEq, Repr

/-- Who awaits a final reply: link, session, tag, opcode, and the role that the command acts with. -/
structure Waiter where
  link    : Side
  session : Word
  tag     : BitVec 16
  opcode  : Nat
  role    : Nat
deriving DecidableEq, Repr

/-- The two leaves and what lies between them (R405 – R425, R431 – R441). `resetAt` is the cause of a module reset asked for;
`resetNow` says that the boundary at which it begins has come; `mirrorTick` is the tick of the last mirror. -/
structure Leaves where
  leaf        : Pair LeafSt
  active      : Option Side
  cfg         : Word
  prefStrap   : Bool
  xlinkUp     : Bool
  xlinkMiss   : Nat
  xlinkGood   : Nat
  reportClean : Bool
  reportSeen  : Bool
  reportItems : BitVec 8
  reportTick  : Nat
  cleanTicks  : Nat
  switchTo    : Option (Side × Waiter × Bool)
  releasing   : Option Move
  foLapse     : Nat
  foRelease   : Nat
  foForced    : Nat
  foRevert    : Nat
  lastGap     : Nat
  lastItem    : BitVec 8
  lastKind    : Nat
  lastTo      : Nat
  noDrive     : Nat
  leaseEnded  : Option Nat
  everHeld    : Bool
  reinit      : List (Nat × Nat × Option Waiter)
  reinitLog   : List (Nat × Nat)
  exhausted   : BitVec 8
  reinitFails : Nat
  reinits     : Nat
  retries     : Nat
  wantHold    : Bool
  holdCauses  : BitVec 3
  holdSeen    : Sticky
  holdRelease : Bool
  resetAt     : Option Nat
  resetNow    : Bool
  mirrorTick  : Option Nat
  loopsOut    : Option Nat
  rebuildDue  : Bool
  faults      : BitVec 8
  rcDue       : List Nat
  causes      : Word
  causesSent  : Word
  moduleByte  : Pair Nat
deriving DecidableEq, Repr

/-- Roles (04 Table 3) are their codes 0 – 4. Selects of one accessor (R527). -/
structure Selects where
  brick   : Nat
  loop    : Nat
  param   : Word
  exp     : Nat
  laser   : Nat
  keyhole : Nat
  channel : Nat
deriving DecidableEq, Repr

/-- Latched words of one accessor's register groups (R18, R528): (address, value). -/
structure Latch where
  words : List (Nat × Word)
deriving DecidableEq, Repr

/-- An open session (R148 – R151, R176, R177). -/
structure Session where
  link     : Side
  id       : Word
  role     : Nat
  nonce    : List Byte
  opened   : Nat
  keyId    : Option Word
  mask     : BitVec 64
  evSeq    : Nat
  lost     : Nat
  sel      : Selects
  latch    : Latch
deriving DecidableEq, Repr

/-- A packet the module sends, or holds until credit comes: a reply or an event (04 Table 2). -/
structure OutPkt where
  version : Nat
  role    : Nat
  session : Word
  tag     : BitVec 16
  opcode  : Nat
  flags   : Nat
  status  : Nat
  state   : Nat
  payload : List Byte
deriving DecidableEq, Repr

/-- A data frame that the module has sent and the other end has not acknowledged (04 Table 1): what a replay sends again. -/
structure DataFrame where
  seq  : BitVec 12
  sop  : Bool
  eop  : Bool
  data : List Byte
deriving DecidableEq, Repr

/-- One Zudin link and its leaf's side of the protocol (R137 – R167, R180, R181, R536, R537). `wire` holds the 256 bytes of every
data and control frame and retrain request sent; `received` the packets received whole that the leaf has not taken yet. -/
structure LinkSt where
  state      : Nat
  oneLane    : Bool
  pktCredit  : Nat
  byteCredit : Nat
  downs      : Nat
  discards   : Nat
  replays    : Nat
  txSeq      : BitVec 12
  rxAck      : BitVec 12
  unacked    : List DataFrame
  wire       : List (List Byte)
  received   : List (List Byte)
  nakDue     : Bool
  failReplay : Nat
  partialRx  : List Byte
  idleTicks  : Nat
  downTick   : Option Nat
  rejects    : List Nat
  backoff    : Option Nat
  waiting    : List OutPkt
  sent       : List OutPkt
  owedPkts   : Nat
  owedBytes  : Nat
  tx         : Meter
  rx         : Meter
deriving DecidableEq, Repr

/-- A command that awaits its final, or a final that is held (R158 – R162). -/
structure Held where
  link      : Side
  session   : Word
  tag       : BitVec 16
  opcode    : Nat
  role      : Nat
  hash      : List Byte
  journaled : Bool
  holder    : Side
  mirrored  : Bool
  final     : Option (Nat × List Byte)
  ready     : Nat
  reserved  : Nat
  seen      : Bool
deriving DecidableEq, Repr

/-- Circuit kinds (02 Table 2). -/
inductive Kind where
  | port
  | lane0
  | lane
deriving DecidableEq, Repr

/-- Circuit states (03 Table 1). -/
inductive CState where
  | planned
  | making
  | active
  | atRisk
  | lost
  | breaking
  | notMade
deriving DecidableEq, Repr

/-- What names a circuit: kind, ports, lane (0 for port and lane 0 circuits). -/
structure Circuit where
  kind : Kind
  src  : Nat
  dst  : Nat
  lane : Nat
deriving DecidableEq, Repr

/-- A context record (03 Table 2). -/
structure Context where
  circ      : Circuit
  state     : CState
  middle    : Option Nat
  pinned    : Bool
  override  : Bool
  lit       : Bool
  moved     : Bool
  recovered : Bool
  planId    : Word
  gen       : Word
  jobTag    : Word
  monPower  : Option Int
  ctx       : Nat
deriving DecidableEq, Repr

/-- A fabric-time or host-time instant in units of 2^−16 ns. -/
abbrev Instant := Int

/-- Where a plan came from. -/
inductive Origin where
  | host
  | circuit
  | solver
  | job (slot course : Nat)
deriving DecidableEq, Repr

/-- Plan states (04, PSTATE), with the check still running first. -/
inductive PState where
  | checking
  | staged
  | queued
  | running
deriving DecidableEq, Repr

/-- One circuit of a plan's schedule: what its elements and windows do. -/
inductive Change where
  | add
  | remove
  | move
deriving DecidableEq, Repr

/-- Progress of one circuit in a commit. -/
inductive Progress where
  | waiting
  | fired (tick : Nat)
  | placed (tick : Nat)
  | made (tick : Nat)
  | verified
  | notMade
  | cleared
  | notCleared
  | unchanged
deriving DecidableEq, Repr

/-- A circuit as the commit engine works on it (R112 – R119). `was` is the member's state before the commit. -/
structure Item where
  change   : Change
  circ     : Circuit
  clears   : List Elem
  sets     : List Elem
  lock     : List Nat
  park     : List Nat
  stage    : Nat
  middle   : Option Nat
  prog     : Progress
  repaired : Bool
  split    : Nat
  done     : List Elem
  power    : Option Int
  was      : CState
deriving DecidableEq, Repr

/-- A plan of the plan table (R95, R100, R102). -/
structure Plan where
  id       : Word
  base     : Word
  scope    : BitVec 512
  allowMove : Bool
  override : Bool
  makeFirst : Bool
  entries  : List Entry
  state    : PState
  origin   : Origin
  waiter   : Option Waiter
  commitW  : Option Waiter
  accepted : Nat
  n        : Nat
  w        : Nat
  n2       : Nat
  w2       : Nat
  moves    : Nat
  trans    : Nat
  route    : List (Circuit × Nat)
  moveTo   : List (Circuit × Nat)
  timed    : Option Instant
  lateAcc  : Bool
  gen      : Word
  damaged  : Bool
  ctxs     : List Nat
  clear    : Bool
  baseSet  : List Context
  baseOk   : Bool
  stale    : Bool
  waited   : Bool
deriving DecidableEq, Repr

/-- The launch record (03 Table 6). -/
structure LaunchRec where
  planId   : Word
  gen      : Word
  tick     : Nat
  req      : Option Instant
  time     : Instant
  complete : Nat
  flags    : BitVec 8
deriving DecidableEq, Repr

/-- The kept outcome of a commit (R96); `serial` numbers it among the completed commits. -/
structure Outcome where
  planId    : Word
  n         : Nat
  w         : Nat
  n2        : Nat
  w2        : Nat
  launched  : LaunchRec
  counts    : List Nat
  list      : List (Entry × Nat)
  gen       : Word
  serial    : Nat
deriving DecidableEq, Repr

/-- Why a commit ends before completing (R570). -/
inductive EndWhy where
  | abort
  | safeHold
  | reset
  | takeover
  | reinit
deriving DecidableEq, Repr

/-- A move that waits for its readback: element, state intended, tick fired, whether it was the 50 V retry, sill. -/
structure Fired where
  elem  : Elem
  set   : Bool
  tick  : Nat
  retry : Bool
deriving DecidableEq, Repr

/-- The running commit, host or engine. `avail` lists the middles (plane, brick) usable at its launch (R127); `sent` counts the
batches of the present stage. -/
structure Running where
  engine   : Bool
  planId   : Word
  launch   : Nat
  record   : LaunchRec
  items    : List Item
  stage    : Nat
  n        : Nat
  w        : Nat
  n2       : Nat
  w2       : Nat
  batchMoves : List (Elem × Bool)
  batchRetry : List (Elem × Bool)
  ending   : Option EndWhy
  stuck    : Nat
  lastFire : Nat
  settled  : Option Nat
  verified : Bool
  begun    : Bool
  orph     : List Elem
  budget   : Nat
  avail    : List (Nat × Nat)
  sent     : Nat
deriving DecidableEq, Repr

/-- The plan/commit engine (R91 – R135). -/
structure Engine where
  gen        : Word
  members    : List Context
  plans      : List Plan
  queue      : List Word
  run        : Option Running
  outcomes   : List Outcome
  fired      : List Fired
  retryQ     : List (Elem × Bool)
  lastTicks  : Nat
  peakTicks  : Peak
  lastLaunch : Nat
  tried      : Option Nat
  completed  : Nat
deriving DecidableEq, Repr

/-- Window states (02 Table 4). -/
inductive WState where
  | parked
  | tuning
  | locked
  | hold
  | cold
deriving DecidableEq, Repr

/-- The fabric: latched elements (R65, R70), stuck marks (R72), failed bricks, and the fabric registers. -/
structure Fabric where
  set       : List Elem
  stuck     : List (Elem × Bool)
  failed    : List Nat
  standIn   : List (Nat × Nat × Nat)
  reserve   : BitVec 8
  budget    : Nat
  stagger   : Nat
  peak      : Peak
  tileTemp  : List (Nat × Int)
  tileOver  : List Nat
  tileHot   : List (Nat × Nat)
  classes   : List (Nat × Nat)
  owed      : List Elem
deriving DecidableEq, Repr

/-- Loop modes (R201) other than hold, which the causes of Table 4 give. -/
inductive LMode where
  | auto
  | manual
deriving DecidableEq, Repr

/-- A dyadic parameter value: mantissa and exponent (R195, R230). -/
structure Param where
  mant : Int
  exp  : Int
deriving DecidableEq, Repr

/-- The coefficients of a loop before a swap that it has not evaluated yet (R199): KP, KD and DF. -/
structure Coef where
  kp : Param
  kd : Param
  df : Param
deriving DecidableEq, Repr

/-- One loop of Trowel (R182 – R215). `causes` holds the hold causes 0 (command) and 1 (implausible); the other two follow
from the sills, the lease and the state. `wstate` is what a window reports while it is neither held nor unpowered. Values are mantissas at the exponents of the loop's group; the single-tick
readings of a monitor (`inTap`, `outTap`) are in 0.01 dBm, its filtered readings in 0.01 dBm × 2^16; `raw` is the
last reading of a loop with an output as its conversion gives it, in the class unit × 2^16. -/
structure Loop where
  mode      : LMode
  causes    : BitVec 4
  wstate    : WState
  target    : Int
  r         : Int
  ramping   : Bool
  y         : Int
  yf        : Int
  i         : Int
  u         : Int
  p         : Int
  d         : Int
  ff        : Int
  set       : Nat
  swap      : Option Coef
  preset    : Bool
  outLim    : Bool
  iSat      : Bool
  inBand    : Nat
  offBand   : Nat
  sticky    : Sticky
  c         : Int
  yPrev     : Int
  uPrev     : Int
  mPrev     : Int
  mism      : Nat
  calm      : Nat
  releases  : List Nat
  evaluated : Bool
  raw       : Int
  inTap     : Int
  outTap    : Int
  inFilt    : Int
  outFilt   : Int
  rangeRun  : Nat
  lockRun   : Nat
  dSum      : Int
deriving DecidableEq, Repr

/-- A window start that waits its turn (R210): window, target in GHz × 2^16, mode and, in manual mode, the output asked for. -/
structure Start where
  window : Nat
  target : Int
  mode   : LMode
  out    : Option Int
deriving DecidableEq, Repr

/-- REFCLK cycles that a leaf's Trowel used in Compute (R222). -/
structure Cycles where
  last : Nat
  peak : Peak
deriving DecidableEq, Repr

/-- Trace states (R218). -/
inductive TState where
  | idle
  | armed
  | triggered
  | done
deriving DecidableEq, Repr

/-- The trace of a leaf (R216 – R220). `prev` and `flags` are the trigger node's value and its loop's IMPLAUSIBLE, mode and window
state as the trigger last saw them. -/
structure Trace where
  state       : TState
  interrupted : Bool
  nodes       : List (Nat × Nat)
  trigKind    : Nat
  trigNode    : Nat
  decim       : Nat
  pre         : Nat
  level       : Int
  flagMask    : Word
  samples     : List (Nat × List Word)
  after       : Nat
  trigTick    : Nat
  prev        : Option Int
  flags       : Option (Bool × Nat × Nat)
deriving DecidableEq, Repr

/-- Trowel (R182 – R234). `heater` holds the value that the sill or the laser bank has latched for each loop with an output (R66,
R405), in the class unit × 2^16; `parking` the windows that the boot after a loss of power has not parked yet (R206). -/
structure Trowel where
  loops      : List (Nat × Loop)
  base       : WState
  starts     : List Start
  startsNow  : List (Nat × Nat)
  params     : List (Nat × Param)
  shadow     : List (Nat × Param)
  calibrated : Bool
  exps       : List (Nat × List Int)
  ffState    : Nat
  ffMisses   : Nat
  ffFor      : Nat
  ffGood     : Nat
  ffScale    : Nat
  ffDir      : Int
  pred       : List (Nat × BitVec 16)
  stageSat   : Sticky
  use        : Pair Cycles
  parking    : List Nat
  reinit     : Bool
  bankTemp   : Int
  heater     : List (Nat × Int)
  trace      : Pair Trace
deriving DecidableEq, Repr

/-- A tensor descriptor (R236). -/
structure Desc where
  addr   : Nat
  rows   : Nat
  cols   : Nat
  fmt    : Nat
  expAddr : Nat
  accExp : Int
deriving DecidableEq, Repr

/-- A DMA transfer in flight (R249, R278): tag, into SRAM or out, descriptor index and the tensor it named, byte offset, row
stride. -/
structure Dma where
  tag    : BitVec 8
  into   : Bool
  desc   : Nat
  tensor : Desc
  offset : Nat
  stride : Option Nat
deriving DecidableEq, Repr

/-- What a course waits for; `order` numbers the arrivals at an exchange. -/
inductive Wait where
  | none
  | dma (tag : BitVec 8)
  | desc (d : Nat)
  | barrier
  | exchange (order : Nat)
deriving DecidableEq, Repr

/-- One course: its sequencer, descriptors and flags (R235, R250 – R254). SRAM is a list of (byte address, byte); `errors` are the
EXACT mismatches (0) and uncorrectable SRAM errors (1) of the last second with their ticks, and `failing` says what makes the course
FAILED at the next boundary. -/
structure Course where
  regs      : List (Nat × BitVec 64)
  descs     : List (Nat × Desc)
  sram      : List (Nat × BitVec 8)
  pc        : Nat
  calls     : List Nat
  loopStack : List (Nat × Nat × Nat)
  weights   : Option (Desc × List (Nat × BitVec 8))
  shadowChk : Bool
  count0    : Nat
  dma       : List Dma
  wait      : Wait
  failed    : Bool
  errors    : List (Nat × Nat)
  failing   : Option Nat
  opp       : Nat
deriving DecidableEq, Repr

/-- Job states (06 Table 12). -/
inductive JState where
  | loading
  | verifying
  | loaded
  | rejected
  | running
  | pausing
  | paused
  | ended
deriving DecidableEq, Repr

/-- A job package and its job (R273 – R287). -/
structure Job where
  id        : Word
  state     : JState
  package   : List Byte
  nextSeg   : Nat
  courses   : List Nat
  exit      : Word
  lpddrMib  : Nat
  ticks     : Nat
  saveId    : Word
  saved     : List Course
  savedProf : Bool
  savedMc   : Word
  props     : Nat
  lastProp  : Word
  mismatches : Nat
  reclaimed : Bool
  flags     : BitVec 3
  seen      : BitVec 3
  mem       : List (Nat × BitVec 8)
  waiter    : Option Waiter
  resumeOn  : List Nat
  stopped   : Bool
deriving DecidableEq, Repr

/-- A waiting or running solve (R264 – R271). -/
structure Solve where
  waiter    : Waiter
  planId    : Word
  base      : Word
  flags     : Word
  desc      : List Byte
  accepted  : Nat
  rerun     : Bool
deriving DecidableEq, Repr

/-- The Mortar engine (R235 – R300). -/
structure Mortar where
  courses   : List Course
  loadCount : Nat
  jobs      : List (Nat × Job)
  solving   : Option Solve
  solves    : List Solve
  solveLast : Nat
  solvePeak : Peak
  open_     : Bool
  detReq    : Bool
  detPend   : Bool
  guardCfg  : Word
  flags     : Sticky
  range     : Sticky
  mismatches : Nat
  rangeEvents : Nat
  mode      : Nat
  reserved  : List Nat
  compareFails : Nat
  misses    : Nat
  sramUnc   : Nat
  sramCor   : Nat
  poolMib   : Nat
  reclaim   : Option (Nat × Nat)
  temp      : Nat
  coolRun   : Nat
deriving DecidableEq, Repr

/-- One calibration class (R303 – R325): the units that wait with the trigger of each, the units with a run accepted since the
last boot, runs in a row with every tap rejected per unit, and the temperature of the last accepted run per unit. `ran` holds
the units that have run since the CAL_RUN that awaits its final. -/
structure CalClass where
  pending  : List (Nat × Nat)
  booted   : List Nat
  ran      : List Nat
  trigger  : Nat
  rejectRun : List (Nat × Nat)
  runs     : Nat
  rejects  : Nat
  lastAux  : Nat
  lastTick : Nat
  lastTemp : Int
  skipped  : Nat
  above    : Bool
  rc       : Nat
  temps    : List (Nat × Int)
  runApplied : Nat
  runRejected : Nat
  runSkipped : Nat
deriving DecidableEq, Repr

/-- A test element of a run under way (R308, R309): the SET pulses it still takes until it reads SET, whether the run has SET it, and
the tick from which it may be pulsed again. -/
structure TestCell where
  tap   : Nat
  elem  : Elem
  left  : Nat
  on    : Bool
  due   : Nat
deriving DecidableEq, Repr

/-- A calibration run under way: what it brings, the test elements it has not done with, the channels it has still to free, the windows
it sweeps with the steps taken of each, and the tick at which its dither ends (R312). -/
structure CalTest where
  cls   : Nat
  unit  : Nat
  taps  : List CalTap
  cells : List TestCell
  todo  : List Nat
  sweep : List (Nat × Nat)
  upTo  : Option Nat
deriving DecidableEq, Repr

/-- A signature sweep (R328): the locked output and LANE_EQ in mW × 2^16, the steps taken, the reading of the last Sense phase and those
at each depth so far, in 0.01 dBm. -/
structure Signature where
  window : Nat
  top    : Int
  laneEq : Int
  steps  : Nat
  now    : Int
  seen   : List Int
deriving DecidableEq, Repr

/-- A spare integrator channel that converts a live channel's photodiode in parallel, from the tick given (R310). -/
structure ChanSwap where
  sill  : Nat
  tap   : Nat
  spare : Nat
  since : Nat
deriving DecidableEq, Repr

/-- Calibration (R301 – R330, R348 – R353). `chan` gives the channel that serves a photodiode, by sill and tap, where a swap has
changed it; `spare` the spare channels of a sill. The channels of a sill are numbered 0 and 1 for the spares at manufacture, then by
tap (R310). -/
structure Cal where
  auto      : BitVec 6
  dt        : Nat
  classes   : List CalClass
  taps      : List ((Nat × Nat × Nat) × (Int × Int × Int))
  apply     : List ((Nat × Nat × Nat) × (Int × Int × Int))
  waiter    : Option (Waiter × BitVec 6 × Nat)
  suspect   : BitVec 10
  worst     : Nat
  refOk     : List (Nat × Nat)
  refAt     : Option Nat
  relock    : List Nat
  flagged   : List (Nat × Nat × Int)
  lostFlag  : List Nat
  confirmed : Nat
  falses    : Nat
  wlLast    : Nat
  laneShift : List (Nat × Int)
  trim      : List (Nat × Int)
  dacOffset : List (Nat × Int)
  trimTemp  : List (Nat × Int)
  tempHist  : List (Nat × List Int)
  tests     : List CalTest
  swaps     : List ChanSwap
  chan      : List ((Nat × Nat) × Nat)
  spare     : List (Nat × List Nat)
  sweeps    : List Signature
  scale     : List (Nat × Nat × Nat)
  scaleNext : List (Nat × Nat × Nat)
deriving DecidableEq, Repr

/-- One laser (R331 – R338, R356): role code of 07 Table 9, partner, the tick whose Actuate phase sets a spare's switch to it, the
boundary at which its crossfade is over, 1 s mean bias in 0.01 mA and monitor power. -/
structure Laser where
  role    : Nat
  partner : Nat
  switchAt : Option Nat
  inPlace : Nat
  bias    : Meter
  monitor : Int
deriving DecidableEq, Repr

/-- One port's shutter, modulator and loss of signal (R341 – R347). -/
structure Shutter where
  opening  : Bool
  isOpen   : Bool
  emitting : Bool
  los      : Bool
  lowRun   : Nat
  highRun  : Nat
  closedAt : Nat
  pulse    : Option Nat
  force    : Bool
  oscPower : Option Int
  oscLow   : Bool
deriving DecidableEq, Repr

/-- Neighbour states (08 Table 3). -/
inductive NState where
  | none
  | darkOsc
  | foreign
  | incompatible
  | up
deriving DecidableEq, Repr

/-- What the module knows of one OSC port (R364 – R373). -/
structure Neigh where
  nstate    : NState
  goodRun   : Nat
  badSync   : Nat
  aligned   : Bool
  alignRun  : Nat
  sinceValid : Nat
  everValid : Bool
  versionRun : Nat
  peerClear : Nat
  last      : List Byte
  pdEchoRx  : Nat
  lastRx    : Nat
  delays    : List Nat
  changed   : Bool
  unplanned : Bool
  oneWay    : Bool
  loopback  : Bool
  sameRun   : Nat
  recorded  : Option (List Byte × Nat)
  prev      : Option (List Byte × Nat)
  fecCor    : Nat
  fecFail   : Nat
  lastBody  : List Byte
  preferRun : Nat
deriving DecidableEq, Repr

/-- A waiting scheduled launch (R392, R393). -/
structure Sched where
  waiter   : Waiter
  kind     : Nat
  port     : Nat
  instant  : Instant
  accepted : Nat
  late     : Bool
  body     : List Byte
  delayed  : Bool
deriving DecidableEq, Repr

/-- A blink window (R376, R377). -/
structure Blink where
  waiter : Waiter
  scope  : BitVec 512
  start  : Nat
  ticks  : Nat
  base   : List (Nat × Int)
  runs   : List (Nat × Nat)
  dark   : BitVec 512
  first  : Option Nat
deriving DecidableEq, Repr

/-- Lasers, shutters, OSC, neighbours and blink windows (07, 08). -/
structure Osc where
  lasers    : List (Nat × Laser)
  spareAt   : Nat
  eol       : Bool
  shutters  : List (Nat × Shutter)
  pulses    : Nat
  neigh     : List (Nat × Neigh)
  failed    : Nat
  corrected : Nat
  fabricId  : Word
  bodies    : List (Nat × List Byte)
  frames    : List (Nat × List Byte)
  blink     : Option Blink
  darken    : List Nat
deriving DecidableEq, Repr

/-- Time bases (R378 – R401). Fabric and host time count 2^−16 ns × 10^−9, so that a rate in ppb adds exactly. -/
structure TimeSt where
  fabric     : Int
  fstate     : Nat
  fabRate    : Int
  rootRate   : Int
  host       : Int
  hostSet    : Bool
  hostRate   : Int
  cfg        : Word
  upstream   : Option Nat
  hops       : Nat
  rootPrio   : Nat
  rootSerial : List Byte
  rootActive : Bool
  stepNeeded : Bool
  stepped    : Bool
  everLocked : Bool
  rebased    : Sticky
  stepFree   : Bool
  offset     : Int
  lockRun    : Nat
  offRun     : Nat
  ppsValid   : Bool
  ppsEdges   : List Nat
  ppsGood    : Nat
  ppsOut     : Option Nat
  ppsLast    : Int
  sched      : List Sched
  rates      : List Int
  ratio      : Int
  stopVal    : Nat
  ratioFrom  : Nat
  queries    : List Waiter
  launched   : List (List Byte)
deriving DecidableEq, Repr

/-- States of a switchable domain (R466). -/
inductive DState where
  | on
  | retention
  | off
  | entering
  | waking
deriving DecidableEq, Repr

/-- A switchable domain (R450 – R454): state, timer count, the state it heads
for, and the host's vote (courses: 0 none, 1 ON, 2 RETENTION). -/
structure Domain where
  code   : Nat
  state  : DState
  timer  : Nat
  goal   : DState
  deep   : Bool
  vote   : Nat
deriving DecidableEq, Repr

/-- Power domains and clocks (R450 – R475). -/
structure Power where
  domains  : List Domain
  cfg      : Nat
  idle     : List Nat
  aborts   : Nat
  wakes    : Nat
  entries  : Nat
  meter    : Meter
  peak     : Peak
  stepTick : Nat
deriving DecidableEq, Repr

/-- A key of the key table (R478). -/
structure Key where
  id      : Word
  purpose : Nat
  pub     : List Byte
  label   : List Byte
deriving DecidableEq, Repr

/-- A firmware slot (11 Table 7): SSTATE code, version, length, digest, microcode version, whether the header's STEPPINGS and ROM_MIN
suit this module, the image encrypted as received, and its content key rewrapped (R485, R486). -/
structure Slot where
  sstate  : Nat
  version : Word
  len     : Nat
  digest  : List Byte
  micro   : Word
  fits    : Bool
  image   : List Byte
  cek     : List Byte
deriving DecidableEq, Repr

/-- An open download buffer (R488). -/
structure Buffer where
  link    : Side
  session : Word
  header  : List Byte
  len     : Nat
  got     : Nat
  data    : List Byte
deriving DecidableEq, Repr

/-- Security and firmware (R476 – R496, R511 – R515). -/
structure Sec where
  keys       : List Key
  cfg        : Word
  primary    : Slot
  staged     : Slot
  golden     : Slot
  counter    : Word
  trialBoots : Nat
  mode       : Nat
  health     : Bool
  trialEnd   : Option Nat
  owner      : Option (Side × Word)
  ownTick    : Nat
  buffers    : List Buffer
  writing    : Option (Buffer × Waiter)
  confirming : Option (Option Waiter)
  fallback   : Nat
  trialResets : Nat
  batch      : Nat
  keysLeft   : Nat
  batchReady : Bool
  ucode      : Word
  challenge  : Option (Nat × Nat × List Byte)
  unlocking  : Option (Nat × Waiter × Word)
deriving DecidableEq, Repr

/-- A change-journal entry (11 Table 10). -/
structure JEntry where
  seq     : Nat
  kind    : Nat
  link    : Nat
  role    : Nat
  opcode  : Nat
  session : Word
  host    : Option Instant
  status  : Nat
  tag     : BitVec 16
  aux     : Nat
  hash    : List Byte
  ref     : Word
  byB     : Bool
  launch  : Option LaunchRec
deriving DecidableEq, Repr

/-- A Cornerstone log record (11 Table 12); `tick` is none while the tick is stopped. -/
structure CRec where
  seq    : Nat
  aux    : Nat
  tick   : Option Nat
  type   : Nat
  origin : Nat
  data   : List Byte
deriving DecidableEq, Repr

/-- The journal and the Cornerstone (R497 – R502, R516, R517), with the values of 11 Table 11 that are not held live
elsewhere. -/
structure Records where
  journal  : List JEntry
  jSeq     : Nat
  jMark    : Nat
  jBase    : Nat
  jUp      : Bool
  log      : List CRec
  csSeq    : Nat
  queue    : List CRec
  dropped  : Nat
  dropAux  : Nat
  wrapped  : Bool
  csGen    : Word
  csKinds  : List (Nat × Nat)
  csFabric : Word
deriving DecidableEq, Repr

/-- A Keyhole slot: address and the select value fixed at the write (R519, R529). -/
structure KSlot where
  addr : Word
  sel  : Selects
deriving DecidableEq, Repr

/-- A Keyhole snapshot (R504). -/
structure KSnap where
  seq      : Nat
  triggers : BitVec 9
  values   : List Word
deriving DecidableEq, Repr

/-- The Keyhole recorder (R503 – R505, R518 – R521). -/
structure Keyhole where
  ring     : List KSnap
  seq      : Nat
  cfg      : Word
  slots    : List (Nat × KSlot)
  missed   : Nat
  frozen   : Option Nat
  fired    : BitVec 9
  due      : BitVec 9
  periodic : Nat
deriving DecidableEq, Repr

/-- Felso (R506 – R510, R522): unlocked targets with the tick of their unlock, the selected core, halted cores,
breakpoints, the previous transaction's DATA, and the last answer. -/
structure Felso where
  unlocked : List (Nat × Nat)
  core     : Nat
  halted   : List Nat
  breaks   : List (Nat × Word)
  prevData : Word
  sel      : Selects
  latch    : Latch
  answer   : Nat × Word
  coreMem  : List ((Nat × Nat) × Word)
  steps    : List (Nat × Nat)
deriving DecidableEq, Repr

/-- Die-to-die links, channels and memory health (R427 – R430, R539 – R549). -/
structure Die where
  up        : BitVec 12
  downs     : Nat
  checkFails : Nat
  retrain   : List Nat
  channels  : List Nat
  rate      : Nat
  jobs      : Meter
  chErr     : List (Nat × (Nat × Nat))
  quarant   : List (Nat × Nat)
  media     : Nat
  quarCount : Nat
  corrected : Nat
  stalls    : Nat
  util      : Peak
deriving DecidableEq, Repr

/-- Who reads and writes registers (R18, R527). -/
inductive Accessor where
  | session (link : Side) (id : Word)
  | felso
deriving DecidableEq, Repr

/-- A change accepted in this tick that takes effect at the next boundary (R34, R155). -/
inductive Effect where
  | nothing
  | regWrite (acc : Accessor) (sel : Selects) (addr : Nat) (value mask : Word)
  | portClass (first count cls : Nat)
  | loopMode (index mode : Nat) (output : Int)
  | loopSetpoint (index : Nat) (setpoint : Int)
  | hostTimeSet (t : Instant)
  | timeRate (base : Nat) (ppb : Int)
  | timeStep (base : Nat) (t : Instant)
  | keyholeFreeze (on : Bool)
  | powerRequest (domain request : Nat)
  | idleTimer (cls ticks : Nat)
  | blinkOpen (waiter : Waiter) (scope : BitVec 512) (ticks : Nat)
  | abortRun (planId : Word)
  | holdRelease
  | leafSwitch (target : Side) (waiter : Waiter) (forced : Bool)
  | warmReset (cause : Nat)
  | enrolKey (key : Key) (by_ : Nat)
  | revokeKey (id : Word) (by_ : Nat) (label : List Byte)
  | keyholeClear (link : Side) (session : Word)
  | jobStart (slot : Nat) (waiter : Waiter) (courses : List Nat) (mib : Nat)
  | jobResume (slot : Nat)
  | jobStop (slot : Nat)
  | reinit (function : Nat) (waiter : Waiter)
deriving DecidableEq, Repr

/-- An accepted change with the OK reply that leaves at the boundary, or a reply that must not leave before it (R159). -/
structure Deferred where
  eff   : Effect
  reply : Option Waiter
  pkt   : Option (Side × OutPkt)
deriving DecidableEq, Repr

/-- The whole module. -/
structure Mod where
  variant  : Variant
  tick     : Tick
  aux      : Nat
  sup      : Supply
  leaves   : Leaves
  sills    : List Sill
  links    : Pair LinkSt
  sessions : List Session
  nextSid  : Pair Nat
  held     : List Held
  deferred : List Deferred
  engine   : Engine
  fabric   : Fabric
  trowel   : Trowel
  mortar   : Mortar
  cal      : Cal
  osc      : Osc
  time     : TimeSt
  power    : Power
  sec      : Sec
  recs     : Records
  keyhole  : Keyhole
  felso    : Felso
  die      : Die
  freeCtr  : Nat
deriving DecidableEq, Repr

/-- The state of the model: the module, its state at the last tick boundary (what the active leaf reports, R35, R524),
its state as mirrored to the standby leaf in the last Guard phase (R524), and the commands that wait. -/
structure State where
  cur     : Mod
  snap    : Mod
  mirror  : Mod
  pending : List Instr
deriving DecidableEq, Repr

/-- Reasons a step can fault: none. The module answers every command with a status, so no command of this block
faults. The one constructor is kept for `Host.Outcome`; nothing raises it. -/
inductive Fault where
  /-- Never raised. Safe: it stops nothing. -/
  | unreachable
deriving DecidableEq, Repr

/-- Reasons a command is refused by the model. -/
inductive Refusal where
  /-- A command whose meaning is not written yet; raised by the dispatcher only. Safe: the run stops. -/
  | notModelled (mnemonic : String)
  /-- A command whose content the spec does not publish (vendor service, R169); raised by the meaning of
  VENDOR_SERVICE once the packet is legal. Safe: the run stops. -/
  | notPublished (what : String)
deriving DecidableEq, Repr
/-! ## Reset: a new RX512-L right after its power-on reset (R461), every register at the reset value of its rule. -/

/-- Nothing seen. -/
def Peak.zero : Peak := { val := 0, edge := 0, guard := 0 }

/-- No sticky bit set. -/
def Sticky.clear : Sticky := { bits := 0, fresh := 0 }

/-- An empty meter. -/
def Meter.empty : Meter := { samples := [] }

/-- Units that a code fits (R3, R10): planes, courses. -/
def Variant.planes : Variant → BitVec 8
  | .l => 0xFF
  | .lc => 0xFF
  | .p => 0x01

/-- Courses fitted (R10). -/
def Variant.courses : Variant → BitVec 16
  | .l => 0xFFFF
  | .lc => 0x000F
  | .p => 0x000F

/-- Windows are fitted on every code but RX512-P (R9). -/
def Variant.windows : Variant → Bool
  | .p => false
  | _ => true

def Tick.init : Tick :=
  { count := 0, now := 0, running := true, phase := .boundary, senseGot := [], senseLate := [], computeLate := [], actuateLate := [], commitLate := false
    refRun := 0, ovrSense := 0, ovrCompute := 0, ovrActuate := 0, ovrCommit := 0
    carryRun := 0, cleanRun := 0, carried := false
    rebased := .clear, src := true, refclkValid := false, coreA := false, coreB := false }

def Supply.init : Supply :=
  { us := 0, vaux := true, vana := true, vin54 := true, vauxAt := 0, vanaAt := 0, vanaFellAt := none
    vin54FellAt := none, volts := 0, armed := false, rails := true, seqHold := false, seq := false, memsOk := false
    memsBad := 0, resetN := false, slotId := 0, interlock := false, faultN := false }

def Sill.init : Sill :=
  { epoch := 0, lease := .none, missed := 0, renewed := false, hold := false, grant := none, notice := false
    linkA := true, linkB := true, silent := 0, lost := false, powered := true }

def LeafSt.init : LeafSt :=
  { state := .boot, inReset := false, resetDue := none, railsDown := false, epoch := 0, highest := 0, granting := false, stopped := false
    failed := 0, degraded := false, causeLast := 1, causePrev := 2, hasMirror := false, toRecovery := false
    bootReads := false, plain := [] }

def Leaves.init : Leaves :=
  { leaf := { a := .init, b := .init }, active := none, cfg := 1, prefStrap := true, xlinkUp := false, xlinkMiss := 0
    xlinkGood := 0, reportClean := false, reportSeen := false, reportItems := 0, reportTick := 0, cleanTicks := 0
    switchTo := none, releasing := none, foLapse := 0, foRelease := 0, foForced := 0, foRevert := 0, lastGap := 0
    lastItem := 0, lastKind := 0, lastTo := 0, noDrive := 0, leaseEnded := none, everHeld := false, reinit := []
    reinitLog := [], exhausted := 0, reinitFails := 0, reinits := 0, retries := 0, wantHold := false, holdCauses := 0
    holdSeen := .clear, holdRelease := false, resetAt := none, resetNow := false, mirrorTick := none, loopsOut := none, rebuildDue := true, faults := 0
    rcDue := [], causes := 0, causesSent := 0
    moduleByte := { a := 1, b := 1 } }

def Selects.init : Selects := { brick := 0, loop := 0, param := 0, exp := 0, laser := 0, keyhole := 0, channel := 0 }

def Latch.init : Latch := { words := [] }

def LinkSt.init : LinkSt :=
  { state := 0, oneLane := false, pktCredit := 0, byteCredit := 0, downs := 0, discards := 0, replays := 0, txSeq := 0
    rxAck := 0, unacked := [], wire := [], received := [], nakDue := false, failReplay := 0, partialRx := [], idleTicks := 0, downTick := none
    rejects := [], backoff := none, waiting := [], sent := [], owedPkts := 0, owedBytes := 0, tx := .empty, rx := .empty }

def Engine.init : Engine :=
  { gen := 0, members := [], plans := [], queue := [], run := none, outcomes := [], fired := [], retryQ := []
    lastTicks := 0, peakTicks := .zero, lastLaunch := 0, tried := none, completed := 0 }

def Fabric.init : Fabric :=
  { set := [], stuck := [], failed := [], standIn := [], reserve := 0, budget := 1024, stagger := 0, peak := .zero
    tileTemp := [], tileOver := [], tileHot := [], classes := [], owed := [] }

def Trace.init : Trace :=
  { state := .idle, interrupted := false, nodes := [], trigKind := 0, trigNode := 0, decim := 0, pre := 0, level := 0
    flagMask := 0, samples := [], after := 0, trigTick := 0, prev := none, flags := none }

def Cycles.init : Cycles := { last := 0, peak := .zero }

/-- A loop that nothing has touched: automatic, a window COLD (R225). -/
def Loop.init : Loop :=
  { mode := .auto, causes := 0, wstate := .cold, target := 0, r := 0, ramping := false, y := 0, yf := 0
    i := 0, u := 0, p := 0, d := 0, ff := 0, set := 0, swap := none, preset := true, outLim := false, iSat := false
    inBand := 0, offBand := 0, sticky := .clear, c := 0, yPrev := 0, uPrev := 0, mPrev := 0, mism := 0, calm := 0
    releases := [], evaluated := false, raw := 0, inTap := -4000, outTap := -4000, inFilt := 0, outFilt := 0, rangeRun := 0, lockRun := 0
    dSum := 0 }

def Trowel.init : Trowel :=
  { loops := [], base := .cold, starts := [], startsNow := [], params := [], shadow := [], calibrated := false, exps := [], ffState := 0
    ffMisses := 0, ffFor := 0, ffGood := 0, ffScale := 100, ffDir := 0, pred := [], stageSat := .clear
    use := { a := .init, b := .init }, parking := [], reinit := false, bankTemp := 0, heater := [], trace := { a := .init, b := .init } }

def Course.init : Course :=
  { regs := [], descs := [], sram := [], pc := 0, calls := [], loopStack := [], weights := none, shadowChk := false
    count0 := 0, dma := [], wait := .none, failed := false, errors := [], failing := none, opp := 0 }

def Mortar.init : Mortar :=
  { courses := List.replicate 16 .init, loadCount := 0, jobs := [], solving := none, solves := [], solveLast := 0
    solvePeak := .zero, open_ := false, detReq := false, detPend := false, guardCfg := 0x009F5F04, flags := .clear
    range := .clear, mismatches := 0, rangeEvents := 0, mode := 0, reserved := [0, 1], compareFails := 0, misses := 0
    sramUnc := 0, sramCor := 0, poolMib := 24576, reclaim := none, temp := 0, coolRun := 0 }

def CalClass.init : CalClass :=
  { pending := [], booted := [], ran := [], trigger := 0, rejectRun := [], runs := 0, rejects := 0, lastAux := 0
    lastTick := 0, lastTemp := 0, skipped := 0, above := false, rc := 0, temps := [], runApplied := 0, runRejected := 0
    runSkipped := 0 }

def Cal.init : Cal :=
  { auto := 0x3F, dt := 0x20, classes := List.replicate 6 .init, taps := [], apply := [], waiter := none, suspect := 0
    worst := 0, refOk := [], refAt := none, relock := [], flagged := [], lostFlag := [], confirmed := 0, falses := 0, wlLast := 0xFFFF
    laneShift := [], trim := [], dacOffset := [], trimTemp := [], tempHist := [], tests := [], swaps := [], chan := [], spare := []
    sweeps := [], scale := [], scaleNext := [] }

def Laser.init (role : Nat) : Laser := { role := role, partner := 0, switchAt := none, inPlace := 0, bias := .empty, monitor := 0 }

/-- The lasers fitted on RX512-L, in their roles at manufacture (07 Table 8). -/
def lasersFitted : List (Nat × Laser) :=
  (List.range 16).map (fun k => (k, .init 0)) ++ [16, 17, 18, 19].map (fun k => (k, .init 1)) ++
    [24, 25, 26, 27].map (fun k => (k, .init 0)) ++ [28, 29].map (fun k => (k, .init 1))

def Shutter.init : Shutter :=
  { opening := false, isOpen := false, emitting := false, los := false, lowRun := 0, highRun := 0, closedAt := 0
    pulse := none, force := false, oscPower := none, oscLow := false }

def Neigh.init : Neigh :=
  { nstate := .darkOsc, goodRun := 0, badSync := 0, aligned := false, alignRun := 0, sinceValid := 16, everValid := false
    versionRun := 0, peerClear := 0, last := [], pdEchoRx := 0, lastRx := 0, delays := [], changed := false
    unplanned := false, oneWay := false, loopback := false, sameRun := 0, recorded := none, prev := none, fecCor := 0
    fecFail := 0, lastBody := [], preferRun := 0 }

def Osc.init : Osc :=
  { lasers := lasersFitted, spareAt := 0x55, eol := false, shutters := [], pulses := 0, neigh := [], failed := 0
    corrected := 0, fabricId := 0, bodies := [], frames := [], blink := none, darken := [] }

def TimeSt.init : TimeSt :=
  { fabric := 0, fstate := 0, fabRate := 0, rootRate := 0, host := 0, hostSet := false, hostRate := 0, cfg := 0x80000004
    upstream := none, hops := 255, rootPrio := 0x80, rootSerial := [], rootActive := false, stepNeeded := false
    stepped := false, everLocked := false, rebased := .clear, stepFree := true, offset := 0, lockRun := 0, offRun := 0
    ppsValid := false, ppsEdges := [], ppsGood := 0, ppsOut := none, ppsLast := 0, sched := [], rates := [], ratio := 0
    stopVal := 0, ratioFrom := 0, queries := [], launched := [] }

def Domain.init (code : Nat) : Domain := { code := code, state := .on, timer := 0, goal := .on, deep := false, vote := 0 }

/-- DOMAIN codes in the order of R466: courses, pairs, lanes, banks in ascending code (R450). -/
def domainCodes : List Nat :=
  List.range 16 ++ [0x10, 0x11, 0x12, 0x13] ++ [0x20, 0x21] ++
    (List.range 7).flatMap (fun n =>
      (List.range 17).map (fun t => 0x1000 + 0x100 * (n + 1) + t) ++
      (List.range 17).map (fun t => 0x1000 + 0x100 * (n + 1) + 51 + t))

def Power.init : Power :=
  { domains := domainCodes.map .init, cfg := 0, idle := [6000000, 100, 0], aborts := 0, wakes := 0, entries := 0
    meter := .empty, peak := .zero, stepTick := 0 }

/-- The transport key of a new module (R479). -/
def transportKey : Key := { id := 0, purpose := 3, pub := [], label := [] }

def Slot.factory : Slot :=
  { sstate := 3, version := Config.factoryVersion, len := Config.openReading 0x84 0
    digest := (List.range 32).map (Config.securityByte 100 0), micro := Config.microcodeOf Config.factoryVersion.toNat, fits := true
    image := Config.factoryImage, cek := Config.rewrappedCek Config.factoryImage }

def Slot.empty : Slot := { sstate := 0, version := 0, len := 0, digest := [], micro := 0, fits := false, image := [], cek := [] }

def Sec.init : Sec :=
  { keys := [transportKey], cfg := 0, primary := .factory, staged := .empty, golden := .factory
    counter := Config.factoryVersion, trialBoots := 0, mode := 0, health := false, trialEnd := none, owner := none, ownTick := 0
    buffers := [], writing := none, confirming := none, fallback := 0, trialResets := 0, batch := 0, keysLeft := 0
    batchReady := false, ucode := Config.microcodeOf Config.factoryVersion.toNat
    challenge := none, unlocking := none }

/-- The records of the always-on reset and of the power-on reset (R461, R558) wait in the queue. -/
def Records.init : Records :=
  { journal := [], jSeq := 0, jMark := 0, jBase := 0, jUp := false, log := [], csSeq := 2
    queue :=
      [ { seq := 0, aux := 0, tick := none, type := 3, origin := 0
          data := [2, 0xFF, 0xFF, 0, 0, 0, 0, 0, 0] ++ List.replicate 23 0 }
      , { seq := 1, aux := 0, tick := some 0, type := 3, origin := 0
          data := [1, 0xFF, 0xFF, 0, 0x10, 0, 0, 0, 0] ++ List.replicate 23 0 } ]
    dropped := 0, dropAux := 0, wrapped := false, csGen := 0, csKinds := [], csFabric := 0 }

def Keyhole.init : Keyhole :=
  { ring := [], seq := 0, cfg := 0, slots := [], missed := 0, frozen := none, fired := 0, due := 0, periodic := 0 }

def Felso.init : Felso :=
  { unlocked := [], core := 0, halted := [], breaks := [], prevData := 0, sel := .init, latch := .init, answer := (0, 0)
    coreMem := [], steps := [] }

def Die.init : Die :=
  { up := 0xFFF, downs := 0, checkFails := 0, retrain := [], channels := List.replicate 8 3, rate := 0, jobs := .empty, chErr := [], quarant := []
    media := 0, quarCount := 0, corrected := 0, stalls := 0, util := .zero }

def Mod.init : Mod :=
  { variant := .l, tick := .init, aux := 0, sup := .init, leaves := .init, sills := List.replicate 8 .init
    links := { a := .init, b := .init }, sessions := [], nextSid := { a := 1, b := 1 }, held := [], deferred := []
    engine := .init, fabric := .init, trowel := .init, mortar := .init, cal := .init, osc := .init, time := .init
    power := .init, sec := .init, recs := .init, keyhole := .init, felso := .init, die := .init, freeCtr := 0 }

/-- What registers show until the first tick boundary: their reset values (R516: no record waits). -/
def Mod.shown : Mod := { Mod.init with recs := { Records.init with queue := [] } }

/-- The module right after the power-on reset of a new RX512-L (R461), no command waiting. -/
def State.reset : State := { cur := .init, snap := .shown, mirror := .shown, pending := [] }

end Sys2Proof.Machine
end

