-- ==== Sys2Proof/Machine/Ops.lean ====
section
/-! DEFINITION. The named operations that the meanings share: reaching a leaf, a link or a session, sending replies and
events, holding results, the change journal, the Cornerstone queue, Keyhole triggers and meters. -/

namespace Sys2Proof.Machine

/-! ### Running a meaning -/

/-- Change the live module. -/
def onCur (f : Mod → Mod) (s : State) : State :=
  { s with cur := f s.cur }

/-- An event of the module: where its condition `g` holds the module changes by `f`; where it does not hold, the event
cannot occur and nothing changes (DESIGN CHOICE, log 2). -/
def happens (g : Mod → Bool) (f : Mod → Mod) (s : State) : Host.Outcome State Fault Refusal :=
  .next (if g s.cur then onCur f s else s)

/-- The tick stands between the phase given and the next one; nothing of a tick goes on once a module reset has begun (R32,
R46). -/
def Mod.inPhase (m : Mod) (p : Phase) : Bool := m.tick.running && m.tick.phase == p && !m.leaves.resetNow

/-- The tick stands after its Commit step and before its boundary: REFCLK cycle 900 and later (R32, R408). -/
def Mod.afterCommit (m : Mod) : Bool := m.inPhase .commit || m.inPhase .guard

/-- An event that takes place at a tick boundary: after TICK_BOUNDARY, before the Sense phase. -/
def atEdge (g : Mod → Bool) (f : Mod → Mod) (s : State) : Host.Outcome State Fault Refusal :=
  happens (fun m => m.inPhase .boundary && g m) f s

/-- The units of a phase that are carried out of it (R36): those asked for, except that a unit carried into this tick runs ahead
of every new one, so it is carried again only where no new unit runs. A carried unit and the new unit of the same sill or group
run as one (DEDUCED, log 90). -/
def carriedNow (units late asked : List Nat) : List Nat :=
  let c := units.filter asked.contains
  if (units.filter fun k => !late.contains k).all c.contains then c else c.filter fun k => !late.contains k

/-! ### Leaves -/

def Mod.leaf (m : Mod) (i : Side) : LeafSt := m.leaves.leaf.get i

def Mod.setLeaf (m : Mod) (i : Side) (f : LeafSt → LeafSt) : Mod :=
  { m with leaves := { m.leaves with leaf := m.leaves.leaf.modify i f } }

def Mod.link (m : Mod) (i : Side) : LinkSt := m.links.get i

def Mod.setLink (m : Mod) (i : Side) (f : LinkSt → LinkSt) : Mod :=
  { m with links := m.links.modify i f }

/-- State codes (01 Table 6). -/
def LeafState.code : LeafState → Nat
  | .off => 0
  | .boot => 1
  | .recovery => 2
  | .standby => 3
  | .ready => 4
  | .committing => 5
  | .degraded => 6
  | .safeHold => 7

/-- The state byte of a leaf: bit 7 is the degraded condition, 0 in OFF, BOOT and RECOVERY (R42). -/
def Mod.byteOf (m : Mod) (i : Side) : Nat :=
  let l := m.leaf i
  l.state.code + (if l.degraded && 3 ≤ l.state.code then 0x80 else 0)

/-- The active leaf's state, or where no leaf is active RECOVERY if either leaf is in it, OFF if both are OFF, else BOOT (R41). -/
def Mod.state (m : Mod) : LeafState :=
  match m.leaves.active with
  | some i => (m.leaf i).state
  | none =>
    let a := (m.leaf .a).state
    let b := (m.leaf .b).state
    if a = .recovery ∨ b = .recovery then .recovery else if a = .off ∧ b = .off then .off else .boot

/-- The module state byte (R41, R42). -/
def Mod.byte (m : Mod) : Nat :=
  match m.leaves.active with
  | some i => m.byteOf i
  | none => m.state.code

/-- MODULE_STATE.ACTIVE and the codes that use it: 0 none, 1 Leaf A, 2 Leaf B (R431). -/
def sideCode : Option Side → Nat
  | none => 0
  | some i => i.num + 1

/-- READY or DEGRADED (R42). -/
def LeafState.isReady (s : LeafState) : Bool := s == .ready || s == .degraded

/-- A leaf that runs: out of OFF and of reset. -/
def Mod.serving (m : Mod) (i : Side) : Bool :=
  (m.leaf i).state != .off && !(m.leaf i).inReset

/-- The standby leaf, where one is in STANDBY. -/
def Mod.standby (m : Mod) : Option Side :=
  if (m.leaf .a).state = .standby then some .a else if (m.leaf .b).state = .standby then some .b else none

/-- The leaf that runs the module's work, or Leaf A where none is active. -/
def Mod.worker (m : Mod) : Side := m.leaves.active.getD .a

/-- The active leaf runs and is in one of the states given. -/
def Mod.activeIn (m : Mod) (l : List LeafState) : Bool :=
  (match m.leaves.active with
   | some i => m.serving i
   | none => false) && m.state ∈ l

/-- The active leaf drives: READY, DEGRADED or COMMITTING. -/
def Mod.driving (m : Mod) : Bool := m.activeIn [.ready, .degraded, .committing]

/-- The active leaf runs, SAFE_HOLD included. -/
def Mod.running (m : Mod) : Bool := m.activeIn [.ready, .degraded, .committing, .safeHold]

/-! ### Free values -/

/-- `n` free bytes; the counter of State advances, so that no two reads are tied. -/
def Mod.freeBytes (m : Mod) (n : Nat) : List Byte :=
  (List.range n).map fun k => Config.freeByte (m.freeCtr + k)

def Mod.useFree (m : Mod) (n : Nat) : Mod := { m with freeCtr := m.freeCtr + n }

/-! ### Time values -/

/-- Units of held time in 2^−16 ns. -/
def ppb9 : Int := 1000000000

/-- The instant, in 2^−16 ns, of a held time. -/
def instant (t : Int) : Instant := t / ppb9

/-- TIME (12): seconds (6), nanoseconds (4), fractional nanoseconds (2) (R145). -/
def timeBytes (t : Instant) : List Byte :=
  le 6 (wrapInt 6 (t / (65536 * ppb9))) ++ le 4 ((t / 65536 % ppb9).toNat) ++ le 2 ((t % 65536).toNat)

/-- Read a TIME (12) whose seconds are unsigned. -/
def timeAt (bs : List Byte) (off : Nat) : Instant :=
  (field bs off 6 * 1000000000 + field bs (off + 6) 4 : Int) * 65536 + field bs (off + 10) 2

/-- Read a signed offset TIME (12), two's complement over its seconds (R385). -/
def timeAtS (bs : List Byte) (off : Nat) : Instant :=
  (fieldS bs off 6 * 1000000000 + field bs (off + 6) 4 : Int) * 65536 + field bs (off + 10) 2

/-- The nanosecond field of a TIME is in 0 – 999,999,999 (R174). -/
def timeNsOk (bs : List Byte) (off : Nat) : Bool := decide (field bs (off + 6) 4 < 1000000000)

/-! ### Meters (means over the last 100,000 ticks) -/

def Meter.add (k : Meter) (now v : Nat) : Meter :=
  { samples := (now, v) :: k.samples.filter fun p => decide (now < p.1 + 100000) }

def Meter.sum (k : Meter) (now : Nat) : Nat :=
  sumN ((k.samples.filter fun p => decide (now < p.1 + 100000)).map Prod.snd)

/-! ### Sticky bits (R20) -/

def Sticky.put (k : Sticky) (b : Word) : Sticky := { bits := k.bits ||| b, fresh := k.fresh ||| b }

/-- Writing ones clears, but not a bit set in this tick. -/
def Sticky.write1 (k : Sticky) (b : Word) : Sticky := { k with bits := k.bits &&& (~~~b ||| k.fresh) }

def Sticky.settle (k : Sticky) : Sticky := { k with fresh := 0 }

/-! ### Peaks since the last read (R20) -/

def Peak.put (p : Peak) (n : Nat) : Peak := { val := max p.val n, edge := max p.edge n, guard := max p.guard n }

/-- A read clears what it reported: everything up to the last boundary, or where it was made through the standby leaf's mirror,
up to that mirror. -/
def Peak.clear (p : Peak) (mirror : Bool) : Peak := { p with val := min p.val (if mirror then p.guard else p.edge) }

/-- Bit `n` of a word. -/
def wbit (n : Nat) : Word := BitVec.ofNat 32 (2 ^ n)

/-! ### The Keyhole's triggers (R503, R505, R518) -/

/-- Fire Keyhole trigger `n` if it is enabled; while the recorder is frozen it counts in MISSED. -/
def Mod.fire (m : Mod) (n : Nat) : Mod :=
  if m.keyhole.cfg.getLsbD n && m.keyhole.cfg.getLsbD 15 then
    if m.keyhole.frozen.isSome then
      { m with keyhole := { m.keyhole with missed := m.keyhole.missed + 1 } }
    else
      { m with keyhole := { m.keyhole with fired := m.keyhole.fired ||| BitVec.ofNat 9 (2 ^ n) } }
  else m

/-! ### The Cornerstone (R500 – R502) -/

/-- Types that are written even when the queue is full (R501). -/
def alwaysKept (ty : Nat) : Bool :=
  (decide (1 ≤ ty) && decide (ty ≤ 0x0F)) || (decide (0x80 ≤ ty) && decide (ty ≤ 0x8F))

/-- Queue a Cornerstone record: 32 data bytes, ORIGIN 0 always-on domain, 1 Leaf A, 2 Leaf B. -/
def Mod.record (m : Mod) (ty origin : Nat) (data : List Byte) : Mod :=
  if m.recs.queue.length < 4096 ∨ alwaysKept ty then
    let r : CRec :=
      { seq := m.recs.csSeq, aux := m.aux, tick := if m.tick.running then some m.tick.count else none, type := ty
        origin := origin, data := slice data 0 32 }
    { m with recs := { m.recs with queue := m.recs.queue ++ [r], csSeq := m.recs.csSeq + 1 } }
  else
    { m with recs := { m.recs with
        dropped := m.recs.dropped + 1
        dropAux := if m.recs.dropped = 0 then m.aux else m.recs.dropAux } }

/-- ORIGIN of a record written by the working leaf (Table 12). -/
def Mod.origin (m : Mod) : Nat := m.worker.num + 1

/-- A record of type 0x0003: cause, leaf, function, straps, PREV_STATE (R502). -/
def Mod.resetRecord (m : Mod) (origin cause leaf function straps prev : Nat) : Mod :=
  m.record 3 origin (le 1 cause ++ le 1 leaf ++ le 1 function ++ [0] ++ le 1 straps ++ [0, 0, 0] ++ le 1 prev)

/-! ### Sending (R158 – R165) -/

/-- Link frames a packet of `n` payload bytes takes (R138). -/
def framesOf (n : Nat) : Nat := (32 + n + 239) / 240

/-- A packet can leave: the link is UP, credit is there (R163, R164) and the replay buffer has room (R139). -/
def LinkSt.canSend (l : LinkSt) (n : Nat) : Bool :=
  decide (l.state = 2) && decide (0 < l.pktCredit) && decide (n ≤ l.byteCredit) &&
    decide (l.unacked.length + framesOf n ≤ 2048)

/-- The 256 bytes of a link frame (04 Table 1): FTYPE, FFLAGS, SEQ, ACK, the credits returned, DATA, and the FCRC over them. -/
def frameBytes (ftype flags seq ack pkts bytes8 : Nat) (data : List Byte) : List Byte :=
  let b := le 1 ftype ++ le 1 flags ++ le 2 seq ++ le 2 ack ++ le 1 pkts ++ [0] ++ le 2 bytes8 ++ [0, 0] ++ slice data 0 240
  b ++ le 4 (crc32c b).toNat

/-- A data frame on the wire, with the acknowledgement of the moment. -/
def DataFrame.bytes (f : DataFrame) (ack : BitVec 12) : List Byte :=
  frameBytes 1 (b2n f.sop + 2 * b2n f.eop) f.seq.toNat ack.toNat 0 0 f.data

/-- Send a control frame: the last data frame received in order, NAK, and the credits returned (R138, R139, R163). -/
def LinkSt.control (l : LinkSt) (nak : Bool) (pkts bytes : Nat) : LinkSt :=
  { l with wire := l.wire ++ [frameBytes 2 (4 * b2n nak) 0 l.rxAck.toNat pkts (bytes / 8) []] }

/-- The 32 bytes of a packet's header and its payload (04 Table 2). -/
def OutPkt.bytes (p : OutPkt) : List Byte :=
  let h := le 1 p.version ++ le 1 p.opcode ++ le 2 p.tag.toNat ++ le 1 p.role ++ le 1 p.flags ++ le 1 p.status ++ le 1 p.state ++
    le 4 p.session.toNat ++ le 2 (p.payload.length / 8) ++ List.replicate 14 0
  h ++ le 4 (crc32c (h ++ p.payload)).toNat ++ p.payload

/-- The data frames of a packet, numbered from `seq`: it starts with SOP at DATA offset 0, and ends with EOP (R138). -/
def framesFor (seq : BitVec 12) (p : OutPkt) : List DataFrame :=
  let n := framesOf p.payload.length
  (List.range n).map fun k =>
    { seq := seq + BitVec.ofNat 12 k, sop := k == 0, eop := k + 1 == n, data := slice p.bytes (240 * k) 240 }

/-- Send a packet: credit is used, its frames wait in the replay buffer for acknowledgement, TX counts them. -/
def LinkSt.send (l : LinkSt) (now : Nat) (p : OutPkt) : LinkSt :=
  let n := p.payload.length
  let f := framesOf n
  let fs := framesFor l.txSeq p
  { l with
    pktCredit := l.pktCredit - 1, byteCredit := l.byteCredit - n, txSeq := l.txSeq + BitVec.ofNat 12 f
    unacked := l.unacked ++ fs, wire := l.wire ++ fs.map fun x => x.bytes l.rxAck
    tx := l.tx.add now f, sent := l.sent ++ [p] }

/-- FLAGS bits of the packet header (04 Table 2). -/
def fReply : Nat := 1
def fEvent : Nat := 2
def fRepeat : Nat := 4
def fDupTag : Nat := 8
def fStale : Nat := 16

/-- A held result that has been sent (R162). -/
def Mod.markSeen (m : Mod) (i : Side) (p : OutPkt) : Mod :=
  { m with held := m.held.map fun h =>
      if h.link = i ∧ h.session = p.session ∧ h.tag = p.tag ∧ h.final.isSome ∧ p.status ≠ 1 then
        { h with seen := true } else h }

/-- The cross-link is down, as R421 has it (a link that is only not up yet, or whose other end is in reset, is not). -/
def Mod.xlinkDown (m : Mod) : Bool := m.leaves.causes.getLsbD 3

/-- The session a waiter names is open on its link. -/
def Mod.isOpen (m : Mod) (i : Side) (sid : Word) : Bool :=
  m.sessions.any fun s => s.link == i && s.id == sid

def Mod.session (m : Mod) (i : Side) (sid : Word) : Option Session :=
  m.sessions.find? fun s => s.link == i && s.id == sid

def Mod.setSession (m : Mod) (i : Side) (sid : Word) (f : Session → Session) : Mod :=
  { m with sessions := m.sessions.map fun s => if s.link = i ∧ s.id = sid then f s else s }

/-- Events of a session that were discarded since the last one delivered (R177). -/
def Mod.lostOf (m : Mod) (i : Side) (sid : Word) : Nat :=
  match m.session i sid with
  | some s => s.lost
  | none => 0

/-- An event with OVERFLOW and LOST as they stand when it is delivered (R177, 04 Table 15); LOST stops at 0xFFFF (DESIGN CHOICE,
log 97: the rule does not say what 16 bits show of more). -/
def withLost (lost : Nat) (payload : List Byte) : List Byte :=
  payload.take 17 ++ le 1 (b2n (decide (0 < lost))) ++ le 2 (sat 0xFFFF lost) ++ payload.drop 20

/-- The fields fixed when a packet leaves: the leaf's state byte at the last boundary, STALE on a reply of the standby leaf while
the cross-link is down (R142, R421), and an event's OVERFLOW and LOST. -/
def Mod.stamp (m : Mod) (i : Side) (p : OutPkt) : OutPkt :=
  { p with
    state := m.leaves.moduleByte.get i
    flags := if p.flags.testBit 0 && (m.leaf i).state == .standby && m.xlinkDown && !p.flags.testBit 4
      then p.flags + fStale else p.flags
    payload := if p.flags.testBit 1 then withLost (m.lostOf i p.session) p.payload else p.payload }

/-- One packet leaves: it is framed, a held result it carries has been sent, and an event delivered starts the count of lost ones
anew. -/
def Mod.sendNow (m : Mod) (i : Side) (p : OutPkt) : Mod :=
  let n := (m.setLink i fun l => l.send m.tick.now (m.stamp i p)).markSeen i p
  if p.flags.testBit 1 then n.setSession i p.session fun s => { s with lost := 0 } else n

/-- Send packets in their order as long as they can leave; the rest waits for credit in its place (R159, R164). -/
def Mod.sendAll (i : Side) : List OutPkt → Mod → Mod
  | [], m => m.setLink i fun l => { l with waiting := [] }
  | p :: t, m =>
    if (m.link i).canSend p.payload.length then Mod.sendAll i t (m.sendNow i p)
    else m.setLink i fun l => { l with waiting := p :: t }

/-- What waits on a link leaves as far as it can. -/
def Mod.pump (m : Mod) (i : Side) : Mod := Mod.sendAll i (m.link i).waiting m

/-- The states of the boundary are being settled, up to the Sense phase: what is ready leaves after it, with the state byte that the
boundary leaves (R35, R142). -/
def Mod.settling (m : Mod) : Bool := m.tick.running && m.tick.phase == .boundary

/-- A packet is ready: it takes its place behind those that wait, and what can leave leaves. -/
def Mod.emit (m : Mod) (i : Side) (p : OutPkt) : Mod :=
  let m := m.setLink i fun l => { l with waiting := l.waiting ++ [p] }
  if m.settling then m else m.pump i

/-- The link that a change came by; none for one of the module's own or of Felso. -/
def Deferred.link (d : Deferred) : Option Side :=
  match d.reply, d.pkt, d.eff with
  | some w, _, _ => some w.link
  | none, some p, _ => some p.1
  | none, none, .regWrite (.session i _) _ _ _ _ => some i
  | none, none, .jobStart _ w _ _ => some w.link
  | none, none, .blinkOpen w _ _ => some w.link
  | none, none, .leafSwitch _ w _ => some w.link
  | none, none, .reinit _ w => some w.link
  | none, none, _ => none

/-- The changes of a tick in the order in which they apply: acceptance order, link A's before link B's (R166), and then those that
came by no link. -/
def Mod.inOrder (m : Mod) : List Deferred :=
  (m.deferred.filter fun d => d.link == some .a) ++ (m.deferred.filter fun d => d.link == some .b) ++
    m.deferred.filter fun d => d.link == none

/-- The first reply of the command that a waiter names waits for the boundary behind one accepted before it, so its final waits with
it (R158, R159). -/
def Mod.replyWaits (m : Mod) (w : Waiter) : Bool :=
  m.deferred.any fun d => match d.pkt with
    | some q => q.1 == w.link && q.2.session == w.session && q.2.tag == w.tag
    | none => false

/-- A reply of this session waits for the boundary, so the first replies to commands accepted after it wait too (R159). -/
def Mod.blocked (m : Mod) (w : Waiter) : Bool :=
  m.deferred.any fun d =>
    (match d.reply with
     | some v => v.link == w.link && v.session == w.session
     | none => false) ||
    (match d.pkt with
     | some q => q.1 == w.link && q.2.session == w.session
     | none => false)

/-- The packet of a reply. -/
def replyPkt (w : Waiter) (flags status : Nat) (payload : List Byte) : OutPkt :=
  { version := 1, role := w.role, session := w.session, tag := w.tag, opcode := w.opcode, flags := fReply + flags
    status := status, state := 0, payload := pad8 payload }

/-- Send a first reply in its session's order (R159); on a link that is not UP it is not sent (R158). -/
def Mod.sendReply (m : Mod) (w : Waiter) (flags status : Nat) (payload : List Byte) : Mod :=
  let p := replyPkt w flags status payload
  if (m.link w.link).state ≠ 2 then m
  else if m.blocked w then
    { m with deferred := m.deferred ++ [{ eff := .nothing, reply := none, pkt := some (w.link, p) }] }
  else m.emit w.link p

/-- The leaf that holds a final: the working leaf, which relays it, or the link's own leaf (R158, R162). -/
def Mod.holder (m : Mod) (w : Waiter) : Side := m.leaves.active.getD w.link

/-- Put a final into its held result (R160). -/
def Mod.hold (m : Mod) (w : Waiter) (holder : Side) (status : Nat) (payload : List Byte) : Mod :=
  { m with held := m.held.map fun h =>
      if h.link = w.link ∧ h.session = w.session ∧ h.tag = w.tag ∧ h.final = none then
        { h with
          final := some (status, pad8 payload), ready := m.tick.now, reserved := 32 + (pad8 payload).length
          holder := holder
          mirrored := h.journaled && m.leaves.xlinkUp && m.leaves.active == some holder } else h }

/-- A first reply that is the final: held, then sent (R158). -/
def Mod.done (m : Mod) (w : Waiter) (status : Nat) (payload : List Byte) : Mod :=
  (m.hold w w.link status payload).sendReply w 0 status payload

/-- A final after PENDING: held; sent where its session is open, its link UP, the link's leaf out of reset, and the
relay over the cross-link there where the link is the other leaf's (R158); it never passes the PENDING of its own command. -/
def Mod.final (m : Mod) (w : Waiter) (status : Nat) (payload : List Byte) : Mod :=
  let h := m.holder w
  let m := m.hold w h status payload
  if m.isOpen w.link w.session && decide ((m.link w.link).state = 2) && m.serving w.link &&
      (h == w.link || m.leaves.xlinkUp) then
    let p := replyPkt w 0 status payload
    if m.replyWaits w then { m with deferred := m.deferred ++ [{ eff := .nothing, reply := none, pkt := some (w.link, p) }] }
    else m.emit w.link p
  else m

/-- A final to whoever waits, if anyone does. -/
def Mod.finalTo (m : Mod) (w : Option Waiter) (status : Nat) (payload : List Byte) : Mod :=
  match w with
  | some w => m.final w status payload
  | none => m

/-- The detail block (R157). -/
def detail (code fld index : Nat) : List Byte := le 2 code ++ le 2 fld ++ le 4 index

def noField : Nat := 0xFFFF
def noIndex : Nat := 0xFFFFFFFF

/-- A detail block with nothing to name. -/
def plain : List Byte := detail 0 noField noIndex

/-- BAD_FIELD at a payload offset. -/
def badField (off : Nat) : List Byte := detail 1 off noIndex

/-- Status codes (04 Table 5). -/
def stOK : Nat := 0
def stPENDING : Nat := 1
def eSTATE : Nat := 2
def ePARAM : Nat := 3
def eBUSY : Nat := 4
def eAUTH : Nat := 5
def eABSENT : Nat := 6
def eCAPACITY : Nat := 7
def eVERSION : Nat := 8
def eINTEGRITY : Nat := 9
def eTIMEOUT : Nat := 10
def eMEDIA : Nat := 11
def eCONFLICT : Nat := 12
def eSAFETY : Nat := 13
def eDEGRADED : Nat := 14

/-! ### Events (R176, R177) -/

/-- Undelivered events of a session. -/
def Mod.eventsWaiting (m : Mod) (s : Session) : Nat :=
  ((m.link s.link).waiting.filter fun p => p.flags.testBit 1 && p.session == s.id).length

/-- Queue one event for one session, or count it as lost where 1,024 of its events wait (R177). -/
def Mod.eventTo (m : Mod) (cls : Nat) (body : List Byte) (s : Session) : Mod :=
  if 1024 ≤ m.eventsWaiting s then m.setSession s.link s.id fun t => { t with lost := t.lost + 1 }
  else
    let pl := le 8 s.evSeq ++ le 8 m.tick.count ++ le 1 cls ++ le 1 0 ++ le 2 0 ++ le 4 0 ++ body
    (m.setSession s.link s.id fun t => { t with evSeq := t.evSeq + 1 }).emit s.link
      { version := 1, role := Config.eventRole.toNat, session := s.id, tag := 0, opcode := 0x0F, flags := fEvent, status := 0
        state := 0, payload := pad8 pl }

/-- Send an event of a class to every subscribing session for which `g` holds. -/
def Mod.eventIf (m : Mod) (g : Session → Bool) (cls : Nat) (body : List Byte) : Mod :=
  (m.sessions.filter fun s => s.mask.getLsbD cls && g s).foldl (fun m s => m.eventTo cls body s) m

def Mod.event (m : Mod) (cls : Nat) (body : List Byte) : Mod := m.eventIf (fun _ => true) cls body

/-! ### The change journal (R497, R498) -/

/-- A read is answered with E_MEDIA: it counts in MEMORY_ERRORS (R439). -/
def Mod.mediaRead (m : Mod) : Mod := { m with die := { m.die with media := m.die.media + 1 } }

/-- An entry of a command that Zudin B brought in the tick under way, whose first SEQ is `base`. -/
def JEntry.lateB (base : Nat) (e : JEntry) : Bool := decide (base ≤ e.seq) && e.link == 1 && decide (e.kind ≤ 1)

/-- A journal with one more entry, of SEQ `n`. An entry of a command of Zudin A stands before those of Zudin B's commands of the same
tick (R166, R498), and the entries from there on move up by one. -/
def withEntry (base n : Nat) (l : List JEntry) (e : JEntry) : List JEntry :=
  match if e.link = 0 ∧ e.kind ≤ 1 then l.findIdx? (JEntry.lateB base) else none with
  | some k =>
    let rest := l.drop k
    l.take k ++ [{ e with seq := n - rest.length }] ++ rest.map fun (x : JEntry) => { x with seq := x.seq + 1 }
  | none => l ++ [{ e with seq := n }]

/-- Write a journal entry; the ring keeps 262,144. -/
def Mod.journal (m : Mod) (e : JEntry) : Mod :=
  let j := withEntry m.recs.jBase m.recs.jSeq m.recs.journal e
  { m with recs := { m.recs with
      journal := j.drop (j.length - 262144), jSeq := m.recs.jSeq + 1
      jMark := if (m.recs.jSeq + 1) % 65536 = 0 then m.recs.jSeq + 1 else m.recs.jMark } }

/-- Host time as entries and replies carry it; none while unset. -/
def Mod.hostNow (m : Mod) : Option Instant := if m.time.hostSet then some (instant m.time.host) else none

/-- An internal entry: KIND 2, 3 or 4. -/
def Mod.journalInternal (m : Mod) (kind status : Nat) (ref : Word) (launch : Option LaunchRec) : Mod :=
  m.journal
    { seq := 0, kind := kind, link := 0xFF, role := 0, opcode := 0, session := 0, host := m.hostNow, status := status
      tag := 0, aux := m.aux, hash := List.replicate 16 0, ref := ref, byB := m.leaves.active == some .b, launch := launch }

/-! ### Sessions -/

/-- Close sessions: their results stay held (R151), their download buffers are discarded and what they own in the
staging area stays with them (R488, R490). -/
def Mod.closeSessions (m : Mod) (g : Session → Bool) : Mod :=
  { m with
    sessions := m.sessions.filter fun s => !g s
    sec := { m.sec with
      buffers := m.sec.buffers.filter fun b => !(m.sessions.any fun s => g s && s.link == b.link && s.id == b.session) } }

/-- The default element of a keyed family. -/
def Mod.sill (m : Mod) (k : Nat) : Sill := lget .init m.sills k

def Mod.setSill (m : Mod) (k : Nat) (f : Sill → Sill) : Mod := { m with sills := lmod m.sills k f }

end Sys2Proof.Machine
end

