-- ==== Sys2Proof/Machine/Operands.lean ====
section
/-! DEFINITION. Operand forms: the geometry of planes, bricks, windows and sills (R28, R64, R73, R183), circuits and circuit
entries (04 Table 11), loops and lasers, port ranges and scopes. -/

namespace Sys2Proof.Machine

/-! ### Bricks and elements -/

/-- Brick number: plane × 68 + tile number (R87). -/
def brickNo (plane tile : Nat) : Nat := plane * 68 + tile

def planeOfBrick (b : Nat) : Nat := b / 68

def tileOfBrick (b : Nat) : Nat := b % 68

/-- Tiles 17 – 50 hold the middle bricks (R14). -/
def isMiddleTile (t : Nat) : Bool := decide (17 ≤ t) && decide (t < 51)

/-- The sill that drives a brick: tile ÷ 8, and on T64 – T67 the brick's plane (R28, R29). -/
def sillOfBrick (b : Nat) : Nat :=
  if tileOfBrick b < 64 then tileOfBrick b / 8 else planeOfBrick b

/-- The drive bank of a line (R64): lines 0–8 and 9–16 of a middle brick, eight lines each of an outer brick. -/
def bankOf (e : Elem) : Nat :=
  if isMiddleTile (tileOfBrick e.brick) then (if e.line < 9 then 0 else 1) else e.line / 8

/-- 1 for a spare coupler: rails 32 and 33 of an outer brick (R73). -/
def isCoupler (e : Elem) : Bool :=
  !isMiddleTile (tileOfBrick e.brick) && decide (32 ≤ e.rail)

def sharesLine (e f : Elem) : Bool := e.brick == f.brick && e.line == f.line

def sharesRail (e f : Elem) : Bool := e.brick == f.brick && e.rail == f.rail

/-! ### Circuits -/

/-- The plane that carries a circuit (R56). -/
def Circuit.plane (c : Circuit) : Nat :=
  match c.kind with
  | .lane => c.lane
  | _ => 0

/-- The three elements of a circuit through middle brick `k` (R73). -/
def Circuit.elems (c : Circuit) (k : Nat) : List Elem :=
  let p := c.plane
  [ { brick := brickNo p (c.src / 32), line := c.src % 32, rail := k }
  , { brick := brickNo p (17 + k), line := c.src / 32, rail := c.dst / 32 }
  , { brick := brickNo p (51 + c.dst / 32), line := c.dst % 32, rail := k } ]

/-- The outer elements of a circuit through middle brick `k`. -/
def Circuit.outer (c : Circuit) (k : Nat) : List Elem :=
  [ { brick := brickNo c.plane (c.src / 32), line := c.src % 32, rail := k }
  , { brick := brickNo c.plane (51 + c.dst / 32), line := c.dst % 32, rail := k } ]

/-- The KIND byte: lane in [2:0], kind in [5:4] (03 Table 2). -/
def Circuit.kindByte (c : Circuit) : Nat :=
  match c.kind with
  | .port => 0
  | .lane0 => 16
  | .lane => 32 + c.lane

/-- What a KIND byte names: lane 0 for port and lane 0 circuits, 1 – 7 for lane circuits; other values are not valid. -/
def kindOf (b : Nat) : Option (Kind × Nat) :=
  let lane := bits b 2 0
  if b.testBit 3 ∨ 64 ≤ b then none
  else match bits b 5 4 with
    | 0 => if lane = 0 then some (.port, 0) else none
    | 1 => if lane = 0 then some (.lane0, 0) else none
    | 2 => if lane = 0 then none else some (.lane, lane)
    | _ => none

/-- The circuit of an entry, where its ports are external and its kind is valid. -/
def entryCircuit (e : Entry) : Option Circuit :=
  match kindOf e.kind.toNat with
  | some (k, n) => if e.src < 512 ∧ e.dst < 512 then some { kind := k, src := e.src, dst := e.dst, lane := n } else none
  | none => none

/-- PINNED of an entry. -/
def entryPinned (e : Entry) : Bool := e.eflags.getLsbD 0

/-- Reserved bits of an entry are 0. -/
def entryClean (e : Entry) : Bool := e.eflags.toNat ≤ 1 && e.rsv == 0

/-- Read a circuit entry (04 Table 11). -/
def entryAt (bs : List Byte) (off : Nat) : Entry :=
  { src := field bs off 2, dst := field bs (off + 2) 2, kind := BitVec.ofNat 8 (field bs (off + 4) 1)
    eflags := BitVec.ofNat 8 (field bs (off + 5) 1), rsv := BitVec.ofNat 16 (field bs (off + 6) 2)
    jobTag := BitVec.ofNat 32 (field bs (off + 8) 4) }

/-- The first `n` entries at an offset. -/
def entriesAt (bs : List Byte) (off n : Nat) : List Entry :=
  (List.range n).map fun k => entryAt bs (off + 12 * k)

/-- Entry bytes with OUTCOME in byte 6, as PLAN_QUERY lists them. -/
def entryBytes (e : Entry) (outcome : Nat) : List Byte :=
  le 2 e.src ++ le 2 e.dst ++ [e.kind, e.eflags] ++ le 1 outcome ++ [0] ++ le 4 e.jobTag.toNat

/-- Two circuits that the entry format calls the same: kind, ports and lane (R101). -/
def Circuit.same (c d : Circuit) : Bool := c == d

/-! ### Windows -/

/-- The drop window Pp.Dn (R183). -/
def dropWindow (p n : Nat) : Nat := 7 * p + (n - 1)

/-- The add window Pp.An (R183). -/
def addWindow (p n : Nat) : Nat := 3808 + 7 * p + (n - 1)

/-- The fabric port of a window. -/
def portOfWindow (w : Nat) : Nat := (w % 3808) / 7

/-- The lane of a window. -/
def laneOfWindow (w : Nat) : Nat := w % 3808 % 7 + 1

def isDrop (w : Nat) : Bool := decide (w < 3808)

/-- The tile of a window: that of its group (R183). -/
def tileOfWindow (w : Nat) : Nat :=
  if w < 3808 then portOfWindow w / 32 else 51 + portOfWindow w / 32

/-- The sill of a window: that of its tile, and on T64 – T67 that of its lane (R28). -/
def sillOfWindow (w : Nat) : Nat :=
  if tileOfWindow w < 64 then tileOfWindow w / 8 else laneOfWindow w

/-- The sill that converts what belongs to a tile and to no plane, such as a port's taps: that of the tile, and on T64 – T67
sill 0, the one sill that every ordering code uses there (R29; DEDUCED, log 89). -/
def sillOfTile (t : Nat) : Nat := if t < 64 then t / 8 else 0

/-- The two windows a lane circuit locks (R56). -/
def Circuit.windows (c : Circuit) : List Nat :=
  match c.kind with
  | .lane => [dropWindow c.src c.lane, addWindow c.dst c.lane]
  | _ => []

/-- Lanes 1 – 7. -/
def lanes17 : List Nat := [1, 2, 3, 4, 5, 6, 7]

/-- The windows a port circuit keeps parked: every drop window of its source and every add window of its destination (R58). -/
def Circuit.parked (c : Circuit) : List Nat :=
  match c.kind with
  | .port => lanes17.map (dropWindow c.src) ++ lanes17.map (addWindow c.dst)
  | _ => []

/-! ### What is fitted -/

/-- Plane `n` is fitted (R10). -/
def Variant.plane (v : Variant) (n : Nat) : Bool := v.planes.getLsbD n

/-- The units of a circuit are fitted (R56, R60). -/
def Variant.fits (v : Variant) (c : Circuit) : Bool :=
  match c.kind with
  | .port => v.plane 0
  | .lane0 => v.plane 0 && decide (2 ≤ v.planes.toNat)
  | .lane => v.plane c.lane

/-- Planes fitted. -/
def Variant.planeList (v : Variant) : List Nat := (List.range 8).filter v.plane

/-- Windows fitted: 7,616 or none (R3). -/
def Variant.windowCount (v : Variant) : Nat := if v.windows then 7616 else 0

/-- Courses fitted. -/
def Variant.courseList (v : Variant) : List Nat := (List.range 16).filter fun k => v.courses.getLsbD k

/-- A laser number that is fitted (R184). -/
def Variant.laser (v : Variant) (k : Nat) : Bool :=
  decide (k < 20) || (decide (24 ≤ k) && decide (k < (if v = .p then 27 else 30)))

/-- A laser number of any ordering code (R184). -/
def laserNamed (k : Nat) : Bool := decide (k < 20) || (decide (24 ≤ k) && decide (k < 30))

/-! ### Loops (R182, R183) -/

/-- Loop classes (05 Table 1). -/
inductive LClass where
  | window
  | monitor
  | bias
  | temp
deriving DecidableEq, Repr

/-- The class of a loop index; none where the index names no loop of any code. -/
def loopClass (k : Nat) : Option LClass :=
  if k < 7616 then some .window
  else if 0x2000 ≤ k ∧ k < 0x2220 then some .monitor
  else if 0x3000 ≤ k ∧ k < 0x301E ∧ laserNamed (k - 0x3000) then some .bias
  else if 0x3100 ≤ k ∧ k < 0x311E ∧ laserNamed (k - 0x3100) then some .temp
  else none

/-- The loop is fitted on this code. -/
def Variant.loop (v : Variant) (k : Nat) : Bool :=
  match loopClass k with
  | some .window => v.windows
  | some .monitor => true
  | some .bias => v.laser (k - 0x3000)
  | some .temp => v.laser (k - 0x3100)
  | none => false

/-- Class codes of 05 Table 1. -/
def LClass.code : LClass → Nat
  | .window => 0
  | .monitor => 1
  | .bias => 2
  | .temp => 3

/-- The group of a loop (R183). -/
def groupOf (k : Nat) : Nat :=
  if k < 7616 then k / 32
  else if k < 0x3000 then 238 + (k - 0x2000) / 32
  else if k < 0x3100 then 255 else 256

/-- The laser of a laser loop. -/
def laserOfLoop (k : Nat) : Nat := if k < 0x3100 then k - 0x3000 else k - 0x3100

/-! ### Ranges of a packet -/

/-- FIRST, COUNT of the port commands: 0 – 511, 1 – 512, inside the 512 ports. -/
def portRange (first count : Nat) : Bool :=
  decide (first < 512) && decide (1 ≤ count) && decide (count ≤ 512) && decide (first + count ≤ 512)

/-- The 512-bit mask of 64 bytes: bit (p mod 8) of byte (p ÷ 8) is port p (R173). -/
def maskAt (bs : List Byte) (off : Nat) : BitVec 512 := BitVec.ofNat 512 (field bs off 64)

/-- The word of a payload. -/
def wordAt (bs : List Byte) (off : Nat) : Word := BitVec.ofNat 32 (field bs off 4)

/-- The first payload offset, of those given as (offset, size), whose reserved bytes are not 0. -/
def badReserved (bs : List Byte) (l : List (Nat × Nat)) : Option Nat :=
  (l.find? fun r => !zeros bs r.1 r.2).map Prod.fst

/-- The payload is `n` bytes padded with 0 to a multiple of 8 (R145); a shorter or longer one is malformed. -/
def sized (bs : List Byte) (n : Nat) : Bool :=
  decide (bs.length = (n + 7) / 8 * 8) && zeros bs n ((n + 7) / 8 * 8 - n)

end Sys2Proof.Machine
end

