-- ==== Sys2Proof/Machine/Flags.lean ====
section
/-! DEFINITION. Status computed from the state: sills, bricks, planes, windows, the degraded causes (R435), the causes of
SAFE_HOLD (R436), the eligibility of the standby (R414) and the lease. -/

namespace Sys2Proof.Machine

/-! ### Die-to-die links (R25, R539) -/

/-- One of the two leaves' links of a kind is up (R540: 0 always-on, 2 laser, 4 feed-forward): the work of one that is down goes
over the other leaf's. -/
def Mod.dieLink (m : Mod) (kind : Nat) : Bool :=
  [Side.a, Side.b].any fun i => m.serving i && m.die.up.getLsbD (kind + i.num)

/-- A result of a sill as the active leaf scales it while the sill's reference is suspect (R302). -/
def Mod.scaled (m : Mod) (sill : Nat) (v : Int) : Int :=
  match m.cal.scale.find? fun x => x.1 == sill with
  | some x => roundNE ((v * (x.2.1 : Int) : Rat) / ((x.2.2 : Int) : Rat))
  | none => v

/-- The same of a power in 0.01 dBm. -/
def Mod.scaledDb (m : Mod) (sill : Nat) (v : Int) : Int :=
  match m.cal.scale.find? fun x => x.1 == sill with
  | some x => v + Config.ratioDb x.2.1 x.2.2
  | none => v

/-- A leaf reaches a lintel over its memory port. -/
def Mod.memPort (m : Mod) (lintel : Nat) : Bool :=
  [Side.a, Side.b].any fun i => m.serving i && m.die.up.getLsbD (6 + 2 * i.num + lintel)

/-! ### Sills and bricks -/

/-- SILL_STATUS.STATE (R90): 0 OK, 1 one link down, 2 lost control with power held, 3 lost power. -/
def Sill.status (k : Sill) : Nat :=
  if !k.powered then 3 else if k.lost then 2 else if k.linkA && k.linkB then 0 else 1

/-- The sill cannot move its elements (R83). -/
def Sill.away (k : Sill) : Bool := decide (2 ≤ k.status)

/-- The sill's link to a leaf is up. -/
def Sill.linkTo (k : Sill) : Side → Bool
  | .a => k.linkA
  | .b => k.linkB

/-- A leaf reaches a sill: the link is up and the sill is powered. -/
def Mod.reaches (m : Mod) (i : Side) (k : Nat) : Bool := (m.sill k).linkTo i && (m.sill k).powered && !(m.sill k).lost

/-- A brick is UNDRIVEN: its sill has lost control or power (R83, R88). -/
def Mod.undriven (m : Mod) (b : Nat) : Bool := (m.sill (sillOfBrick b)).away

def Mod.brickFailed (m : Mod) (b : Nat) : Bool := m.fabric.failed.contains b

/-- Neither FAILED nor UNDRIVEN. -/
def Mod.brickOk (m : Mod) (b : Nat) : Bool := !m.brickFailed b && !m.undriven b

def Mod.stuckOn (m : Mod) (b : Nat) : Nat := (m.fabric.stuck.filter fun p => p.1.brick == b).length

/-- BRICK_STATUS.STATE (R88): the first of FAILED, UNDRIVEN and DEGRADED that holds. -/
def Mod.brickState (m : Mod) (b : Nat) : Nat :=
  if m.brickFailed b then 2 else if m.undriven b then 3 else if 0 < m.stuckOn b then 1 else 0

/-- The plane runs under RESERVE (R84). -/
def Mod.reserve (m : Mod) (p : Nat) : Bool := m.fabric.reserve.getLsbD p

/-- A middle brick is lost: FAILED or UNDRIVEN. -/
def Mod.middleLost (m : Mod) (p k : Nat) : Bool := !m.brickOk (brickNo p (17 + k))

/-- The spare `k` of plane `p` stands in for a middle brick that is still lost (R77). -/
def Mod.standsIn (m : Mod) (p k : Nat) : Bool :=
  m.fabric.standIn.any fun t => t.1 == p && t.2.1 == k && m.middleLost p t.2.2

/-- A middle brick usable for circuits (R73, R77): neither FAILED nor UNDRIVEN, and under RESERVE a spare only as a stand-in. -/
def Mod.usable (m : Mod) (p k : Nat) : Bool :=
  decide (k < 34) && !m.middleLost p k && (decide (k < 32) || !m.reserve p || m.standsIn p k)

/-- Usable middle bricks of a plane, lowest first; h is their number (R74). -/
def Mod.usables (m : Mod) (p : Nat) : List Nat := (List.range 34).filter (m.usable p)

/-! ### Elements in use -/

def Mod.isStuck (m : Mod) (e : Elem) : Bool := m.fabric.stuck.any fun p => p.1 == e

/-- Stuck-SET elements (R72). -/
def Mod.stuckSet (m : Mod) : List Elem := (m.fabric.stuck.filter fun p => p.2).map Prod.fst

/-- The elements of a member's path; none while unrouted. -/
def Context.path (c : Context) : List Elem :=
  match c.middle with
  | some k => c.circ.elems k
  | none => []

/-- An item of the running commit that is still at work. -/
def Progress.open (p : Progress) : Bool :=
  match p with
  | .waiting => true
  | .fired _ => true
  | .placed _ => true
  | .made _ => true
  | _ => false

/-- Elements that a member or an unfinished item of the running commit holds. -/
def Mod.heldElems (m : Mod) : List Elem :=
  m.engine.members.flatMap Context.path ++
    (match m.engine.run with
     | some r => (r.items.filter fun i => i.prog.open).flatMap fun i => i.clears ++ i.sets
     | none => [])

/-- Elements that calibration has SET for a test or a service circuit (R78, R308). -/
def Mod.testElems (m : Mod) : List Elem :=
  m.cal.tests.flatMap fun t => (t.cells.filter TestCell.on).map TestCell.elem

/-- Orphans: SET elements, not stuck, that carry no circuit (R118); those of calibration are its own. -/
def Mod.orphans (m : Mod) : List Elem :=
  let h := m.heldElems ++ m.testElems
  m.fabric.set.filter fun e => !h.contains e && !m.isStuck e

/-- A circuit that is still to be routed can take a stuck-SET element: it lies on the circuit's line, or is the middle cell between
its outer bricks (R72). -/
def takesStuck (e : Elem) (c : Circuit) : Bool :=
  decide (planeOfBrick e.brick = c.plane) && (
    let t := tileOfBrick e.brick
    if isMiddleTile t then decide (e.line = c.src / 32) && decide (e.rail = c.dst / 32)
    else (decide (t = c.src / 32) && decide (e.line = c.src % 32)) || (decide (t = 51 + c.dst / 32) && decide (e.line = c.dst % 32)))

/-- Stuck-SET elements that carry no circuit of a set: load, but never orphans (R72). -/
def Mod.idleStuck (m : Mod) (set : List Context) : List Elem :=
  let h := set.flatMap Context.path
  let open_ := (set.filter fun x => x.middle.isNone).map Context.circ
  m.stuckSet.filter fun e => !h.contains e && !open_.any (takesStuck e)

/-- Lines of a brick that carry a circuit (R88). -/
def Mod.linesUsed (m : Mod) (b : Nat) : Nat :=
  ((m.engine.members.flatMap Context.path).filter fun e => e.brick == b).length

/-- Host circuits of a plane (R89). -/
def Mod.circuitsIn (m : Mod) (p : Nat) : Nat :=
  (m.engine.members.filter fun c => c.circ.plane == p).length

/-- Outer bricks of a plane in state DEGRADED, FAILED or UNDRIVEN (R89). -/
def Mod.impairedOuter (m : Mod) (p : Nat) : Nat :=
  ((List.range 68).filter fun t => !isMiddleTile t && decide (m.brickState (brickNo p t) ≠ 0)).length

/-- PLANE_STATUS (R89). -/
def Mod.planeStatus (m : Mod) (p : Nat) : Word :=
  if !m.variant.plane p then 0
  else wbit 31 ||| at_ 16 (m.circuitsIn p) ||| at_ 8 (m.usables p).length ||| at_ 0 (m.impairedOuter p)

/-! ### Windows and loops -/

/-- A loop that is not listed has been touched by nothing since the windows were last parked as a whole. -/
def Mod.loop (m : Mod) (k : Nat) : Loop := aget { Loop.init with wstate := m.trowel.base } m.trowel.loops k

def Mod.setLoop (m : Mod) (k : Nat) (f : Loop → Loop) : Mod :=
  { m with trowel := { m.trowel with loops := amod { Loop.init with wstate := m.trowel.base } m.trowel.loops k f } }

def WState.code : WState → Nat
  | .parked => 0
  | .tuning => 1
  | .locked => 2
  | .hold => 3
  | .cold => 4

/-- The code of a window's bank domain (R450): lane and tile. -/
def bankCode (w : Nat) : Nat := 0x1000 + 0x100 * laneOfWindow w + tileOfWindow w

def Mod.domain (m : Mod) (code : Nat) : Option Domain := m.power.domains.find? fun d => d.code == code

/-- The window's bank is OFF (R452). -/
def Mod.bankOff (m : Mod) (w : Nat) : Bool :=
  match m.domain (bankCode w) with
  | some d => d.state == .off
  | none => false

/-- No leaf holds the lease, and one has held it since the last power-on reset. -/
def Mod.leaseGone (m : Mod) : Bool :=
  m.leaves.active.isNone && (m.leaves.everHeld || m.leaves.loopsOut.isSome)

/-- A leaf in BOOT has read the fabric back and no leaf is active: its Trowel parks and restarts the loops (R206, 01 Table 6). -/
def Mod.bootLoops (m : Mod) : Bool :=
  m.leaves.active.isNone && [Side.a, Side.b].any fun i => m.serving i && (m.leaf i).state == .boot && (m.leaf i).bootReads

/-- Hold cause 2 (05 Table 4): the window's sill is away or its bank OFF, Trowel is reinitialised, or no leaf holds the lease. -/
def Mod.driveLost (m : Mod) (k : Nat) : Bool :=
  m.trowel.reinit || m.leaseGone ||
    (decide (k < 7616) && ((m.sill (sillOfWindow k)).away || m.bankOff k))

/-- Hold causes of a loop with an output: command, implausible, drive lost, SAFE_HOLD (05 Table 4). -/
def Mod.holdCauses (m : Mod) (k : Nat) : BitVec 4 :=
  let c := (m.loop k).causes
  c ||| (if m.driveLost k then 4 else 0) ||| (if m.state = .safeHold then 8 else 0)

/-- The loop is in hold (R205). -/
def Mod.inHold (m : Mod) (k : Nat) : Bool := m.holdCauses k != 0

/-- The state that a window reports (R83, R208, R452). -/
def Mod.wstate (m : Mod) (w : Nat) : WState :=
  let l := m.loop w
  if !(m.sill (sillOfWindow w)).powered || m.bankOff w || l.wstate == .cold then .cold
  else if m.inHold w then .hold else l.wstate

/-- Fitted windows in a state (R228). -/
def Mod.windowsIn (m : Mod) (s : WState) : Nat :=
  ((List.range m.variant.windowCount).filter fun w => m.wstate w == s).length

/-- Loop indices with an output that are fitted. -/
def Variant.outLoops (v : Variant) : List Nat :=
  List.range v.windowCount ++ ((List.range 30).filter v.laser).flatMap fun k => [0x3000 + k, 0x3100 + k]

/-- Loops with an output that are in hold (R221). -/
def Mod.holdLoops (m : Mod) : Nat := (m.variant.outLoops.filter m.inHold).length

/-! ### Lease and leaves -/

/-- Function `f` of 09 Table 7 is being reinitialised. -/
def Mod.reinitOn (m : Mod) (f : Nat) : Bool := m.leaves.reinit.any fun r => r.1 == f

/-- The highest epoch held at any sill (R432). -/
def Mod.topEpoch (m : Mod) : Nat := (m.sills.map Sill.epoch).foldl max 0

/-- The preferred leaf: PREF_SEL, or where it is 0 the strap sampled at power-on (R407, R433). -/
def Mod.pref (m : Mod) : Side :=
  match bits m.leaves.cfg.toNat 9 8 with
  | 1 => .a
  | 2 => .b
  | _ => if m.leaves.prefStrap then .a else .b

/-- The epoch a leaf grants: 2 × (n + 1) + p, n half the highest epoch it has seen (R406). -/
def Mod.nextEpoch (m : Mod) (i : Side) : Nat :=
  2 * ((m.leaf i).highest / 2 + 1) + (if m.pref = i then 1 else 0)

/-- The leaf reaches every sill that the other leaf reaches. -/
def Mod.reachesAll (m : Mod) (i : Side) : Bool :=
  (List.range 8).all fun k => !m.reaches i.other k || m.reaches i k

/-- A leaf is eligible to take control (09, How control moves): in STANDBY, last report clean and received, the cross-link
up, and reaching every sill that the active leaf reaches; not while its cores are unlocked (R508). -/
def Mod.eligible (m : Mod) (i : Side) : Bool :=
  (m.leaf i).state == .standby && m.leaves.reportClean && m.leaves.reportSeen && m.leaves.xlinkUp && !m.xlinkDown &&
    m.reachesAll i && !(m.felso.unlocked.any fun p => p.1 == 1 + i.num)

/-! ### Causes -/

/-- Live causes of SAFE_HOLD (R436): interlock, MEMS rail, tile temperature. -/
def Mod.holdNow (m : Mod) : BitVec 3 :=
  BitVec.ofNat 3 (b2n m.sup.interlock + 2 * b2n (decide (2 ≤ m.sup.memsBad)) + 4 * b2n (!m.fabric.tileOver.isEmpty))

/-- Members AT_RISK or LOST (R134). -/
def Mod.impaired (m : Mod) : Nat :=
  (m.engine.members.filter fun c => c.state == .atRisk || c.state == .lost).length

/-- A set of lasers of 07 Table 8: its working numbers, its spare. -/
def laserSets (v : Variant) : List (List Nat × Nat) :=
  [([0, 1, 2, 3], 16), ([4, 5, 6, 7], 17), ([8, 9, 10, 11], 18), ([12, 13, 14, 15], 19)] ++
    (if v = .p then [([24, 25], 26)] else [([24, 25], 28), ([26, 27], 29)])

def Mod.laser (m : Mod) (k : Nat) : Laser := aget (.init 7) m.osc.lasers k

/-- A set has no READY spare (R334). -/
def Mod.spareGone (m : Mod) : Bool :=
  (laserSets m.variant).any fun s => decide ((m.laser s.2).role ≠ 1)

/-- Some unit has three consecutive runs of one class with every tap rejected (R316). -/
def Mod.calRejecting (m : Mod) : Bool :=
  m.cal.classes.any fun c => c.rejectRun.any fun r => decide (3 ≤ r.2)

/-- A store runs on one copy: a channel is FAILED or its quarantine map is full (R429). -/
def Mod.oneCopy (m : Mod) : Bool :=
  (List.range 8).any fun c => lget 0 m.die.channels c == 2 || decide (1024 ≤ aget 0 m.die.quarant c)

/-- DEGRADED_CAUSE (R435), each bit live. TICK_OVERRUN, REFCLK_HOLDOVER and CROSS_LINK are kept as their events set them. -/
def Mod.causes (m : Mod) : Word :=
  let kept : Word := m.leaves.causes &&& 0xB
  let bit (n : Nat) (b : Bool) : Word := if b then wbit n else 0
  kept |||
    bit 2 (m.standby.isNone || !m.leaves.reportClean || !m.leaves.reportSeen) |||
    bit 4 (m.sills.any fun k => k.status == 1) |||
    bit 5 (m.sills.any Sill.away) |||
    bit 6 (!(m.fabric.failed.filter fun b => m.variant.plane (planeOfBrick b)).isEmpty || m.sills.any Sill.away) |||
    bit 7 (m.trowel.ffState == 2 && m.variant.windows) |||
    bit 8 (m.mortar.mode == 1 && m.variant.windows) |||
    bit 9 (m.trowel.loops.any fun p => p.2.causes.getLsbD 1) |||
    bit 10 (m.mortar.courses.any Course.failed) |||
    bit 11 (m.cal.suspect &&& 0xFF != 0) |||
    bit 12 m.calRejecting |||
    bit 13 (!m.cal.flagged.isEmpty) |||
    bit 14 m.spareGone |||
    bit 15 m.osc.eol |||
    bit 16 m.oneCopy |||
    bit 17 (decide (0 < m.impaired))

/-! ### Members -/

/-- The state code of 03 Table 1. -/
def CState.code : CState → Nat
  | .planned => 0
  | .making => 1
  | .active => 2
  | .atRisk => 3
  | .lost => 4
  | .breaking => 5
  | .notMade => 6

def Mod.member (m : Mod) (c : Circuit) : Option Context := m.engine.members.find? fun x => x.circ == c

def Mod.setMember (m : Mod) (c : Circuit) (f : Context → Context) : Mod :=
  { m with engine := { m.engine with members := m.engine.members.map fun x => if x.circ = c then f x else x } }

/-- FROZEN (R91): an element of the member's path lies on an UNDRIVEN brick. -/
def Mod.frozen (m : Mod) (x : Context) : Bool := x.path.any fun e => m.undriven e.brick

/-- The class 2 event body (03 Table 13). -/
def memberBody (x : Context) (st : CState) (cause loop : Nat) : List Byte :=
  le 4 x.ctx ++ le 1 st.code ++ le 1 cause ++ le 2 0 ++ le 2 x.circ.src ++ le 2 x.circ.dst ++ le 1 x.circ.kindByte ++
    le 3 0 ++ le 4 loop ++ le 4 x.jobTag.toNat

/-- A member becomes AT_RISK or LOST: its state changes and a class 2 event is sent (R130); a LOST member does not fall
back to AT_RISK, and nothing is sent where the state stays. -/
def Mod.impair (m : Mod) (x : Context) (st : CState) (cause loop : Nat) : Mod :=
  if x.state = st ∨ x.state = .lost ∨ x.state = .making ∨ x.state = .breaking then m
  else (m.setMember x.circ fun y => { y with state := st }).event 2 (memberBody x st cause loop)

/-- The members whose windows include `w`. -/
def Mod.membersOf (m : Mod) (w : Nat) : List Context := m.engine.members.filter fun x => x.circ.windows.contains w

/-- An AT_RISK member returns to ACTIVE once both its windows report LOCKED and none is flagged (R83, R208, R329). -/
def Mod.settleMembers (m : Mod) : Mod :=
  { m with engine := { m.engine with members := m.engine.members.map fun x =>
      if x.state = .atRisk ∧
          (x.circ.windows.all fun w => m.wstate w == .locked && !(m.cal.flagged.any fun f => f.1 == w)) then
        { x with state := .active } else x } }

/-- An ACTIVE member with a window in HOLD is AT_RISK, cause 0 (03 Tables 1 and 13). -/
def Mod.riskHeld (m : Mod) : Mod :=
  (m.engine.members.filter fun x => x.state == .active).foldl (fun m x =>
    match x.circ.windows.find? fun w => m.wstate w == .hold with
    | some w => m.impair x .atRisk 0 w
    | none => m) m

end Sys2Proof.Machine
end

