-- ==== Sys2Proof/Machine/Protocol.lean ====
section
/-! DEFINITION. Acceptance of a command packet in the order of 04 Table 4 (R154), the opcode tables (R169), legality by
state (R178), and the commands of the session family (R147 – R151, R160 – R162, R176). -/

namespace Sys2Proof.Machine

/-- An opcode's row: code, minimum role, whether it is a query, and the payload size of its largest final reply. -/
structure Op where
  code  : Nat
  role  : Nat
  query : Bool
  size  : Nat
deriving DecidableEq, Repr

/-- 04 Tables 8 – 10; opcodes 0xF0 – 0xFF share the last row. -/
def opTable : List Op :=
  [ ⟨0x00, 0, true, 8⟩, ⟨0x01, 0, false, 40⟩, ⟨0x02, 0, false, 8⟩, ⟨0x03, 0, false, 8⟩, ⟨0x04, 0, true, 40⟩
  , ⟨0x05, 0, true, 16784⟩, ⟨0x06, 0, true, 65544⟩, ⟨0x07, 0, false, 8⟩, ⟨0x08, 0, false, 8⟩ ] ++
  [ ⟨0x10, 1, false, 80⟩, ⟨0x11, 1, false, 80⟩, ⟨0x12, 1, false, 24⟩, ⟨0x13, 1, false, 80⟩, ⟨0x14, 1, false, 8⟩
  , ⟨0x15, 0, true, 49248⟩, ⟨0x16, 1, false, 40⟩, ⟨0x17, 0, true, 65288⟩ ] ++
  [ ⟨0x30, 2, false, 8⟩, ⟨0x31, 0, true, 8192⟩, ⟨0x32, 2, false, 72⟩, ⟨0x33, 0, true, 104⟩, ⟨0x40, 2, false, 8⟩
  , ⟨0x41, 2, false, 8⟩, ⟨0x42, 2, false, 8⟩, ⟨0x43, 0, true, 16408⟩, ⟨0x44, 2, false, 56⟩, ⟨0x45, 0, true, 192⟩ ] ++
  [ ⟨0x50, 2, false, 8⟩, ⟨0x51, 2, false, 24⟩, ⟨0x52, 2, false, 8⟩, ⟨0x53, 2, false, 8⟩, ⟨0x54, 2, false, 8⟩
  , ⟨0x55, 0, true, 40⟩, ⟨0x60, 0, true, 48⟩, ⟨0x61, 2, false, 8⟩, ⟨0x62, 2, false, 8⟩, ⟨0x63, 3, false, 8⟩
  , ⟨0x64, 2, false, 16⟩ ] ++
  [ ⟨0x70, 0, true, 65536⟩, ⟨0x71, 0, true, 65536⟩, ⟨0x72, 2, false, 8⟩, ⟨0x73, 0, true, 65536⟩, ⟨0x74, 3, false, 8⟩
  , ⟨0x80, 3, false, 16⟩, ⟨0x81, 3, false, 8⟩, ⟨0x82, 3, false, 16⟩, ⟨0x83, 3, false, 8⟩, ⟨0x84, 0, true, 136⟩
  , ⟨0x85, 3, false, 32⟩, ⟨0x86, 3, false, 8⟩, ⟨0x87, 3, false, 8⟩ ] ++
  [ ⟨0x90, 0, true, 1048⟩, ⟨0x91, 2, false, 8⟩, ⟨0x92, 2, false, 8⟩, ⟨0xA0, 0, true, 1024⟩, ⟨0xA1, 2, false, 8⟩
  , ⟨0xA2, 3, false, 8⟩, ⟨0xA3, 3, false, 8⟩, ⟨0xA4, 3, false, 8⟩, ⟨0xA5, 3, false, 8⟩, ⟨0xA6, 3, false, 8⟩ ]

/-- The row of an opcode; none where it is undefined (R169). -/
def opOf (code : Nat) : Option Op :=
  if 0xF0 ≤ code ∧ code < 0x100 then some ⟨code, 4, false, 8⟩
  else opTable.find? fun o => o.code == code

/-- A cell of 04 Table 16. -/
inductive Legal where
  | a
  | s
  | h
deriving DecidableEq, Repr

/-- The rows of 04 Table 16 by opcode: the cells of BOOT, RECOVERY, STANDBY, READY, COMMITTING and SAFE_HOLD. -/
def legalRow (code : Nat) : List Legal :=
  if code ∈ [0x00, 0x01, 0x02, 0x03, 0x04, 0x06, 0x08] then [.a, .a, .a, .a, .a, .a]
  else if code ∈ [0x05, 0x07] then [.s, .a, .a, .a, .a, .a]
  else if code ∈ [0xA0, 0x71, 0x84] then [.a, .a, .a, .a, .a, .a]
  else if code ∈ [0x12, 0x16, 0x13, 0x10, 0x11] then [.s, .s, .s, .a, .a, .h]
  else if code ∈ [0x14, 0x30, 0x32] then [.s, .s, .s, .a, .a, .a]
  else if code ∈ [0x40, 0x41, 0x44] then [.s, .s, .s, .a, .a, .h]
  else if code ∈ [0x42, 0x72, 0x74, 0x50, 0x51, 0x52, 0x53, 0x54] then [.s, .s, .s, .a, .a, .a]
  else if code ∈ [0x61, 0x62, 0x63, 0x64] then [.s, .s, .s, .a, .a, .a]
  else if code ∈ [0x80, 0x81, 0x82, 0x85, 0x86] then [.s, .a, .a, .a, .a, .a]
  else if code ∈ [0x83, 0x87, 0x91, 0x92] then [.s, .s, .s, .a, .a, .a]
  else if code ∈ [0xA1, 0xA2] then [.s, .s, .s, .a, .a, .a]
  else if code ∈ [0xA3, 0xA6] ∨ 0xF0 ≤ code then [.a, .a, .a, .a, .a, .a]
  else if code = 0xA4 then [.s, .s, .s, .s, .s, .a]
  else if code = 0xA5 then [.s, .s, .a, .a, .a, .s]
  else [.s, .s, .a, .a, .a, .a]

/-- Legality of an opcode in a leaf's state (R178); READY stands for DEGRADED too. A leaf in OFF answers nothing. -/
def legal (code : Nat) (st : LeafState) : Legal :=
  let col := match st with
    | .boot => 0
    | .recovery => 1
    | .standby => 2
    | .ready => 3
    | .degraded => 3
    | .committing => 4
    | .safeHold => 5
    | .off => 0
  lget .s (legalRow code) col

/-- An accepted command on its way to its first reply. -/
structure Req where
  w       : Waiter
  role    : Nat
  query   : Bool
  hash    : List Byte
  ref     : Word
  payload : List Byte
deriving DecidableEq, Repr

/-- The parameter hash (R146): the first 16 bytes of SHA-256 over OPCODE and payload. -/
def paramHash (code : Nat) (payload : List Byte) : List Byte :=
  (sha256 (BitVec.ofNat 8 code :: payload)).take 16

/-- REF of a journal entry: the PLAN_ID or JOB_ID that the payload begins with, or 0 (11 Table 10). -/
def refOf (code : Nat) (payload : List Byte) : Word :=
  if code ∈ [0x10, 0x11, 0x12, 0x13, 0x14, 0x15, 0x16, 0x51, 0x52, 0x53, 0x54, 0x55] then wordAt payload 0 else 0

/-- Write the journal entry of a command with the status of its first reply (R152, R498): KIND 1 for E_AUTH, KIND 0 for an
accepted command that is not a query. A command is accepted where the legality table of R178 says so; what is checked further may
still refuse it (DEDUCED, log 14). -/
def Mod.journalReq (m : Mod) (r : Req) (status : Nat) : Mod :=
  if status = eAUTH ∨ !r.query then
    m.journal
      { seq := 0, kind := if status = eAUTH then 1 else 0, link := r.w.link.num, role := r.role, opcode := r.w.opcode
        session := r.w.session, host := m.hostNow, status := status, tag := r.w.tag, aux := m.aux, hash := r.hash
        ref := r.ref, byB := r.w.link == .b, launch := none }
  else m

/-- First reply that is the final. -/
def answer (r : Req) (status : Nat) (payload : List Byte) (m : Mod) : Mod :=
  (m.journalReq r status).done r.w status payload

/-- Refusal with a detail block (R157). -/
def refuse (r : Req) (status : Nat) (d : List Byte) (m : Mod) : Mod := answer r status d m

/-- First reply PENDING. -/
def pend (r : Req) (m : Mod) : Mod :=
  (m.journalReq r stPENDING).sendReply r.w 0 stPENDING []

/-- The change takes effect at the next boundary, and the OK reply leaves then (R34). -/
def later (r : Req) (e : Effect) (m : Mod) : Mod :=
  let m := m.journalReq r stOK
  { m with deferred := m.deferred ++ [{ eff := e, reply := some r.w, pkt := none }] }

/-- A command taken from a packet whose operands are refused for their size or reserved bytes. -/
def malformed (r : Req) (m : Mod) : Mod := refuse r ePARAM (badField noField) m

/-- The minimum role: for REG_WRITE that of the register's block (R147). -/
def minRole (o : Op) (payload : List Byte) : Nat :=
  if o.code = 0xA1 then
    let b := field payload 0 4 / 65536
    if b = 0xA ∨ b = 0xB ∨ b = 0xC ∨ b = 0xE then 3 else 2
  else o.role

/-- RESERVED_OVERRIDE set in a plan command; a payload too short to hold FLAGS has it clear (R99). -/
def overrideAsked (code : Nat) (payload : List Byte) : Bool :=
  if code = 0x12 then (field payload 8 4).testBit 1
  else if code = 0x10 ∨ code = 0x11 then (field payload 4 4).testBit 1
  else false

/-- A held result that has not expired (R160). -/
def Held.kept (h : Held) (now : Nat) : Bool := h.final.isNone || decide (now < h.ready + 1000000)

/-- The command known to the leaf under a link, session and tag (R161). -/
def Mod.known (m : Mod) (i : Side) (sid : Word) (tag : BitVec 16) : Option Held :=
  m.held.find? fun h => h.link == i && h.session == sid && h.tag == tag && h.kept m.tick.now

/-- Drop a held result. -/
def Mod.forget (m : Mod) (i : Side) (sid : Word) (tag : BitVec 16) : Mod :=
  { m with held := m.held.filter fun h => !(h.link == i && h.session == sid && h.tag == tag) }

/-- Commands of a link that await their final (R167). -/
def Mod.awaiting (m : Mod) (i : Side) : Nat :=
  (m.held.filter fun h => h.link == i && h.final.isNone).length

/-- Bytes that a session's results take of its 32 MiB (R160). -/
def Mod.storeUsed (m : Mod) (i : Side) (sid : Word) : Nat :=
  sumN ((m.held.filter fun h => h.link == i && h.session == sid && h.kept m.tick.now).map Held.reserved)

/-- The reserved parts of a request's header are 0 (R143). -/
def packetClean (p : Packet) : Bool :=
  p.role.toNat ≤ 7 && p.flags == 0 && p.status == 0 && p.state == 0 && p.rsv == 0 && p.ext == 0

/-- The leaf takes packets of its link: it runs, and the link is UP, or went down at most 2 ticks ago, so that the packet
was received whole before (R137, R140, R153). -/
def Mod.takes (m : Mod) (i : Side) : Bool :=
  m.serving i && (decide ((m.link i).state = 2) ||
    (match (m.link i).downTick with
     | some t => decide (m.tick.now ≤ t + 2)
     | none => false))

/-- The packet came without credit: what the module has not yet returned fills what it granted (R163 – R165). -/
def LinkSt.noCredit (l : LinkSt) (n : Nat) : Bool :=
  decide (64 ≤ l.owedPkts) || decide (262144 < l.owedBytes + n)

/-- A packet discarded without a reply (R144, R165). -/
def Mod.discard (m : Mod) (i : Side) : Mod := m.setLink i fun l => { l with discards := l.discards + 1 }

/-- The command's credits are returned at acceptance in a control frame, but withheld while 1,024 packets wait on the link (R163,
R164). -/
def LinkSt.credit (l : LinkSt) (n : Nat) : LinkSt :=
  if l.waiting.length < 1024 then
    ({ l with owedPkts := 0, owedBytes := 0 } : LinkSt).control false (l.owedPkts + 1) (l.owedBytes + n)
  else { l with owedPkts := l.owedPkts + 1, owedBytes := l.owedBytes + n }

/-- The leaf takes a packet from its receive buffer (R153): where it came in frames that the model was shown, it stands at the
front. -/
def LinkSt.takePacket (l : LinkSt) (p : Packet) : LinkSt :=
  match l.received with
  | [] => l
  | b :: t =>
    if field b 2 2 = p.tag.toNat ∧ field b 8 4 = p.session.toNat ∧ b.drop 32 = p.payload then { l with received := t } else l

/-! ### Replies of commits -/

/-- TIME (12) of a requested instant; 0 for an immediate commit. -/
def reqBytes : Option Instant → List Byte
  | some t => timeBytes t
  | none => List.replicate 12 0

/-- The launch record (03 Table 6). -/
def launchBytes (l : LaunchRec) : List Byte :=
  le 4 l.planId.toNat ++ le 4 l.gen.toNat ++ le 8 l.tick ++ reqBytes l.req ++ timeBytes l.time ++ le 8 l.complete ++
    le 4 l.flags.toNat ++ le 4 0

/-- Counts of a commit in the order of 04 Table 14: MADE, NOT_MADE, CLEARED, NOT_CLEARED, MOVED, STUCK, REPAIRED. -/
def countBytes (c : List Nat) : List Byte :=
  ((List.range 7).flatMap fun k => le 2 (lget 0 c k)) ++ le 2 0

/-- The commit final reply (04 Table 14); the detail block is all 0 with OK (R175). -/
def commitFinal (status : Nat) (d : List Byte) (l : LaunchRec) (c : List Nat) : List Byte :=
  (if status = stOK then List.replicate 8 0 else slice d 0 8) ++ launchBytes l ++ countBytes c

/-- The record of a plan that never launched (R175). -/
def Mod.noLaunch (m : Mod) (id : Word) (timed : Option Instant) : LaunchRec :=
  { planId := id, gen := m.engine.gen, tick := 0, req := timed, time := 0, complete := m.tick.count
    flags := if timed.isSome then 1 else 0 }

/-- Who sent a packet. -/
def packetWaiter (p : Packet) (code : Nat) : Waiter :=
  { link := p.link, session := p.session, tag := p.tag, opcode := code, role := p.role.toNat % 8 }

/-- The request of a packet. -/
def packetReq (p : Packet) (o : Op) : Req :=
  { w := packetWaiter p o.code, role := p.role.toNat % 8, query := o.query, hash := paramHash o.code p.payload
    ref := refOf o.code p.payload, payload := p.payload }

/-- Steps 2 – 5 of 04 Table 4: the status and detail of the first check that fails. A role both above the session's and below the
opcode's is answered ROLE_ABOVE_SESSION (DESIGN CHOICE, log 99: R150 names the two details and no order). -/
def headerCheck (o : Op) (p : Packet) (m : Mod) : Option (Nat × List Byte) :=
  let sess := m.session p.link p.session
  let role := p.role.toNat % 8
  if p.version ≠ 1 then some (eVERSION, plain ++ [2])
  else if !packetClean p then some (ePARAM, detail 0x12 noField noIndex)
  else if 8192 < p.len8.toNat then some (ePARAM, badField noField)
  else if (o.code = 1) ≠ (p.session = 0) ∨ (p.session ≠ 0 ∧ sess = none) then some (eAUTH, detail 7 noField noIndex)
  else if (match sess with | some s => s.role | none => 0) < role then some (eAUTH, detail 9 noField noIndex)
  else if role < minRole o p.payload ∨ (role < 2 ∧ overrideAsked o.code p.payload = true) then
    some (eAUTH, detail 8 noField noIndex)
  else none

/-- The payload of a refusal by steps 3 – 8: of a commit command it is laid out as its final reply, with the plan and the instant
that the request names (R175). -/
def Mod.refusal (m : Mod) (r : Req) (status : Nat) (d : List Byte) : List Byte :=
  if r.w.opcode ∈ [0x10, 0x11, 0x13] ∧ status ≠ eVERSION then
    commitFinal status d (m.noLaunch (wordAt r.payload 0)
      (if r.w.opcode = 0x13 ∧ (field r.payload 4 4).testBit 0 then some (timeAt r.payload 8) else none)) []
  else d

/-- Refuse a packet before it is accepted: nothing is held, and only E_AUTH is journaled. -/
def Mod.turnAway (m : Mod) (r : Req) (status : Nat) (d : List Byte) : Mod :=
  (if status = eAUTH then m.journalReq r status else m).sendReply r.w 0 status (m.refusal r status d)

/-- Step 6 (04 Table 7): what the packet of a known tag receives; none where it runs as a new command. -/
def dupReply (h : Held) (hash : List Byte) : Option (Nat × Nat × List Byte) :=
  match h.final with
  | none =>
    if h.hash = hash then some (fRepeat, stPENDING, []) else some (fDupTag, eBUSY, detail 0x0C noField noIndex)
  | some (st, pl) => if h.hash = hash then some (fRepeat, st, pl) else none

/-- Make the command known to the leaf, its store reserved (R160). SESSION_OPENs are known under SESSION_ID 0. -/
def Mod.remember (m : Mod) (o : Op) (r : Req) : Mod :=
  { m with held := m.held ++
    [ { link := r.w.link, session := r.w.session, tag := r.w.tag, opcode := r.w.opcode, role := r.role, hash := r.hash
        journaled := !r.query, holder := r.w.link, mirrored := false, final := none, ready := 0
        reserved := 32 + o.size, seen := false } ] }

/-- Step 8: the status and detail of the first check that fails. Every command counts against the 1,024, also one that never replies
PENDING (DEDUCED, log 114: at its acceptance it awaits its final). -/
def limitCheck (o : Op) (r : Req) (m : Mod) : Option (Nat × List Byte) :=
  if 1024 ≤ m.awaiting r.w.link then some (eBUSY, detail 0x0E noField noIndex)
  else if 33554432 < m.storeUsed r.w.link r.w.session + 32 + o.size then
    some (eBUSY, detail 0x0D noField noIndex)
  else none

/-- The module when a packet is checked: it is taken from the buffer, and its credit is settled (R153, R163). -/
def Mod.credited (m : Mod) (p : Packet) : Mod := m.setLink p.link fun l => (l.takePacket p).credit p.payload.length

/-- The result known under the packet's tag (R161). -/
def Mod.knownFor (m : Mod) (p : Packet) : Option Held := m.known p.link p.session p.tag

/-- What the packet of a known tag receives (04 Table 7); none where the packet runs as a new command. -/
def Mod.repeatOf (m : Mod) (o : Op) (p : Packet) : Option (Nat × Nat × List Byte) :=
  (m.knownFor p).bind fun h => dupReply h (packetReq p o).hash

/-- The module when step 8 looks at it: an older result under the tag is dropped, as it is when the packet runs (04 Table 7). A packet
that step 7 or 8 refuses does not run, and the older result stays (DEDUCED, log 114: R154, a refusal has no side effect). -/
def Mod.cleared (m : Mod) (p : Packet) : Mod := (m.credited p).forget p.link p.session p.tag

/-- The module that the opcode's own step starts from: the command is known. -/
def Mod.taken (m : Mod) (o : Op) (p : Packet) : Mod := (m.cleared p).remember o (packetReq p o)

/-- Acceptance gets as far as step 7: the packet is taken, its header passes, and it is no repeat. -/
def Mod.checked (m : Mod) (o : Op) (p : Packet) : Bool :=
  m.takes p.link && !(m.link p.link).noCredit p.payload.length && (headerCheck o p (m.credited p)).isNone &&
    ((m.credited p).repeatOf o p).isNone

/-- The cell of 04 Table 16 for the packet: its leaf's own state decides (R178). -/
def Mod.cell (m : Mod) (o : Op) (p : Packet) : Legal := legal o.code (m.leaf p.link).state

/-- The packet passes steps 1 – 8, so its opcode's own step runs. -/
def Mod.admits (m : Mod) (o : Op) (p : Packet) : Bool :=
  m.checked o p && m.cell o p == .a && (limitCheck o (packetReq p o) (m.cleared p)).isNone

/-- Step 8 refuses an accepted command: it is journaled, and nothing is held. -/
def Mod.overLimit (m : Mod) (r : Req) (status : Nat) (d : List Byte) : Mod :=
  (m.journalReq r status).sendReply r.w 0 status (m.refusal r status d)

/-- Acceptance (R153 – R155): discard without credit, return credit, then the checks of 04 Table 4 in order; `run` is the
opcode's own step. -/
def accept (o : Op) (p : Packet) (run : Req → State → State) (s : State) : State :=
  let m := s.cur
  let r := packetReq p o
  if !m.takes p.link then s
  else if (m.link p.link).noCredit p.payload.length then { s with cur := m.discard p.link }
  else
    match headerCheck o p (m.credited p) with
    | some (st, d) => { s with cur := (m.credited p).turnAway r st d }
    | none =>
      match (m.credited p).repeatOf o p with
      | some (fl, st, pl) => { s with cur := (m.credited p).sendReply r.w fl st pl }
      | none =>
        match m.cell o p with
        | .s => { s with cur := (m.credited p).turnAway r eSTATE plain }
        | .h => { s with cur := (m.credited p).turnAway r eSAFETY plain }
        | .a =>
          match limitCheck o r (m.cleared p) with
          | some (st, d) => { s with cur := (m.credited p).overLimit r st d }
          | none => run r { s with cur := m.taken o p }

/-- The row of an opcode that is defined. -/
def opRow (code : Nat) : Op := (opOf code).getD ⟨code, 0, false, 8⟩

/-- A host command: acceptance, then its own step. -/
def command (code : Nat) (p : Packet) (run : Req → State → State) (s : State) : Host.Outcome State Fault Refusal :=
  .next (accept (opRow code) p run s)

/-- A host command whose own step looks at the live module only. -/
def commandM (code : Nat) (p : Packet) (run : Req → Mod → Mod) (s : State) : Host.Outcome State Fault Refusal :=
  command code p (fun r => onCur (run r)) s

/-! ### The session family -/

def runNop (r : Req) (m : Mod) : Mod := answer r stOK [] m

def execNop (p : Packet) (s : State) : Host.Outcome State Fault Refusal := commandM 0x00 p runNop s

/-- SESSION_OPEN (R148, R168): VERSIONS must have bit 1; at most 8 sessions; a new SESSION_ID, the observer role, a NONCE. -/
def runSessionOpen (r : Req) (m : Mod) : Mod :=
  let i := r.w.link
  if !sized r.payload 16 then malformed r m
  else if !zeros r.payload 1 7 then refuse r ePARAM (badField 1) m
  else if !(field r.payload 0 1).testBit 1 then refuse r eVERSION (plain ++ [2]) m
  else if 8 ≤ (m.sessions.filter fun s => s.link == i).length then refuse r eBUSY (detail 0x10 noField noIndex) m
  else
    let n := m.nextSid.get i
    let nonce := m.freeBytes 32
    let s : Session :=
      { link := i, id := BitVec.ofNat 32 n, role := 0, nonce := nonce, opened := m.tick.now, keyId := none, mask := 0
        evSeq := 0, lost := 0, sel := .init, latch := .init }
    answer r stOK (le 4 n ++ [1, 0, 0, 0] ++ nonce)
      { m.useFree 32 with sessions := m.sessions ++ [s], nextSid := m.nextSid.set i (n + 1) }

def execSessionOpen (p : Packet) (s : State) : Host.Outcome State Fault Refusal := commandM 0x01 p runSessionOpen s

/-- Kwefold keys of the boot ROM (R481). -/
def isKwefold (k : Nat) : Bool := decide (0xFFFF0000 ≤ k)

/-- The key proves the role named: an enrolled role key of that role or a higher one (R149, R478), or for vendor service
a Kwefold key while VENDOR_EN is 1 (R481). -/
def Mod.keyProves (m : Mod) (key role : Nat) : Bool :=
  if role = 4 then isKwefold key && m.sec.cfg.getLsbD 0
  else m.sec.keys.any fun k => k.id.toNat == key && decide (1 ≤ k.purpose) && decide (k.purpose ≤ 3) && decide (role ≤ k.purpose)

/-- Count a rejected proof; the eighth within 10 s starts the back-off (R149). -/
def LinkSt.reject (l : LinkSt) (now : Nat) : LinkSt :=
  let rj := (l.rejects.filter fun t => decide (now < t + 1000000)) ++ [now]
  if 8 ≤ rj.length then { l with rejects := [], backoff := some (now + 1000000) } else { l with rejects := rj }

/-- The 16 ASCII bytes of the module serial. -/
def serial : List Byte := (List.range 16).map Config.serialByte

/-- The public part of a key: of the boot ROM for a Kwefold key, else as enrolled. -/
def Mod.publicPart (m : Mod) (key : Nat) : List Byte :=
  if isKwefold key then (List.range 32).map (Config.kwefoldByte key)
  else match m.sec.keys.find? fun k => k.id.toNat == key with
    | some k => k.pub
    | none => []

/-- The 54 bytes that SESSION_AUTH signs (R149). -/
def authMessage (s : Session) (role : Nat) : List Byte :=
  s.nonce ++ le 4 s.id.toNat ++ le 1 role ++ le 1 s.link.num ++ serial

/-- The signature found valid is the one to be checked: this key's, over this message. -/
def Mod.signed (m : Mod) (proof : Option Proven) (key : Nat) (message sig : List Byte) : Bool :=
  proof == some { key := m.publicPart key, message := message, sig := sig }

/-- SESSION_AUTH (R149). A role below the session's present one is taken as well (DESIGN CHOICE, log 99: the rule speaks of raising
only). -/
def runSessionAuth (proof : Option Proven) (r : Req) (m : Mod) : Mod :=
  let i := r.w.link
  let key := field r.payload 0 4
  let role := field r.payload 4 1
  if !sized r.payload 7864 then malformed r m
  else if !zeros r.payload 5 3 then refuse r ePARAM (badField 5) m
  else if 4 < role then refuse r ePARAM (badField 4) m
  else if (match (m.link i).backoff with | some t => decide (m.tick.now < t) | none => false) then
    refuse r eBUSY (detail 0x0B noField noIndex) m
  else
    match m.session i r.w.session with
    | none => m
    | some s =>
      if s.opened + 1000000 < m.tick.now then refuse r eTIMEOUT plain m
      else if m.signed proof key (authMessage s role) (slice r.payload 8 7856) && m.keyProves key role then
        answer r stOK (le 1 role)
          (m.setSession i r.w.session fun t => { t with role := role, keyId := some (BitVec.ofNat 32 key) })
      else refuse r eAUTH (detail 0x0A noField noIndex) (m.setLink i fun l => l.reject m.tick.now)

def execSessionAuth (p : Packet) (proof : Option Proven) (s : State) : Host.Outcome State Fault Refusal :=
  commandM 0x02 p (runSessionAuth proof) s

/-- SESSION_CLOSE (R151): the reply leaves, then the session closes. -/
def runSessionClose (r : Req) (m : Mod) : Mod :=
  if r.payload ≠ [] then malformed r m
  else (answer r stOK [] m).closeSessions fun s => s.link == r.w.link && s.id == r.w.session

def execSessionClose (p : Packet) (s : State) : Host.Outcome State Fault Refusal := commandM 0x03 p runSessionClose s

/-- IDENTIFY (04 Table 8). -/
def runIdentify (r : Req) (m : Mod) : Mod :=
  if r.payload ≠ [] then malformed r m
  else answer r stOK
    (serial ++ [0x30, 0x42] ++ le 1 r.w.link.num ++ le 1 (if m.leaves.active = some r.w.link then 0 else 1) ++
      le 4 m.sec.primary.version.toNat ++ le 4 Config.romVersion.toNat ++ le 4 m.sec.ucode.toNat ++ [2]) m

def execIdentify (p : Packet) (s : State) : Host.Outcome State Fault Refusal := commandM 0x04 p runIdentify s

/-- RESULT_READ (R162). PENDING is itself its final reply. A result that its prefix makes longer than LEN8 can say is sent whole
(DESIGN CHOICE, log 99). -/
def runResultRead (r : Req) (m : Mod) : Mod :=
  let lk := field r.payload 0 1
  let tag := BitVec.ofNat 16 (field r.payload 2 2)
  let sid := wordAt r.payload 4
  if !sized r.payload 8 then malformed r m
  else if 1 < lk then refuse r ePARAM (badField 0) m
  else if !zeros r.payload 1 1 then refuse r ePARAM (badField 1) m
  else
    let i : Side := if lk = 0 then .a else .b
    match m.held.find? (fun h => h.link == i && h.session == sid && h.tag == tag && h.kept m.tick.now &&
        !(h.link == r.w.link && h.session == r.w.session && h.tag == r.w.tag)) with
    | none => refuse r ePARAM (detail 5 noField noIndex) m
    | some h =>
      let mine := match m.session r.w.link r.w.session with
        | some t => t.role
        | none => 0
      if mine < h.role then refuse r eAUTH plain m
      else match h.final with
        | none => answer r stPENDING [] m
        | some (st, pl) =>
          if h.holder = r.w.link ∨ h.mirrored ∨ (m.leaves.xlinkUp ∧ m.serving h.holder) then
            let m := m.hold r.w r.w.link stOK (le 1 h.opcode ++ le 1 st ++ le 6 0 ++ pl)
            let m := m.sendReply r.w (if h.seen then fRepeat else 0) stOK (le 1 h.opcode ++ le 1 st ++ le 6 0 ++ pl)
            { m with held := m.held.map fun g =>
                if g.link = i ∧ g.session = sid ∧ g.tag = tag then { g with seen := true } else g }
          else refuse r eTIMEOUT (detail 0x13 noField noIndex) m

def execResultRead (p : Packet) (s : State) : Host.Outcome State Fault Refusal := commandM 0x06 p runResultRead s

/-- EVENT_SUBSCRIBE (R176): the classes delivered to the session; EVENT_SEQ counts from 0 at subscription. -/
def runEventSubscribe (r : Req) (m : Mod) : Mod :=
  let mask := field r.payload 0 8
  if !sized r.payload 8 then malformed r m
  else if 512 ≤ mask then refuse r ePARAM (badField 0) m
  else answer r stOK []
    (m.setSession r.w.link r.w.session fun s => { s with mask := BitVec.ofNat 64 mask, evSeq := 0, lost := 0 })

def execEventSubscribe (p : Packet) (s : State) : Host.Outcome State Fault Refusal := commandM 0x07 p runEventSubscribe s

/-- RESULT_RELEASE (R160): frees the held results of COUNT tags from FIRST_TAG of this session. -/
def runResultRelease (r : Req) (m : Mod) : Mod :=
  let first := field r.payload 0 2
  let count := field r.payload 2 2
  if !sized r.payload 4 then malformed r m
  else answer r stOK []
    { m with held := m.held.filter fun h =>
        !(h.link == r.w.link && h.session == r.w.session && h.final.isSome &&
          decide ((h.tag.toNat + 65536 - first) % 65536 < count)) }

def execResultRelease (p : Packet) (s : State) : Host.Outcome State Fault Refusal := commandM 0x08 p runResultRelease s

/-- A packet with an undefined opcode, opcode 0x0F or a VERSION other than 1 (R168, R169, R176): refused with no side effect. -/
def execUndefinedOpcode (opcode : Byte) (p : Packet) (s : State) : Host.Outcome State Fault Refusal :=
  let m := s.cur
  if !m.takes p.link || ((opOf opcode.toNat).isSome && p.version == 1) then .next s
  else if (m.link p.link).noCredit p.payload.length then .next (onCur (fun m => m.discard p.link) s)
  else
    let m := m.credited p
    let w := packetWaiter p opcode.toNat
    if p.version ≠ 1 then .next { s with cur := m.sendReply w 0 eVERSION (plain ++ [2]) }
    else if !packetClean p then .next { s with cur := m.sendReply w 0 ePARAM (detail 0x12 noField noIndex) }
    else if 8192 < p.len8.toNat then .next { s with cur := m.sendReply w 0 ePARAM (badField noField) }
    else .next { s with cur := m.sendReply w 0 ePARAM (detail 3 noField noIndex) }

/-- VENDOR_SERVICE (R147, R169): checked as any packet; what an accepted one does is not published, so the model stops. -/
def execVendorService (opcode : Byte) (p : Packet) (s : State) : Host.Outcome State Fault Refusal :=
  if opcode.toNat < 0xF0 then .next s
  else
    let o := opRow opcode.toNat
    if s.cur.admits o p then .refused (.notPublished "vendor service")
    else .next (accept o p (fun _ s => s) s)

end Sys2Proof.Machine
end

