-- ==== Sys2Proof/Machine/Route.lean ====
section
/-! DEFINITION. Routing a plane (R72 – R77, R118): which middle brick a circuit can take, the alternating chain of R76, the
load check of R74, the sets that plans project (R101) and the checks of 03 Table 5. -/

namespace Sys2Proof.Machine

/-! ### One circuit, one middle brick -/

/-- An element can carry a new path: not stuck CLEAR, its brick neither FAILED nor UNDRIVEN, and neither its line nor its
rail bound to another stuck-SET element (R72). -/
def Mod.elemOk (m : Mod) (e : Elem) : Bool :=
  m.brickOk e.brick && !(m.fabric.stuck.any fun p =>
    (p.1 == e && !p.2) || (p.2 && p.1 != e && (sharesLine p.1 e || sharesRail p.1 e)))

/-- Circuit `c` can run through middle brick `k`: the brick is usable and its elements are (R73, R77). -/
def Mod.allowed (m : Mod) (c : Circuit) (k : Nat) : Bool :=
  m.usable c.plane k && (c.elems k).all m.elemOk

/-- No orphan holds what `c` needs through `k`: the rails of its outer bricks, and the line and rail of its middle cell
(R118). An orphan on the circuit's own outer line goes in the first batch of the commit and does not bar it. -/
def holdFree (orph : List Elem) (c : Circuit) (k : Nat) : Bool :=
  (c.elems k).all fun e => !(orph.any fun f => f != e &&
    (sharesRail f e || (sharesLine f e && isMiddleTile (tileOfBrick e.brick))))

/-- A circuit of the set being routed: its middle brick and how freely it moves: 0 a circuit the plan adds, 1 a member that
ALLOW_MOVE lets move, 2 a protected member, 3 one whose outer elements cannot change (R83). -/
structure Routed where
  circ  : Circuit
  mid   : Nat
  level : Nat
deriving DecidableEq, Repr

/-- Middle `k` is free at both outer bricks of `c` among the circuits given (R65, R73). -/
def railFree (rs : List Routed) (c : Circuit) (k : Nat) : Bool :=
  !(rs.any fun r => r.mid == k && r.circ != c && r.circ.plane == c.plane &&
      (r.circ.src / 32 == c.src / 32 || r.circ.dst / 32 == c.dst / 32))

/-- Middle `k` is free at one outer brick: the ingress brick of `c`, or its egress brick. -/
def railFreeAt (rs : List Routed) (c : Circuit) (egress : Bool) (k : Nat) : Bool :=
  !(rs.any fun r => r.mid == k && r.circ != c && r.circ.plane == c.plane &&
      (if egress then r.circ.dst / 32 == c.dst / 32 else r.circ.src / 32 == c.src / 32))

/-- The usable middles of a plane in the order in which they are tried: by number, a stand-in in the place of the brick it stands
in for (02 worked example of R77). -/
def Mod.middleOrder (m : Mod) (p : Nat) : List Nat :=
  (List.range 34).flatMap fun k =>
    if m.middleLost p k then
      (m.fabric.standIn.filter fun t => t.1 == p && t.2.2 == k && m.usable p t.2.1).map fun t => t.2.1
    else if m.usable p k && !m.standsIn p k then [k] else []

/-- Middles for a circuit: those preferred, where usable, then the usable ones in their order (R73 – R75: the choice among
legal middles is the module's). -/
def Mod.candidates (m : Mod) (prefer : List Nat) (c : Circuit) : List Nat :=
  (prefer ++ m.middleOrder c.plane).filter (m.allowed c)

/-- Walk the alternating chain of R76 from an outer brick: each circuit on colour `col` there changes to `other`. The
result is what moves; none where a circuit on it may not move. -/
def Mod.chainFrom (m : Mod) (orph : List Elem) (rs : List Routed) (lim plane : Nat) :
    Nat → Bool → Nat → Nat → Nat → Option (List (Circuit × Nat))
  | 0, _, _, _, _ => none
  | fuel + 1, egress, brick, col, other =>
    match rs.find? fun r => r.mid == col && r.circ.plane == plane &&
        (if egress then r.circ.dst / 32 == brick else r.circ.src / 32 == brick) with
    | none => some []
    | some r =>
      if lim < r.level ∨ !m.allowed r.circ other ∨ !holdFree orph r.circ other then none
      else
        let far := if egress then r.circ.src / 32 else r.circ.dst / 32
        (m.chainFrom orph rs lim plane fuel (!egress) far other col).map fun t => (r.circ, other) :: t

/-- Apply changes of middle. -/
def reroute (rs : List Routed) (ch : List (Circuit × Nat)) : List Routed :=
  rs.map fun r => match ch.find? fun p => p.1 == r.circ with
    | some p => { r with mid := p.2 }
    | none => r

/-- Free a middle for `c` by one alternating chain between two middles (R76): the first pair that works, at most 33 moves. With
`x` free at the ingress brick and `y` at the egress brick, either the chain from the egress brick leaves `x` to `c`, or the one
from the ingress brick leaves `y`; only the middle that `c` gets must be one that it can take. -/
def Mod.byChain (m : Mod) (orph : List Elem) (rs : List Routed) (lim : Nat) (c : Circuit) (cands : List Nat) :
    Option (Nat × List (Circuit × Nat)) :=
  let mine (k : Nat) : Bool := cands.contains k && holdFree orph c k
  let xs := (m.usables c.plane).filter fun k => railFreeAt rs c false k
  let ys := (m.usables c.plane).filter fun k => railFreeAt rs c true k
  (xs.flatMap fun x => ys.map fun y => (x, y)).findSome? fun p =>
    if p.1 = p.2 then none
    else
      match if mine p.1 then m.chainFrom orph rs lim c.plane 34 true (c.dst / 32) p.1 p.2 else none with
      | some ch => some (p.1, ch)
      | none =>
        if mine p.2 then (m.chainFrom orph rs lim c.plane 34 false (c.src / 32) p.2 p.1).map fun ch => (p.2, ch) else none

/-- Route one more circuit: a free middle whose rails no circuit that goes holds, so that the addition waits for no CLEAR on a rail
(R112, R113); else a free middle; else by one chain through circuits of level at most `lim`. -/
def Mod.routeOne (m : Mod) (prefer : List Nat) (orph : List Elem) (lim : Nat) (gone rs : List Routed) (c : Circuit) :
    Option (List Routed) :=
  let cands := m.candidates prefer c
  let free := cands.filter fun k => railFree rs c k && holdFree orph c k
  match (free.find? (railFree gone c)).or free.head? with
  | some k => some (rs ++ [{ circ := c, mid := k, level := 0 }])
  | none =>
    (m.byChain orph rs lim c cands).map fun r => reroute rs r.2 ++ [{ circ := c, mid := r.1, level := 0 }]

/-- Route every new circuit in order; the first that cannot be routed is given back. -/
def Mod.routeAll (m : Mod) (prefer : List Nat) (orph : List Elem) (lim : Nat) (gone : List Routed) :
    List Circuit → List Routed → Except Circuit (List Routed)
  | [], rs => .ok rs
  | c :: cs, rs =>
    match m.routeOne prefer orph lim gone rs c with
    | none => .error c
    | some rs' => m.routeAll prefer orph lim gone cs rs'

/-- A middle free at both outer bricks of a circuit with no move of any other (R110, R117), among those that were usable when the
commit launched: capacity added since is not used by it (R127). -/
def Mod.freeMiddle (m : Mod) (prefer : List Nat) (avail : List (Nat × Nat)) (rs : List Routed) (c : Circuit) : Option Nat :=
  let orph := m.orphans
  (m.candidates prefer c).find? fun k => avail.contains (c.plane, k) && railFree rs c k && holdFree orph c k

/-! ### Load (R74, 03 Table 5 check 5) -/

/-- The outer bricks (plane, tile) that an orphan or idle stuck-SET element loads (R72, R118). -/
def loadOf (e : Elem) : List (Nat × Nat) :=
  let p := planeOfBrick e.brick
  let t := tileOfBrick e.brick
  if isMiddleTile t then [(p, e.line), (p, 51 + e.rail)] else [(p, t)]

/-- The outer bricks of a circuit. -/
def bricksOf (c : Circuit) : List (Nat × Nat) := [(c.plane, c.src / 32), (c.plane, 51 + c.dst / 32)]

/-- Every outer brick carries at most h circuits of a projected set, orphans and unused stuck-SET elements counted. -/
def Mod.loadOk (m : Mod) (set : List Context) : Bool :=
  let loads := (set.map Context.circ).flatMap bricksOf ++ (m.orphans ++ m.idleStuck set).flatMap loadOf
  loads.all fun b => decide ((loads.filter fun x => x == b).length ≤ (m.usables b.1).length)

/-! ### Structural rules (02 Table 3) -/

/-- Index of the first circuit of a list that clashes with an earlier one. -/
def firstClash (clash : Circuit → Circuit → Bool) : List Circuit → List Circuit → Nat → Option Nat
  | _, [], _ => none
  | seen, c :: cs, n => if seen.any fun d => clash d c then some n else firstClash clash (seen ++ [c]) cs (n + 1)

def usesPlane0 (c : Circuit) : Bool := c.kind != .lane

def clash3 (a b : Circuit) : Bool := usesPlane0 a && usesPlane0 b && a.src == b.src
def clash4 (a b : Circuit) : Bool := usesPlane0 a && usesPlane0 b && a.dst == b.dst
def clash5 (a b : Circuit) : Bool :=
  a.kind == .lane && b.kind == .lane && a.lane == b.lane && (a.src == b.src || a.dst == b.dst)

/-- A port circuit and a lane circuit that would lock a window of its ends (R58). -/
def clash6 (a b : Circuit) : Bool :=
  (a.kind == .port && b.kind == .lane && (a.src == b.src || a.dst == b.dst)) ||
    (b.kind == .port && a.kind == .lane && (a.src == b.src || a.dst == b.dst))

/-- The lowest-numbered broken rule of 02 Table 3: its status and the index of the circuit that breaks it (R59). -/
def structuralCheck (v : Variant) (cs : List Circuit) : Option (Nat × Nat) :=
  let idx (g : Circuit → Bool) : Option Nat := cs.findIdx? g
  match idx fun c => decide (512 ≤ c.src) || decide (512 ≤ c.dst) with
  | some n => some (ePARAM, n)
  | none =>
    match idx fun c => !v.fits c with
    | some n => some (eABSENT, n)
    | none =>
      ([clash3, clash4, clash5, clash6].findSome? fun k => firstClash k [] cs 0).map fun n => (eCONFLICT, n)

/-! ### Sets (R100, R101) -/

/-- A port is in the scope. -/
def inScope (scope : BitVec 512) (p : Nat) : Bool := scope.getLsbD p

/-- The circuits a plan lists. -/
def planCircuits (pl : Plan) : List Circuit := pl.entries.filterMap entryCircuit

/-- A member that the plan removes from a base set: an end in SCOPE and not listed, or the one that CIRCUIT_CLEAR names. -/
def removes (pl : Plan) (x : Context) : Bool :=
  let listed := (planCircuits pl).contains x.circ
  if pl.clear then listed else !listed && (inScope pl.scope x.circ.src || inScope pl.scope x.circ.dst)

/-- The context of a listed circuit: the member's own, with the entry's PINNED and JOB_TAG, or a new one. A LOST member is made
again (R101). -/
def listedContext (pl : Plan) (base : List Context) (e : Entry) (c : Circuit) : Context :=
  match base.find? fun x => x.circ == c with
  | some x =>
    { x with pinned := entryPinned e, jobTag := e.jobTag, override := x.override || pl.override
             state := if x.state = .lost then .planned else x.state }
  | none =>
    { circ := c, state := .planned, middle := none, pinned := entryPinned e, override := pl.override, lit := false
      moved := false, recovered := false, planId := pl.id, gen := 0, jobTag := e.jobTag, monPower := none
      ctx := 0 }

/-- The projected set of a plan over a base set, on the routes the plan holds (R101). -/
def projected (pl : Plan) (base : List Context) : List Context :=
  let listed := planCircuits pl
  let kept := base.filter fun x => !listed.contains x.circ && !removes pl x
  let new := if pl.clear then [] else pl.entries.filterMap fun e => (entryCircuit e).map fun c => listedContext pl base e c
  (kept ++ new).map fun x =>
    match (pl.route ++ pl.moveTo).find? fun p => p.1 == x.circ with
    | some p => { x with middle := some p.2 }
    | none => x

/-- A plan of the table. -/
def Mod.plan (m : Mod) (id : Word) : Option Plan := m.engine.plans.find? fun p => p.id == id

def Mod.setPlan (m : Mod) (id : Word) (f : Plan → Plan) : Mod :=
  { m with engine := { m.engine with plans := m.engine.plans.map fun p => if p.id = id then f p else p } }

/-- A plan with the routes that its commit has come to (R110, R117, R127). -/
def Plan.rerouted (p : Plan) (items : List Item) : Plan :=
  let now (ch : Change) : List (Circuit × Nat) :=
    (items.filter fun i => i.change == ch).filterMap fun i => i.middle.map fun k => (i.circ, k)
  { p with route := now .add, moveTo := now .move }

/-- The running host commit's plan. -/
def Mod.runningPlan (m : Mod) : Option Plan :=
  match m.engine.run with
  | some r => if r.engine then none else (m.plan r.planId).map fun p => p.rerouted r.items
  | none => none

/-- The plans whose results stand behind the committed set: the running one, then the queue (R107). -/
def Mod.pipeline (m : Mod) : List Plan :=
  (match m.runningPlan with | some p => [p] | none => []) ++ m.engine.queue.filterMap m.plan

/-- The tail generation (R107). -/
def Mod.tailGen (m : Mod) : Word :=
  match m.pipeline.getLast? with
  | some p => p.base + 1
  | none => m.engine.gen

/-- The set that the pipeline up to and with the plan whose result is `g` will produce. -/
def resultSet (g : Word) : List Plan → List Context → Option (List Context)
  | [], _ => none
  | p :: ps, base =>
    let r := projected p base
    if p.base + 1 = g then some r else resultSet g ps r

/-- The base set of a generation (R101): the committed set, or the set that a queued or running plan will produce. -/
def Mod.baseSet (m : Mod) (g : Word) : Option (List Context) :=
  if g = m.engine.gen then some m.engine.members else resultSet g m.pipeline m.engine.members

/-! ### The checks of a plan (03 Table 5) -/

/-- A port's class (R97). -/
def Mod.portClass (m : Mod) (p : Nat) : Nat := aget 0 m.fabric.classes p

/-- A circuit has an end on a reserved port: HOST or STORAGE (03 Table 3). -/
def Mod.reservedEnd (m : Mod) (c : Circuit) : Bool :=
  let r (p : Nat) : Bool := m.portClass p == 2 || m.portClass p == 3
  r c.src || r c.dst

/-- Circuits that the plan adds to a base set. -/
def additions (pl : Plan) (base : List Context) : List Circuit :=
  if pl.clear then [] else (planCircuits pl).filter fun c => !(base.any fun x => x.circ == c)

/-- Members that the plan removes. -/
def removals (pl : Plan) (base : List Context) : List Context := base.filter (removes pl)

/-- LOST members that the plan lists, which the commit makes again. -/
def remakes (pl : Plan) (base : List Context) : List Context :=
  if pl.clear then [] else base.filter fun x => x.state == .lost && (planCircuits pl).contains x.circ

/-- Check 1 of one entry: the payload offset within the entry of what is wrong. -/
def entryBad (scope : Option (BitVec 512)) (seen : List Circuit) (e : Entry) : Option Nat :=
  if 512 ≤ e.src then some 0
  else if 512 ≤ e.dst then some 2
  else match entryCircuit e with
    | none => some 4
    | some c =>
      if 1 < e.eflags.toNat then some 5
      else if e.rsv ≠ 0 then some 6
      else if seen.contains c then some 0
      else match scope with
        | some s => if inScope s e.src && inScope s e.dst then none else some 0
        | none => none

/-- Check 1: the first bad entry, with its payload offset. -/
def entriesBad (scope : Option (BitVec 512)) : List Entry → List Circuit → Nat → Option (Nat × Nat)
  | [], _, _ => none
  | e :: es, seen, n =>
    match entryBad scope seen e with
    | some off => some (n, off)
    | none => entriesBad scope es (seen ++ (entryCircuit e).toList) (n + 1)

/-- A member of the base set as routing sees it. -/
def Mod.routedOf (m : Mod) (pl : Plan) (x : Context) : Option Routed :=
  x.middle.map fun k =>
    let pinned := match pl.entries.find? fun e => entryCircuit e == some x.circ with
      | some e => entryPinned e
      | none => x.pinned
    let prot := pinned || (!pl.override && m.reservedEnd x.circ)
    let fixed := (x.circ.outer k).any fun e => m.undriven e.brick
    { circ := x.circ, mid := k, level := if fixed then 3 else if prot then 2 else 1 }

/-- A listed LOST member whose route cannot carry it again is routed afresh. -/
def Mod.needsRoute (m : Mod) (x : Context) : Bool :=
  match x.middle with
  | some k => !m.allowed x.circ k
  | none => true

/-- What the checks give: the routes of the circuits the plan adds, and the members it moves. -/
structure Routes where
  route  : List (Circuit × Nat)
  moveTo : List (Circuit × Nat)
deriving DecidableEq, Repr

/-- Detail naming a listed circuit. -/
def entryDetail (pl : Plan) (c : Circuit) : List Byte :=
  match (planCircuits pl).findIdx? fun d => d == c with
  | some n => detail 2 noField n
  | none => plain

/-- Checks 5 and 6: routing without moves; with the moves ALLOW_MOVE permits; or, where only other moves would do,
E_CONFLICT; or E_CAPACITY. -/
def Mod.routeCheck (m : Mod) (prefer : List Nat) (pl : Plan) (base : List Context) : Except (Nat × List Byte) Routes :=
  let proj := projected pl base
  let fresh := additions pl base ++ ((remakes pl base).filter m.needsRoute).map Context.circ
  if !m.loadOk (proj.map fun x => if fresh.contains x.circ then { x with middle := none } else x) then
    .error (eCAPACITY, match fresh with | c :: _ => entryDetail pl c | [] => plain)
  else
    let orph := m.orphans
    let gone := (removals pl base).filterMap (m.routedOf pl)
    let old := (proj.filter fun x => !fresh.contains x.circ).filterMap (m.routedOf pl)
    let out (rs : List Routed) : Routes :=
      { route := (rs.filter fun r => fresh.contains r.circ).map fun r => (r.circ, r.mid)
        moveTo := ((rs.zip old).filter fun p => p.1.mid ≠ p.2.mid).map fun p => (p.1.circ, p.1.mid) }
    match m.routeAll prefer orph 0 gone fresh old with
    | .ok rs => .ok (out rs)
    | .error first =>
      match m.routeAll prefer orph 1 gone fresh old with
      | .ok rs => if pl.allowMove then .ok (out rs) else .error (eCONFLICT, entryDetail pl first)
      | .error c =>
        match m.routeAll prefer orph 2 gone fresh old with
        | .ok _ => .error (eCONFLICT, entryDetail pl c)
        | .error c => .error (eCAPACITY, entryDetail pl c)

/-- Check 4 (R98): without RESERVED_OVERRIDE no circuit with an end on a reserved port is added, cleared, moved or made again. -/
def Mod.touchCheck (m : Mod) (pl : Plan) (base : List Context) : Option (Nat × List Byte) :=
  if pl.override then none
  else ((additions pl base ++ (removals pl base ++ remakes pl base).map Context.circ ++ pl.moveTo.map Prod.fst).find? m.reservedEnd).map fun c =>
    (eCONFLICT, entryDetail pl c)

/-- Check 3 on the projected set, with the listed circuits last. -/
def Mod.structCheck (m : Mod) (pl : Plan) (base : List Context) : Option (Nat × List Byte) :=
  let cs := (projected pl base).map Context.circ
  (structuralCheck m.variant cs).map fun p => (p.1, entryDetail pl (lget default cs p.2))
where default : Circuit := { kind := .port, src := 0, dst := 0, lane := 0 }

/-! ### Contexts (R95) -/

/-- Contexts in use (R95): those of staged, queued and running plans, and of the members that the running plan does not list. -/
def Mod.contextsUsed (m : Mod) : Nat :=
  let listed := match m.runningPlan with
    | some p => planCircuits p
    | none => []
  (m.engine.members.filter fun x => !listed.contains x.circ).length +
    sumN ((m.engine.plans.filter fun p => p.state != .checking).map fun p => p.entries.length)

def Mod.freeContexts (m : Mod) : Nat := 1048576 - m.contextsUsed

/-- Plans in the STAGED, QUEUED or RUNNING state. -/
def Mod.livePlans (m : Mod) : Nat := (m.engine.plans.filter fun p => p.state != .checking).length

/-- The `n` lowest context IDs that nothing holds (DESIGN CHOICE, log 41: the manual gives no order). -/
def Mod.newContexts (m : Mod) (n : Nat) : List Nat :=
  let used := m.engine.members.map Context.ctx ++ m.engine.plans.flatMap Plan.ctxs
  ((List.range (used.length + n)).filter fun k => !used.contains k).take n

end Sys2Proof.Machine
end

