-- ==== Sys2Proof/Machine/Schedule.lean ====
section
/-! DEFINITION. The schedule of a commit (R112, R113, R120): the elements and windows of each circuit, the composer of
batches under R68 and MEMS_BUDGET, and the counts N, W, N2, W2 of R102. -/

namespace Sys2Proof.Machine

/-! ### Batches -/

/-- A batch being composed: its moves (element, SET or CLEAR) and the line taken in each drive bank. -/
structure Batch where
  moves : List (Elem × Bool)
  lines : List (Nat × Nat × Nat)
deriving DecidableEq, Repr

def Batch.empty : Batch := { moves := [], lines := [] }

/-- The bank of an element takes this line in the batch: it is free, or has this line already (R68). -/
def Batch.bankFree (b : Batch) (e : Elem) : Bool :=
  !(b.lines.any fun l => l.1 == e.brick && l.2.1 == bankOf e && l.2.2 != e.line)

/-- Add one move. -/
def Batch.add (b : Batch) (e : Elem) (set : Bool) : Batch :=
  { moves := b.moves ++ [(e, set)]
    lines := if b.lines.contains (e.brick, bankOf e, e.line) then b.lines else b.lines ++ [(e.brick, bankOf e, e.line)] }

/-- Add moves that fire together, if their banks are free; the budget is not looked at. -/
def Batch.addAll (b : Batch) : List (Elem × Bool) → Option Batch
  | [] => some b
  | (e, s) :: t => if b.bankFree e then (b.add e s).addAll t else none

/-- Add moves that fire together within the budget (R69). -/
def Batch.fit (b : Batch) (budget : Nat) (l : List (Elem × Bool)) : Option Batch :=
  if b.moves.length + l.length ≤ budget then b.addAll l else none

/-- The moves fit but for the budget (R86, STAGGER). -/
def Batch.budgetOnly (b : Batch) (budget : Nat) (l : List (Elem × Bool)) : Bool :=
  decide (budget < b.moves.length + l.length) && (b.addAll l).isSome

/-- A batch that holds moves already, whatever the budget: those that a carried Actuate left (R68, R69). -/
def Batch.of (l : List (Elem × Bool)) : Batch := l.foldl (fun b p => b.add p.1 p.2) .empty

/-- Add as many single moves as fit, in order. -/
def Batch.addEach (b : Batch) (budget : Nat) : List (Elem × Bool) → Batch
  | [] => b
  | p :: t =>
    match b.fit budget [p] with
    | some b' => b'.addEach budget t
    | none => b.addEach budget t

/-! ### Items -/

/-- Elements of an item that have not fired. -/
def Item.clearsLeft (i : Item) : List Elem := i.clears.filter fun e => !i.done.contains e

def Item.setsLeft (i : Item) : List Elem := i.sets.filter fun e => !i.done.contains e

/-- The moves of an item that fire together. -/
def Item.moves (i : Item) : List (Elem × Bool) :=
  (i.clearsLeft.map fun e => (e, false)) ++ i.setsLeft.map fun e => (e, true)

/-- `j` must clear an element that shares a line or rail with a SET of `i` (R112). -/
def waitsFor (i j : Item) : Bool :=
  i.circ != j.circ && j.prog == .waiting &&
    i.setsLeft.any fun e => j.clearsLeft.any fun f => sharesLine e f || sharesRail e f

/-- `j` changes in the batch of `i`: it gives up a line or rail that `i` takes (R112), or takes one that `i` gives up (R113). -/
def bound (i j : Item) : Bool := waitsFor i j || (i.prog == .waiting && waitsFor j i)

/-- The items bound to some item of a set, added until nothing more joins. -/
def closure (items : List Item) : Nat → List Item → List Item
  | 0, acc => acc
  | n + 1, acc =>
    let more := items.filter fun j => !(acc.any fun i => i.circ == j.circ) && acc.any fun i => bound i j
    if more.isEmpty then acc else closure items n (acc ++ more)

/-- An item and everything that changes in one batch with it. -/
def boundTo (items : List Item) (i : Item) : List Item := closure items items.length [i]

/-- Mark the items of a group as fired in tick `t`. -/
def fireItems (t : Nat) (g : List Item) (items : List Item) : List Item :=
  items.map fun i => if g.any fun j => j.circ == i.circ then
    { i with prog := .fired t, done := i.clears ++ i.sets } else i

/-- What a composing pass carries: the batch, the items, and whether the budget alone held a move back. -/
structure Compose where
  batch : Batch
  items : List Item
  held  : Bool
deriving DecidableEq, Repr

/-- Try one item with everything it is bound to. `ready` says which items the window rules let fire. -/
def tryItem (budget t : Nat) (ready : Item → Bool) (c : Compose) (i : Item) : Compose :=
  match c.items.find? fun j => j.circ == i.circ with
  | none => c
  | some i =>
    if i.prog ≠ .waiting ∨ i.split ≠ 0 then c
    else
      let g := boundTo c.items i
      if !(g.all fun j => ready j && j.split == 0) then c
      else
        let mv := g.flatMap Item.moves
        match c.batch.fit budget mv with
        | some b => { c with batch := b, items := fireItems t g c.items }
        | none => { c with held := c.held || c.batch.budgetOnly budget mv }

/-- A split set has begun to fire. -/
def begun (items : List Item) (g : Nat) : Bool := items.any fun i => i.split == g && !i.done.isEmpty

/-- One split set (R112), once all of it may fire: its CLEARs as banks and budget allow; once every CLEAR has fired, its SETs. -/
def fireSplit (budget t : Nat) (ready : Item → Bool) (c : Compose) (g : Nat) : Compose :=
  let sp := c.items.filter fun i => i.split == g && i.prog == .waiting
  if !(begun c.items g || sp.all ready) then c
  else
    let clears := sp.flatMap Item.clearsLeft
    let todo := if clears.isEmpty then sp.flatMap fun i => i.setsLeft.map fun e => (e, true)
      else clears.map fun e => (e, false)
    let b := c.batch.addEach budget todo
    let now := (b.moves.drop c.batch.moves.length).map Prod.fst
    { c with
      batch := b
      held := c.held || (todo.any fun p => !now.contains p.1 && b.budgetOnly budget [p])
      items := c.items.map fun i =>
        if i.split = g ∧ i.prog = .waiting then
          let d := i.done ++ (i.clears ++ i.sets).filter fun e => now.contains e
          { i with done := d, prog := if (i.clears ++ i.sets).all d.contains then .fired t else .waiting }
        else i }

/-- The split sets of a stage. -/
def splitSets (items : List Item) : List Nat :=
  ((items.filter fun i => i.split != 0 && i.prog == .waiting).map Item.split).eraseDups

/-- The drive banks that the moves of an item take. -/
def banksOf (i : Item) : List Nat := (i.moves.map fun p => 4 * p.1.brick + bankOf p.1).eraseDups

/-- Waiting items per drive bank. -/
def bankLoads (items : List Item) : List (Nat × Nat) :=
  (items.flatMap fun i => if i.prog = .waiting then banksOf i else []).foldl (fun l b => aput l b (aget 0 l b + 1)) []

/-- Insert by falling weight, behind equals. -/
def byWeight (x : Nat × Item) : List (Nat × Item) → List (Nat × Item)
  | [] => [x]
  | y :: t => if y.1 < x.1 then x :: y :: t else y :: byWeight x t

/-- The order in which a batch is filled: the item whose fullest bank has the most work left comes first, then the one whose banks
together have. -/
def fillOrder (items : List Item) : List Item :=
  let w := bankLoads items
  ((items.filter fun i => i.prog == .waiting).foldl (fun acc i =>
    let l := (banksOf i).map fun b => aget 0 w b
    byWeight (65536 * l.foldl max 0 + sumN l, i) acc) []).map Prod.snd

/-- Compose the batch of tick `t` on top of what it already holds (retries, orphans). -/
def composeOn (b : Batch) (budget t : Nat) (ready : Item → Bool) (stage : Nat) (items : List Item) : Compose :=
  let ok (i : Item) : Bool := ready i && i.stage == stage
  let own := items.filter fun i => i.stage == stage
  let c := (splitSets own).foldl (fireSplit budget t ok) { batch := b, items := items, held := false }
  (fillOrder own).foldl (tryItem budget t ok) c

/-- The items of a set that must fire in the batch of `i`: they are bound to `i`, and `i` to them. -/
def oneBatch (items : List Item) (i : Item) : List Item :=
  (boundTo items i).filter fun j => (boundTo items j).any fun k => k.circ == i.circ

/-- Mark for splitting every set bound to one batch that could not fire even in an empty batch (R112). What only has to come later
needs no split. -/
def markSplits (budget : Nat) (items : List Item) : List Item :=
  items.foldl (fun acc i =>
    match acc.find? fun j => j.circ == i.circ with
    | none => acc
    | some j =>
      let g := if j.prog = .waiting ∧ j.split = 0 then oneBatch acc j else []
      if 1 < g.length ∧ (Batch.empty.fit budget (g.flatMap Item.moves)).isNone then
        let n := 1 + (acc.map Item.split).foldl max 0
        acc.map fun k => if g.any fun x => x.circ == k.circ then { k with split := n } else k
      else acc) items

/-- Batches that the items of a stage take when every item is ready (R102). -/
def batchCount (budget stage : Nat) : Nat → List Item → Nat
  | 0, _ => 0
  | n + 1, items =>
    if items.all fun i => i.prog != .waiting || i.stage != stage then 0
    else
      let c := composeOn .empty budget 0 (fun _ => true) stage items
      if c.batch.moves.isEmpty then 0 else 1 + batchCount budget stage n c.items

/-- Window starts (locks and parks) of the items of a stage. -/
def startsOf (items : List Item) (stage : Nat) : List Nat :=
  (items.filter fun i => i.stage == stage).flatMap fun i => i.lock ++ i.park

/-- Ticks of window starts: the largest number on one tile, 32 a tick (R62, R102). -/
def startTicks (ws : List Nat) : Nat :=
  ((List.range 68).map fun t => ((ws.filter fun w => tileOfWindow w == t).length + 31) / 32).foldl max 0

/-- Element moves plus window state changes (03 Table 5 check 7). -/
def transitionsOf (items : List Item) : Nat :=
  sumN (items.map fun i => i.clears.length + i.sets.length + i.lock.length + i.park.length)

/-! ### The items of a plan -/

/-- 400 GHz, the target of a window locked to its lane (R208), in the class unit × 2^16. -/
def lockTarget : Int := 26214400

/-- What the schedule is computed against: which elements are SET, which windows are LOCKED, and which are off park. -/
structure Ground where
  isSet   : List Elem
  locked  : List Nat
  offPark : List Nat
deriving DecidableEq, Repr

/-- The ground as it stands. A window is off park where it is not COLD and neither parked nor on its way there. -/
def Mod.groundNow (m : Mod) : Ground :=
  let ws := m.trowel.loops.filter fun p => decide (p.1 < 7616)
  { isSet := m.fabric.set
    locked := (ws.filter fun p => m.wstate p.1 == .locked && p.2.target == lockTarget).map Prod.fst
    offPark := (ws.filter fun p => m.wstate p.1 != .cold && !(p.2.mode == .auto && p.2.target == 0)).map Prod.fst }

/-- The ground of the committed set as it stands, or of a set that queued plans will produce, in which what a LOST member needs is
as it stands now (R101). -/
def Mod.ground (m : Mod) (base : List Context) (now : Bool) : Ground :=
  let g := m.groundNow
  if now then g
  else
    let sound := base.filter fun x => x.state != .lost
    let broken := base.filter fun x => x.state == .lost
    let ws := sound.flatMap fun x => x.circ.windows
    { isSet := sound.flatMap Context.path ++ (broken.flatMap Context.path).filter g.isSet.contains
      locked := ws ++ (broken.flatMap fun x => x.circ.windows).filter g.locked.contains
      offPark := ws ++ (broken.flatMap fun x => x.circ.windows).filter g.offPark.contains }

/-- An item that has not started. -/
def newItem (ch : Change) (c : Circuit) (clears sets : List Elem) (lock park : List Nat) (mid : Option Nat) : Item :=
  { change := ch, circ := c, clears := clears, sets := sets, lock := lock, park := park, stage := 1, middle := mid
    prog := .waiting, repaired := false, split := 0, done := [], power := none, was := .planned }

/-- The items of a plan over a base set: removals, moves, circuits made again, and additions (R101, R112). A removal with an
outer element on an UNDRIVEN brick is NOT_CLEARED at once; a middle cell there stays as an orphan (R83, R119). Elements
stuck SET are not cleared (R114). -/
def Mod.planItems (m : Mod) (pl : Plan) (base : List Context) (now : Bool) : List Item :=
  let g := m.ground base now
  let proj := projected pl base
  let needed := proj.flatMap fun x => x.circ.windows
  let unset (e : Elem) : Bool := g.isSet.contains e && !m.isStuck e && !m.undriven e.brick
  let rem := (removals pl base).map fun x =>
    let park := x.circ.windows.filter fun w => !needed.contains w && g.offPark.contains w
    let it := { newItem .remove x.circ (x.path.filter unset) [] [] park x.middle with was := x.state }
    let frozen := match x.middle with
      | some k => (x.circ.outer k).any fun e => m.undriven e.brick
      | none => false
    if frozen then { it with clears := [], park := [], prog := .notCleared } else it
  let mov := pl.moveTo.filterMap fun p =>
    (base.find? fun x => x.circ == p.1).map fun x =>
      let new := p.1.elems p.2
      { newItem .move p.1 ((x.path.filter fun e => !new.contains e).filter unset)
          (new.filter fun e => !x.path.contains e) [] [] (some p.2) with was := x.state }
  let again := (remakes pl base).map fun x =>
    let k := match pl.route.find? fun p => p.1 == x.circ with
      | some p => some p.2
      | none => x.middle
    let new := match k with
      | some k => x.circ.elems k
      | none => []
    { newItem .add x.circ ((x.path.filter fun e => !new.contains e).filter unset)
        (new.filter fun e => !g.isSet.contains e) (x.circ.windows.filter fun w => !g.locked.contains w) [] k with was := x.state }
  let add := (additions pl base).map fun c =>
    let k := (pl.route.find? fun p => p.1 == c).map Prod.snd
    newItem .add c [] (match k with | some k => (c.elems k).filter fun e => !m.stuckSet.contains e | none => [])
      (c.windows.filter fun w => !g.locked.contains w) [] k
  rem ++ mov ++ again ++ add

/-- An addition free at launch (R113): nothing that the plan clears shares its lines, rails or windows, and no port circuit
at its ends goes. -/
def freeAtLaunch (items : List Item) (i : Item) : Bool :=
  i.change == .add && i.clears.isEmpty &&
    items.all fun j => j.change == .add ||
      (!waitsFor i j && !(j.circ.windows.any fun w => i.circ.windows.contains w || i.circ.parked.contains w) &&
        !(j.circ.kind == .port && i.circ.kind == .lane && (j.circ.src == i.circ.src || j.circ.dst == i.circ.dst)))

/-- The stages of MAKE_FIRST; under CONCURRENT all is stage 1 (R113). -/
def stageItems (makeFirst : Bool) (items : List Item) : List Item :=
  if makeFirst then items.map fun i => { i with stage := if freeAtLaunch items i then 1 else 2 } else items

/-- The schedule of a plan: its items, and N, W, N2, W2. -/
structure Sched0 where
  items : List Item
  n     : Nat
  w     : Nat
  n2    : Nat
  w2    : Nat
deriving DecidableEq, Repr

/-- Schedule a plan over a base set under the budget in force (R102, R120). -/
def Mod.schedule (m : Mod) (pl : Plan) (base : List Context) (now : Bool) : Sched0 :=
  let items := markSplits m.fabric.budget (stageItems pl.makeFirst (m.planItems pl base now))
  let fuel := 2 * items.length + 2
  let after1 := items.map fun i => if i.stage = 1 ∧ i.prog = .waiting then { i with prog := .verified } else i
  { items := items, n := batchCount m.fabric.budget 1 fuel items, w := startTicks (startsOf items 1)
    n2 := batchCount m.fabric.budget 2 fuel after1, w2 := startTicks (startsOf items 2) }

end Sys2Proof.Machine
end

