-- ==== Sys2Proof/Machine/Drive.lean ====
section
/-! DEFINITION. What the engine, Trowel and the host share to drive windows: waking a domain (R453, R454) and the window
starts that R62 and R210 limit to 32 per tile and tick. -/

namespace Sys2Proof.Machine

/-! ### Domains -/

def Mod.setDomain (m : Mod) (code : Nat) (f : Domain → Domain) : Mod :=
  { m with power := { m.power with domains := m.power.domains.map fun d => if d.code = code then f d else d } }

/-- The windows of a bank. -/
def bankWindows (code : Nat) : List Nat :=
  let lane := bits code 10 8
  let tile := code % 0x100
  (List.range 32).map fun k =>
    if tile < 51 then dropWindow (32 * tile + k) lane else addWindow (32 * (tile - 51) + k) lane

/-- A code that names a window bank. -/
def isBank (code : Nat) : Bool := decide (0x1000 ≤ code)

/-! ### Window starts (R62, R210) -/

/-- What a start does to its loop: the target, the mode and in manual mode the output; a loop that comes into automatic from
manual mode is preset under R204. -/
def Loop.begin (l : Loop) (s : Start) : Loop :=
  { l with
    mode := s.mode, target := s.target, wstate := .tuning, inBand := 0, offBand := 0
    u := s.out.getD l.u
    preset := l.preset || (l.mode != s.mode && s.mode == .auto) || l.wstate == .cold }

/-- Starts already taken on a window's tile in the coming Compute phase. -/
def Mod.startsOn (m : Mod) (w : Nat) : Nat := aget 0 m.trowel.startsNow (tileOfWindow w)

/-- The window's tile has a start free, and the window has drive. -/
def Mod.canStart (m : Mod) (w : Nat) : Bool :=
  decide (m.startsOn w < 32) && !(m.sill (sillOfWindow w)).away && !m.bankOff w

/-- Begin a start. -/
def Mod.beginStart (m : Mod) (s : Start) : Mod :=
  let m := m.setLoop s.window fun l => l.begin s
  { m with trowel := { m.trowel with startsNow := amod 0 m.trowel.startsNow (tileOfWindow s.window) (· + 1) } }

/-- A start earlier in the queue waits on the same tile. -/
def Mod.startsAhead (m : Mod) (w : Nat) : Bool := m.trowel.starts.any fun s => tileOfWindow s.window == tileOfWindow w

/-- Ask for a start: it begins with the coming Compute phase where its tile has one free and none waits there, else it waits
(R210). -/
def Mod.requestStart (m : Mod) (s : Start) : Mod :=
  let m := { m with trowel := { m.trowel with starts := m.trowel.starts.filter fun t => t.window != s.window } }
  if m.canStart s.window ∧ ¬ m.startsAhead s.window then m.beginStart s
  else { m with trowel := { m.trowel with starts := m.trowel.starts ++ [s] } }

/-- The window heads for a target already, or waits to. -/
def Mod.headsFor (m : Mod) (w : Nat) (t : Int) : Bool :=
  match m.trowel.starts.find? fun s => s.window == w with
  | some s => s.mode == .auto && s.target == t
  | none => let l := m.loop w; l.mode == .auto && l.target == t && l.wstate != .cold

/-- Start a window toward lock or park, in automatic mode, where it does not head there already. -/
def Mod.driveTo (m : Mod) (t : Int) (w : Nat) : Mod :=
  if m.headsFor w t then m else m.requestStart { window := w, target := t, mode := .auto, out := none }

/-- The window has begun to move toward a target, or is there. -/
def Mod.begun (m : Mod) (t : Int) (w : Nat) : Bool :=
  let l := m.loop w
  l.mode == .auto && l.target == t && l.wstate != .cold && !(m.trowel.starts.any fun s => s.window == w)

/-- The target that the committed set gives a window: its lane where a member not LOST uses it, else park (R206, R83). -/
def Mod.homeTarget (m : Mod) (w : Nat) : Int :=
  if (m.membersOf w).any fun x => x.state != .lost then lockTarget else 0

/-- The target of a window that comes back from COLD: what a queued or running plan needs, else park (R83, R206). -/
def Mod.returnTarget (m : Mod) (w : Nat) : Int :=
  if m.pipeline.any fun p => (planCircuits p).any fun c => c.windows.contains w then lockTarget else 0

/-- Windows without heater power start again from COLD (R83, R206, R452). -/
def Mod.fromCold (m : Mod) (ws : List Nat) : Mod :=
  let m := ws.foldl (fun m w => m.setLoop w fun l => { l with wstate := .cold }) m
  ws.foldl (fun m w => m.driveTo (m.returnTarget w) w) m

/-! ### Wake events (R452 – R454) -/

/-- A wake event: a domain that is ON restarts its timer; one in its low state begins to wake, a bank parking its windows; one
that is entering will be woken when its entry ends or is abandoned. -/
def Mod.wake (m : Mod) (code : Nat) : Mod :=
  match m.domain code with
  | none => m
  | some d =>
    match d.state with
    | .on => m.setDomain code fun d => { d with timer := 0 }
    | .waking => m
    | .entering => m.setDomain code fun d => { d with goal := .on }
    | _ =>
      let m := m.setDomain code fun d => { d with state := .waking, goal := .on, timer := 0 }
      if isBank code then m.fromCold (bankWindows code) else m

/-- Wake the banks of the windows that a plan needs (R452). -/
def Mod.wakeFor (m : Mod) (cs : List Circuit) : Mod :=
  let codes := ((cs.flatMap fun c => c.windows ++ c.parked).map bankCode).dedup
  if m.variant.windows then codes.foldl (fun m c => m.wake c) m else m

end Sys2Proof.Machine
end

