-- ==== Sys2Proof/Machine/Plans.lean ====
section
/-! DEFINITION. Plans (R91 – R107, R173 – R175): staging and its checks, the one-circuit plans, the commit queue, abort, and
the queries of plans and circuits. -/

namespace Sys2Proof.Machine

/-! ### What a query sees -/

/-- What a link's leaf reports: the active leaf its state at the last tick boundary (R35), the standby its mirror (R524). -/
def State.view (s : State) (i : Side) : Mod :=
  match s.cur.leaves.active with
  | some j => if j = i then s.snap else s.mirror
  | none => s.snap

/-- A query: its reply is computed from the live module and the view of its leaf. -/
def queryRun (f : Mod → Req → Mod → Mod) (r : Req) (s : State) : State :=
  { s with cur := f (s.view r.w.link) r s.cur }

/-- A query command. -/
def query (code : Nat) (p : Packet) (f : Mod → Req → Mod → Mod) (s : State) : Host.Outcome State Fault Refusal :=
  command code p (queryRun f) s

/-! ### Replies of commits -/

/-- Refusal of a commit command by its own checks: a final reply of Table 14 (R175). -/
def refuseCommit (r : Req) (status : Nat) (d : List Byte) (timed : Option Instant) (m : Mod) : Mod :=
  answer r status (commitFinal status d (m.noLaunch (wordAt r.payload 0) timed) []) m

/-! ### The plan table -/

/-- A PLAN_ID that host software may give to a new plan (R100, R281). -/
def Mod.planIdFree (m : Mod) (id : Word) : Bool :=
  id != 0 && decide (id.toNat < 0xF0000000) && (m.plan id).isNone

def Mod.dropPlan (m : Mod) (id : Word) : Mod :=
  { m with engine := { m.engine with
      plans := m.engine.plans.filter fun p => p.id != id
      queue := m.engine.queue.filter fun q => q != id } }

def Mod.outcome (m : Mod) (id : Word) : Option Outcome := m.engine.outcomes.find? fun o => o.planId == id

/-- A plan as it enters the table, its base set taken at acceptance (R103). -/
def Mod.newPlan (m : Mod) (id base : Word) (flags : Nat) (scope : BitVec 512) (entries : List Entry) (origin : Origin)
    (clear : Bool) (waiter : Option Waiter) : Plan :=
  { id := id, base := base, scope := scope, allowMove := flags.testBit 0, override := flags.testBit 1
    makeFirst := flags.testBit 2, entries := entries, state := .checking, origin := origin, waiter := waiter
    commitW := none, accepted := m.tick.now, n := 0, w := 0, n2 := 0, w2 := 0, moves := 0, trans := 0, route := []
    moveTo := [], timed := none, lateAcc := false, gen := base + 1, damaged := false
    ctxs := [], clear := clear, baseSet := (m.baseSet base).getD [], baseOk := (m.baseSet base).isSome, stale := false
    waited := false }

/-- Checks 3 – 8 of 03 Table 5 on a plan whose entries are good and whose base is known: the plan with its routes, schedule
and contexts, or the status and detail of the first check that fails. -/
def Mod.checkPlan (m : Mod) (prefer : List Nat) (pl : Plan) : Except (Nat × List Byte) Plan :=
  let base := pl.baseSet
  match m.structCheck pl base with
  | some e => .error e
  | none =>
    match m.touchCheck pl base with
    | some e => .error e
    | none =>
      match m.routeCheck prefer pl base with
      | .error e => .error e
      | .ok rt =>
        let pl := { pl with route := rt.route, moveTo := rt.moveTo }
        let sc := m.schedule pl base (pl.base == m.engine.gen)
        let tr := transitionsOf sc.items
        if 49152 < tr then .error (eCAPACITY, plain)
        else if m.freeContexts < pl.entries.length ∨ 255 ≤ m.livePlans then .error (eCAPACITY, plain)
        else .ok { pl with
          n := sc.n, w := sc.w, n2 := sc.n2, w2 := sc.w2, moves := rt.moveTo.length, trans := tr
          ctxs := m.newContexts pl.entries.length, state := .staged, baseSet := [] }

/-- Checks 1 and 2, then the others (R102). -/
def Mod.checkAll (m : Mod) (prefer : List Nat) (pl : Plan) : Except (Nat × List Byte) Plan :=
  match entriesBad (some pl.scope) pl.entries [] 0 with
  | some (n, off) => .error (ePARAM, detail 2 (80 + 12 * n + off) n)
  | none => if !pl.baseOk then .error (eCONFLICT, plain) else m.checkPlan prefer pl

/-- A plan that passed enters the STAGED state; a kept outcome under its PLAN_ID is discarded (R96). -/
def Mod.staged (m : Mod) (pl : Plan) : Mod :=
  let m := m.setPlan pl.id fun _ => pl
  { m with engine := { m.engine with outcomes := m.engine.outcomes.filter fun o => o.planId != pl.id } }

/-- The first 24 bytes of the final of PLAN_STAGE and PLAN_SOLVE. -/
def stageBytes (pl : Plan) : List Byte :=
  le 4 pl.id.toNat ++ le 2 pl.n ++ le 2 pl.w ++ le 2 pl.moves ++ le 2 0 ++ le 4 pl.trans ++ le 2 pl.n2 ++ le 2 pl.w2

/-- The final of PLAN_STAGE. -/
def stageFinal (pl : Plan) : List Byte := stageBytes pl ++ le 4 0

/-! ### PLAN_STAGE -/

/-- PLAN_STAGE (R99 – R103, R173): format errors and a PLAN_ID that cannot be taken are refused at once; else the checks run. -/
def runPlanStage (r : Req) (m : Mod) : Mod :=
  let pl := r.payload
  let id := wordAt pl 0
  let flags := field pl 8 4
  let count := field pl 12 2
  if pl.length < 80 then malformed r m
  else if !m.planIdFree id then refuse r ePARAM (badField 0) m
  else if 8 ≤ flags then refuse r ePARAM (badField 8) m
  else if 4096 < count then refuse r ePARAM (badField 12) m
  else if !zeros pl 14 2 then refuse r ePARAM (badField 14) m
  else if !sized pl (80 + 12 * count) then malformed r m
  else
    let p := m.newPlan id (wordAt pl 4) flags (maskAt pl 16) (entriesAt pl 80 count) .host false (some r.w)
    pend r { m with engine := { m.engine with plans := m.engine.plans ++ [p] } }

def execPlanStage (p : Packet) (s : State) : Host.Outcome State Fault Refusal := commandM 0x12 p runPlanStage s

/-- The engine runs: a leaf drives or holds, and function 0 is not being reinitialised. -/
def Mod.engineUp (m : Mod) : Bool := m.running && !m.reinitOn 0

/-- PLAN_CHECK_DONE (R102, R103): the checks end, and the plan is STAGED or refused. -/
def checkDone (id : Word) (prefer : List Nat) (m : Mod) : Mod :=
  match m.plan id with
  | none => m
  | some pl =>
    match m.checkAll prefer pl with
    | .ok p => (m.staged { p with waiter := none }).finalTo pl.waiter stOK (stageFinal p)
    | .error (st, d) => (m.dropPlan id).finalTo pl.waiter st d

/-- A plan whose checks run. -/
def Mod.checking (m : Mod) (id : Word) : Bool :=
  match m.plan id with
  | some p => p.state == .checking
  | none => false

def execPlanCheckDone (planId : Word) (prefer : List Nat) (s : State) : Host.Outcome State Fault Refusal :=
  happens (fun m => m.engineUp && m.checking planId) (checkDone planId prefer) s

/-! ### CIRCUIT_SET and CIRCUIT_CLEAR (R105) -/

/-- A plan that joins the tail of the queue (R107): the banks of its windows wake (R452). -/
def Mod.enqueue (m : Mod) (pl : Plan) (w : Option Waiter) (timed : Option Instant) (late : Bool) : Mod :=
  let m := m.setPlan pl.id fun p =>
    { p with state := .queued, commitW := w, timed := timed, lateAcc := late, accepted := m.tick.now, waited := false }
  ({ m with engine := { m.engine with queue := m.engine.queue ++ [pl.id] } }).wakeFor (planCircuits pl)

/-- The two one-circuit plans: format, then checks 3 – 8 against the tail of the queue, then the queue. -/
def runCircuit (clear : Bool) (prefer : List Nat) (r : Req) (m : Mod) : Mod :=
  let id := wordAt r.payload 0
  let flags := field r.payload 4 4
  let e := entryAt r.payload 8
  let no (st : Nat) (d : List Byte) : Mod := refuseCommit r st d none m
  if !sized r.payload 20 then no ePARAM (badField noField)
  else if !m.planIdFree id then no ePARAM (badField 0)
  else if flags ≠ 0 ∧ flags ≠ 2 then no ePARAM (badField 4)
  else
    match entryBad none [] e with
    | some off => no ePARAM (detail 2 (8 + off) 0)
    | none =>
      if clear ∧ e.eflags ≠ 0 then no ePARAM (badField 13)
      else if clear ∧ e.jobTag ≠ 0 then no ePARAM (badField 16)
      else
        let p := m.newPlan id m.tailGen flags 0 [e] .circuit clear none
        if (entryCircuit e).any fun c => !m.variant.fits c then no eABSENT (detail 2 noField 0)
        else if clear ∧ (removals p p.baseSet).isEmpty then no ePARAM (detail 2 8 0)
        else
          match m.checkPlan prefer p with
          | .error (st, d) => no st d
          | .ok p =>
            if 16 ≤ m.engine.queue.length then no eBUSY (detail 0x0F noField noIndex)
            else
              let m := { m with engine := { m.engine with plans := m.engine.plans ++ [p] } }
              pend r ((m.staged p).enqueue p (some r.w) none false)

def execCircuitSet (p : Packet) (prefer : List Nat) (s : State) : Host.Outcome State Fault Refusal :=
  commandM 0x10 p (runCircuit false prefer) s

def execCircuitClear (p : Packet) (prefer : List Nat) (s : State) : Host.Outcome State Fault Refusal :=
  commandM 0x11 p (runCircuit true prefer) s

/-! ### PLAN_COMMIT (R107, R109, R174) -/

/-- Fabric time now. -/
def Mod.fabricNow (m : Mod) : Instant := instant m.time.fabric

/-- One second in units of 2^−16 ns. -/
def second : Int := 65536000000000

/-- R109: a requested instant that PLAN_COMMIT refuses. -/
def Mod.badInstant (m : Mod) (t : Instant) : Bool :=
  decide (m.fabricNow + 3600 * second < t) || decide (t < m.fabricNow - second) || !m.time.everLocked

def runPlanCommit (r : Req) (m : Mod) : Mod :=
  let pl := r.payload
  let id := wordAt pl 0
  let cf := field pl 4 4
  let timed : Option Instant := if cf.testBit 0 then some (timeAt pl 8) else none
  let no (st : Nat) (d : List Byte) : Mod := refuseCommit r st d timed m
  if !sized pl 24 then no ePARAM (badField noField)
  else if 2 ≤ cf then no ePARAM (badField 4)
  else if !zeros pl 20 4 then no ePARAM (badField 20)
  else if timed.isNone ∧ !zeros pl 8 12 then no ePARAM (badField 8)
  else if timed.isSome ∧ !timeNsOk pl 8 then no ePARAM (badField 14)
  else
    match m.plan id with
    | none => if (m.outcome id).isSome then no eCONFLICT plain else no ePARAM (detail 6 noField noIndex)
    | some p =>
      if (match timed with | some t => m.badInstant t | none => false) then no ePARAM (badField 8)
      else if p.state ≠ .staged ∨ p.stale then no eCONFLICT plain
      else if p.damaged then (no eMEDIA plain).mediaRead
      else if p.base ≠ m.tailGen then no eCONFLICT plain
      else if 16 ≤ m.engine.queue.length then no eBUSY (detail 0x0F noField noIndex)
      else
        let late := match timed with
          | some t => decide (t < m.fabricNow)
          | none => false
        pend r (m.enqueue p (some r.w) timed late)

def execPlanCommit (p : Packet) (s : State) : Host.Outcome State Fault Refusal := commandM 0x13 p runPlanCommit s

/-! ### PLAN_ABORT (R106, R122) -/

/-- The running commit is told to end in its next Commit step. -/
def Mod.endRun (m : Mod) (why : EndWhy) : Mod :=
  { m with engine := { m.engine with run := m.engine.run.map fun r =>
      if r.ending.isNone then { r with ending := some why } else r } }

/-- PLAN_ABORT at the boundary: a STAGED plan goes; a RUNNING one ends in the next Commit step (R122); a QUEUED one leaves the queue and its commit ends with E_CONFLICT. -/
def Mod.abortPlan (m : Mod) (id : Word) : Mod :=
  match m.plan id with
  | none => m
  | some p =>
    if p.state = .staged then m.dropPlan id
    else if p.state = .queued then
      (m.dropPlan id).finalTo p.commitW eCONFLICT (commitFinal eCONFLICT plain (m.noLaunch id p.timed) [])
    else if p.state = .running then m.endRun .abort
    else m

def runPlanAbort (r : Req) (m : Mod) : Mod :=
  let id := wordAt r.payload 0
  if !sized r.payload 4 then malformed r m
  else
    match m.plan id with
    | none => refuse r ePARAM (detail 6 noField noIndex) m
    | some p =>
      if p.state = .checking then refuse r ePARAM (detail 6 noField noIndex) m
      else later r (.abortRun id) m

def execPlanAbort (p : Packet) (s : State) : Host.Outcome State Fault Refusal := commandM 0x14 p runPlanAbort s

/-! ### Counts and lists of a commit -/

/-- An item's circuit ended as the plan asked. -/
def Item.good (i : Item) : Bool :=
  match i.prog with
  | .made _ => true
  | .verified => true
  | .cleared => true
  | _ => false

/-- An item's circuit did not end as the plan asked: its OUTCOME. -/
def Item.outcome (i : Item) : Option Nat :=
  match i.prog with
  | .notMade => some 0
  | .notCleared => some 1
  | .unchanged => some 2
  | _ => none

/-- The counts of a running or ended commit (R119, R175): an UNCHANGED circuit is neither NOT_MADE nor NOT_CLEARED. -/
def Running.counts (r : Running) : List Nat :=
  let n (f : Item → Bool) : Nat := (r.items.filter f).length
  [ n fun i => i.change == .add && i.good, n fun i => i.change == .add && i.outcome == some 0
  , n fun i => i.change == .remove && i.good, n fun i => i.change == .remove && i.outcome == some 1
  , n fun i => i.change == .move && i.good, r.stuck, n fun i => i.repaired && i.good ]

/-- The entry that stands for a circuit: the plan's own, or one made of the circuit. -/
def entryFor (pl : Plan) (c : Circuit) (tag : Word) : Entry :=
  match pl.entries.find? fun e => entryCircuit e == some c with
  | some e => e
  | none =>
    { src := c.src, dst := c.dst, kind := BitVec.ofNat 8 c.kindByte, eflags := 0, rsv := 0, jobTag := tag }

/-- The list of PLAN_QUERY: circuits that did not end as the plan asked. -/
def Running.list (r : Running) (pl : Plan) (members : List Context) : List (Entry × Nat) :=
  r.items.filterMap fun i =>
    i.outcome.map fun o =>
      let tag := match members.find? fun x => x.circ == i.circ with
        | some x => x.jobTag
        | none => 0
      (entryFor pl i.circ tag, o)

/-! ### Queries -/

/-- PLAN_QUERY's reply. -/
def planReply (pstate : Nat) (gen : Word) (n w n2 w2 : Nat) (rec0 : List Byte) (counts : List Nat)
    (l : List (Entry × Nat)) : List Byte :=
  le 1 pstate ++ le 3 0 ++ le 4 gen.toNat ++ le 2 n ++ le 2 w ++ le 2 n2 ++ le 2 w2 ++ rec0 ++ countBytes counts ++
    le 2 l.length ++ le 6 0 ++ l.flatMap fun p => entryBytes p.1 p.2

/-- PLAN_QUERY (R96, R169); a plan whose checks still run is not in the table yet, and an outcome kept under its PLAN_ID still
reported. -/
def runPlanQuery (v : Mod) (r : Req) (m : Mod) : Mod :=
  let id := wordAt r.payload 0
  let none56 := List.replicate 56 (0 : Byte)
  if !sized r.payload 4 then malformed r m
  else
    match (v.plan id).filter fun p => p.state != .checking with
    | some p =>
      match p.state with
      | .staged => answer r stOK (planReply 0 p.base p.n p.w p.n2 p.w2 none56 [] []) m
      | .queued => answer r stOK (planReply 1 p.gen p.n p.w p.n2 p.w2 none56 [] []) m
      | _ =>
        match v.engine.run with
        | some x =>
          answer r stOK (planReply 2 p.gen x.n x.w x.n2 x.w2 (launchBytes x.record) x.counts
            (x.list p v.engine.members)) m
        | none => answer r stOK (planReply 2 p.gen p.n p.w p.n2 p.w2 none56 [] []) m
    | none =>
      match v.outcome id with
      | some o => answer r stOK (planReply 3 o.gen o.n o.w o.n2 o.w2 (launchBytes o.launched) o.counts o.list) m
      | none => refuse r ePARAM (detail 6 noField noIndex) m

def execPlanQuery (p : Packet) (s : State) : Host.Outcome State Fault Refusal := query 0x15 p runPlanQuery s

/-- The context record (03 Table 2). -/
def contextBytes (v : Mod) (x : Context) : List Byte :=
  let flags := b2n x.pinned + 2 * b2n x.override + 4 * b2n x.lit + 8 * b2n x.moved + 16 * b2n x.recovered + 32 * b2n (v.frozen x)
  let body := le 2 x.circ.src ++ le 2 x.circ.dst ++ le 1 x.circ.kindByte ++ le 1 x.state.code ++ le 1 (x.middle.getD 0x3F) ++
    le 1 flags ++ le 4 x.planId.toNat ++ le 4 x.gen.toNat ++ le 4 x.jobTag.toNat ++
    le 2 (match x.monPower with | some p => wrapInt 2 p | none => 0x8000) ++ le 2 0 ++ le 4 x.ctx
  body ++ le 4 (crc32c body).toNat

/-- The records of a CIRCUIT_QUERY: ports from `first`, as long as a port's records all fit. -/
def queryPorts (f : Nat → List Context) : Nat → Nat → Nat → List Context → List Context × Option Nat
  | 0, _, _, acc => (acc, none)
  | n + 1, p, room, acc =>
    let l := f p
    if room < l.length then (acc, some p) else queryPorts f n (p + 1) (room - l.length) (acc ++ l)

/-- CIRCUIT_QUERY (R169). -/
def runCircuitQuery (v : Mod) (r : Req) (m : Mod) : Mod :=
  let first := field r.payload 0 2
  let count := field r.payload 2 2
  let side := field r.payload 4 1
  if !sized r.payload 5 then malformed r m
  else if 512 ≤ first then refuse r ePARAM (badField 0) m
  else if !portRange first count then refuse r ePARAM (badField 2) m
  else if 1 < side then refuse r ePARAM (badField 4) m
  else
    let at_ (p : Nat) : List Context := v.engine.members.filter fun x => (if side = 0 then x.circ.src else x.circ.dst) == p
    let q := queryPorts at_ count first 2040 []
    answer r stOK (le 2 q.1.length ++ le 2 (q.2.getD 0) ++ le 1 (b2n q.2.isSome) ++ le 3 0 ++ q.1.flatMap (contextBytes v)) m

def execCircuitQuery (p : Packet) (s : State) : Host.Outcome State Fault Refusal := query 0x17 p runCircuitQuery s

end Sys2Proof.Machine
end

