-- ==== Sys2Proof/Machine/Commit.lean ====
section
/-! DEFINITION. The plan/commit engine (R108 – R129): launch, the Commit step, readback and repair, completion, the ways a
commit ends before completing, and the commits that the engine starts of its own. -/

namespace Sys2Proof.Machine

/-! ### The running commit -/

def Mod.setRun (m : Mod) (r : Running) : Mod := { m with engine := { m.engine with run := some r } }

/-- A move sent and not yet read back as intended. -/
def Mod.inFlight (m : Mod) (e : Elem) : Bool :=
  (m.engine.fired.any fun f => f.elem == e) || (m.engine.retryQ.any fun p => p.1 == e) ||
    (match m.engine.run with
     | some r => (r.batchMoves ++ r.batchRetry).any fun p => p.1 == e
     | none => false)

/-- The item at work for a circuit. -/
def Running.item (r : Running) (c : Circuit) : Option Item := r.items.find? fun i => i.circ == c

/-- The middle that a member will hold at the end of the commit; none for one that goes. -/
def endMiddle (r : Running) (x : Context) : Option Nat :=
  match r.item x.circ with
  | some i =>
    match i.prog with
    | .cleared => none
    | .notCleared => x.middle
    | .unchanged => x.middle
    | .notMade => if i.change = .add then none else x.middle
    | _ => if i.change = .remove then none else i.middle
  | none => x.middle

/-- Where the other circuits will run at the end of the commit. -/
def Mod.endRoutes (m : Mod) (r : Running) (c : Circuit) : List Routed :=
  m.engine.members.filterMap fun x =>
    if x.circ = c then none else (endMiddle r x).map fun k => { circ := x.circ, mid := k, level := 0 }

/-- Elements that the other circuits will hold at the end of the commit. -/
def Mod.endElems (m : Mod) (r : Running) (c : Circuit) : List Elem :=
  (m.endRoutes r c).flatMap fun x => x.circ.elems x.mid

/-- Turn the windows of a circuit back to where the committed set has them, or on to where the plan does (R122). -/
def Mod.turnBack (m : Mod) (i : Item) : Mod :=
  match i.change with
  | .add => (i.lock.filter fun w => !((m.engine.members.filter fun x => x.circ != i.circ).any fun x => x.circ.windows.contains w)).foldl
      (fun m w => m.driveTo 0 w) m
  | .remove => i.park.foldl (fun m w => m.driveTo lockTarget w) m
  | .move => m

/-- An addition that cannot be made: its windows park again. -/
def Mod.notMade (m : Mod) (i : Item) : Mod × Item :=
  (if i.change = .add then m.turnBack i else m, { i with prog := .notMade })

/-! ### Rerouting (R110, R117, R127) -/

/-- The elements of a circuit over a new middle, as moves from what is SET now. -/
def Mod.overMiddle (m : Mod) (i : Item) (k : Nat) (repair : Bool) : Item :=
  let new := i.circ.elems k
  let old := (i.clears ++ i.sets).filter fun e => !new.contains e && m.fabric.set.contains e && !m.isStuck e
  { i with
    clears := old, sets := new.filter fun e => !m.fabric.set.contains e, middle := some k, prog := .waiting, done := []
    split := 0, repaired := i.repaired || repair }

/-- The item cannot fire as it stands: an element of its new path is stuck or undriven, or the place is held by a circuit
that will not give it up. -/
def Mod.barred (m : Mod) (r : Running) (i : Item) : Bool :=
  match i.middle with
  | none => true
  | some k =>
    let new := i.circ.elems k
    let held := m.endElems r i.circ
    !(new.all m.elemOk) || new.any fun e => held.any fun f => sharesLine e f || sharesRail e f

/-- The item's outer elements cannot move: their brick is FAILED or UNDRIVEN. -/
def Mod.outerAway (m : Mod) (i : Item) : Bool :=
  (i.circ.outer 0).any fun e => !m.brickOk e.brick

/-- The window part of an addition over a sill that is away: it cannot be made (R127). -/
def Mod.windowAway (m : Mod) (i : Item) : Bool :=
  i.change == .add && (i.lock ++ (if m.variant.windows then i.circ.parked else [])).any fun w => (m.sill (sillOfWindow w)).away

/-- Put an item back in its place. -/
def Running.put (r : Running) (i : Item) : Running :=
  { r with items := r.items.map fun j => if j.circ = i.circ then i else j }

/-- Settle one waiting item against what the fabric has become (R110, R127): a removal keeps to driven elements; an addition
or move that is barred takes a free middle, or is NOT_MADE. -/
def fixWaiting (m : Mod) (r : Running) (prefer : List Nat) (i : Item) : Mod × Running :=
  if i.prog ≠ .waiting ∨ i.done ≠ [] then (m, r)
  else
    match i.change with
    | .remove =>
      let outerGone := match i.middle with
        | some k => (i.circ.outer k).any fun e => m.undriven e.brick
        | none => false
      if outerGone then (m.turnBack i, r.put { i with prog := .notCleared })
      else (m, r.put { i with clears := i.clears.filter fun e => !m.undriven e.brick && !m.isStuck e })
    | _ =>
      if m.windowAway i then let p := m.notMade i; (p.1, r.put p.2)
      else if !m.barred r i then (m, r)
      else
        match m.freeMiddle prefer r.avail (m.endRoutes r i.circ) i.circ with
        | some k =>
          let j := m.overMiddle i k false
          if m.barred r j then let p := m.notMade i; (p.1, r.put p.2) else (m, r.put { j with repaired := i.repaired })
        | none => let p := m.notMade i; (p.1, r.put p.2)

def fixAll (m : Mod) (r : Running) (prefer : List Nat) : Mod × Running :=
  r.items.foldl (fun (p : Mod × Running) i =>
    match p.2.item i.circ with
    | some j => fixWaiting p.1 p.2 prefer j
    | none => p) (m, r)

/-! ### Progress of fired items (R114, R117) -/

/-- The new path of an item lies as intended and is not barred by a stuck element. -/
def Mod.inPlace (m : Mod) (i : Item) : Bool :=
  match i.middle with
  | some k => (i.circ.elems k).all fun e => m.fabric.set.contains e && m.elemOk e
  | none => true

/-- Every move of the item has been read back. -/
def Mod.allRead (m : Mod) (i : Item) : Bool := !((i.clears ++ i.sets).any m.inFlight)

/-- Advance one item after the readback of this tick. `mayRepair` is false once the commit is ending (R122). -/
def advanceItem (m : Mod) (r : Running) (mayRepair : Bool) (i : Item) : Mod × Running :=
  let now := m.tick.now
  let locked := i.circ.windows.all fun w => m.wstate w == .locked
  match i.prog with
  | .fired _ =>
    if !m.allRead i then (m, r)
    else if i.change = .remove then (m, r.put { i with prog := .cleared })
    else if m.inPlace i then
      (m, r.put { i with prog := if locked || i.change == .move then .made now else .placed now })
    else if mayRepair && !i.repaired && !m.outerAway i then
      match m.freeMiddle [] r.avail (m.endRoutes r i.circ) i.circ with
      | some k => (m, { r.put (m.overMiddle i k true) with record := { r.record with flags := r.record.flags ||| 0x80 } })
      | none => let p := m.notMade i; (p.1, r.put p.2)
    else let p := m.notMade i; (p.1, r.put p.2)
  | .placed _ =>
    if locked then (m, r.put { i with prog := .made now })
    else if m.windowAway i then let p := m.notMade i; (p.1, r.put p.2)
    else (m, r)
  | _ => (m, r)

def advanceAll (m : Mod) (r : Running) (mayRepair : Bool) : Mod × Running :=
  r.items.foldl (fun (p : Mod × Running) i =>
    match p.2.item i.circ with
    | some j => advanceItem p.1 p.2 mayRepair j
    | none => p) (m, r)

/-! ### Windows of a commit (R112) -/

/-- The CLEARs of every port circuit at either end of a lane circuit have fired in an earlier tick. -/
def locksFree (now : Nat) (items : List Item) (i : Item) : Bool :=
  items.all fun j =>
    !(j.circ.kind == .port && j.change == .remove && (j.circ.src == i.circ.src || j.circ.dst == i.circ.dst)) ||
      (match j.prog with
       | .waiting => false
       | .fired t => decide (t ≤ now)
       | _ => true)

/-- Ask for the window starts of the stage: locks as R112 allows, parks as soon as the stage runs. -/
def Mod.driveItems (m : Mod) (r : Running) : Mod :=
  (r.items.filter fun i => i.stage == r.stage && i.prog == .waiting).foldl (fun m i =>
    let m := if locksFree m.tick.now r.items i then i.lock.foldl (fun m w => m.driveTo lockTarget w) m else m
    let m := i.park.foldl (fun m w => m.driveTo 0 w) m
    if i.change = .add ∧ m.variant.windows then (i.circ.parked).foldl (fun m w => m.driveTo 0 w) m else m) m

/-! ### Composing the next batch -/

/-- Test elements that calibration has left SET on a line or rail that the commit takes: they are cleared in its first batch (R78,
R308). -/
def Mod.testsInWay (m : Mod) (r : Running) : List Elem :=
  let sets := r.items.flatMap Item.setsLeft
  m.testElems.filter fun e => sets.any fun f => e != f && (sharesLine e f || sharesRail e f)

/-- Orphans, and elements of calibration in the way, that the commit still has to clear. -/
def Mod.orphansLeft (m : Mod) (r : Running) : List Elem :=
  (m.testsInWay r ++ r.orph).filter fun e => m.fabric.set.contains e && !m.inFlight e && !m.isStuck e && !m.undriven e.brick

/-- An item may fire in the batch: its windows have started, a port circuit's read PARKED, and no orphan that is not in the
batch or already on its way lies across it. -/
def Mod.fireable (m : Mod) (orph : List Elem) (i : Item) : Bool :=
  (i.lock.all fun w => m.begun lockTarget w) &&
    (i.change != .add || !m.variant.windows || i.circ.parked.all fun w => m.wstate w == .parked) &&
    !(i.setsLeft.any fun e => orph.any fun f => f != e && (sharesLine e f || sharesRail e f)) &&
    !(i.moves.any fun p => m.undriven p.1.brick)

/-- Add as many retries as banks and budget allow. -/
def retriesThatFit (b : Batch) (budget : Nat) : List (Elem × Bool) → Batch × List (Elem × Bool)
  | [] => (b, [])
  | p :: t =>
    match b.fit budget [p] with
    | some b' => let q := retriesThatFit b' budget t; (q.1, p :: q.2)
    | none => retriesThatFit b budget t

/-- Prepare the batch of the next tick (R112), on top of what a carried Actuate left: retries first, then orphans, then the items of
the stage. Where the commit is ending only retries are prepared (R122). -/
def prepare (m : Mod) (r : Running) (ending : Bool) : Mod × Running :=
  let next := m.tick.now + 1
  let b := r.budget
  let rt := retriesThatFit (.of (r.batchMoves ++ r.batchRetry)) b (m.engine.retryQ.filter fun p => !m.undriven p.1.brick)
  let b0 := rt.1
  let left := if ending then [] else m.orphansLeft r
  let b1 := b0.addEach b (left.map fun e => (e, false))
  let inB := b1.moves.map Prod.fst
  let wait := left.filter fun e => !inB.contains e
  let ready (i : Item) : Bool := m.fireable wait i
  let c := if ending then { batch := b1, items := r.items, held := false } else composeOn b1 b next ready r.stage r.items
  let held := c.held || (wait.any fun e => b1.budgetOnly b [(e, false)]) ||
    m.engine.retryQ.any fun p => !rt.2.contains p && b0.budgetOnly b [p]
  let moves := c.batch.moves.drop b0.moves.length
  let m := { m with
    engine := { m.engine with retryQ := m.engine.retryQ.filter fun p => !rt.2.contains p }
    fabric := if held then { m.fabric with stagger := m.fabric.stagger + 1 } else m.fabric }
  (m, { r with
    items := c.items, batchMoves := r.batchMoves ++ moves, batchRetry := r.batchRetry ++ rt.2
    sent := if moves.isEmpty then r.sent else r.sent + 1
    record := if rt.2.isEmpty then r.record else { r.record with flags := r.record.flags ||| 0x40 } })

/-! ### Settling -/

/-- The item needs nothing more. -/
def Item.over (i : Item) : Bool :=
  match i.prog with
  | .waiting => false
  | .fired _ => false
  | .placed _ => false
  | _ => true

/-- Everything of the present stage is settled and nothing is on its way. -/
def Mod.stageSettled (m : Mod) (r : Running) : Bool :=
  (r.items.all fun i => i.stage != r.stage || i.over) && m.engine.fired.isEmpty && m.engine.retryQ.isEmpty &&
    r.batchMoves.isEmpty && r.batchRetry.isEmpty

/-- Every addition and move of the present stage is made or NOT_MADE. -/
def Running.addsOver (r : Running) : Bool := r.items.all fun i => i.stage != r.stage || i.change == .remove || i.over

/-- The made circuits have been verified; with none made there is nothing to verify (R115). -/
def Running.checked (r : Running) : Bool :=
  r.verified || r.items.all fun i => match i.prog with
    | .made _ => false
    | _ => true

/-- Items of a later stage remain. -/
def Running.moreStages (r : Running) : Bool := r.items.any fun i => decide (r.stage < i.stage)

/-- A commit that has had to reroute circuits: its batch count grows to match (R127). -/
def Running.regrown (r : Running) (old : List Item) : Running :=
  let changed := r.items.any fun i => i.prog == .waiting && old.any fun j => j.circ == i.circ && j.middle != i.middle
  if !changed then r
  else
    let n := r.sent + batchCount r.budget r.stage (2 * r.items.length + 2) r.items
    if r.stage = 1 then { r with n := max r.n n } else { r with n2 := max r.n2 n }

/-- One step of a commit that goes on (R112 – R117). -/
def stepOn (m : Mod) (r : Running) : Mod :=
  let p := advanceAll m r true
  let m := p.1
  let r := p.2
  let r := if r.checked && r.moreStages && m.stageSettled r && r.settled.isSome then { r with stage := 2, settled := none, verified := false, sent := 0 } else r
  let p := fixAll m r []
  let m := p.1.driveItems p.2
  let p := prepare m (p.2.regrown r.items) false
  let r := p.2
  p.1.setRun { r with settled := if r.addsOver then (match r.settled with | some t => some t | none => some p.1.tick.now) else none }

/-- Items that have fired nothing end UNCHANGED, their windows turned back (R122). -/
def dropWaiting (m : Mod) (r : Running) : Mod × Running :=
  r.items.foldl (fun (p : Mod × Running) i =>
    if i.prog = .waiting ∧ i.done = [] then (p.1.turnBack i, p.2.put { i with prog := .unchanged }) else p) (m, r)

/-- A split circuit whose CLEARs have fired and been read back, in a commit that fires no more (R122): a removal is cleared, any other
circuit is NOT_MADE (log 39). -/
def Mod.haltSplit (m : Mod) (i : Item) : Item :=
  if i.prog = .waiting ∧ i.done ≠ [] ∧ m.allRead i then { i with prog := if i.change = .remove then .cleared else .notMade } else i

/-- One step of a commit that is ending (R122): what has fired is read back and retried, nothing else fires. -/
def stepEnd (m : Mod) (r : Running) (why : EndWhy) : Mod :=
  let p := advanceAll m r false
  let p := dropWaiting p.1 p.2
  let p := (p.1, { p.2 with items := p.2.items.map p.1.haltSplit })
  if why = .safeHold then p.1.setRun p.2
  else let p := prepare p.1 p.2 true; p.1.setRun p.2

/-- One Commit step of the engine; a carried one stays where it is (R36, R38). -/
def Mod.engineStep (m : Mod) (carried : Bool) : Mod :=
  match m.engine.run with
  | none => m
  | some r =>
    if carried then m.setRun { r with record := { r.record with flags := r.record.flags ||| 0x10 } }
    else if m.reinitOn 0 && r.ending.isNone then m
    else
      match r.ending with
      | some why => stepEnd m r why
      | none => stepOn m r

/-! ### Actuate and Sense -/

/-- A sill moves elements: it drives, and its lease is VALID and the working leaf's (R26, R83, R410). -/
def Mod.sillFires (m : Mod) (e : Elem) : Bool :=
  let s := m.sill (sillOfBrick e.brick)
  !s.away && s.lease == .valid && s.epoch == (m.leaf m.worker).epoch

/-- Fire the prepared batch (R66 – R72), but for what carried sills hold back. `failed` are the elements that do not move. -/
def Mod.fireBatch (m : Mod) (failed : List Elem) (carried : List Nat) : Mod :=
  match m.engine.run with
  | none => m
  | some r =>
    let stays (p : Elem × Bool) : Bool := carried.contains (sillOfBrick p.1.brick)
    let mv := r.batchMoves.filter fun p => !stays p
    let rt := r.batchRetry.filter fun p => !stays p
    let acts := (mv ++ rt).filter fun p => !failed.contains p.1 && !m.isStuck p.1 && m.sillFires p.1
    let cl := (acts.filter fun p => !p.2).map Prod.fst
    let st := (acts.filter fun p => p.2).map Prod.fst
    let n := mv.length + rt.length
    let f (retry : Bool) (p : Elem × Bool) : Fired := { elem := p.1, set := p.2, tick := m.tick.now, retry := retry }
    { m with
      fabric := { m.fabric with
        set := (m.fabric.set.filter fun e => !cl.contains e && !st.contains e) ++ st
        peak := m.fabric.peak.put n }
      engine := { m.engine with
        fired := m.engine.fired ++ mv.map (f false) ++ rt.map (f true)
        run := some { r with
          batchMoves := r.batchMoves.filter stays, batchRetry := r.batchRetry.filter stays
          begun := r.begun || decide (0 < n), lastFire := if 0 < n then m.tick.now else r.lastFire } } }

/-- Mark an element stuck as it stands, and record it (R72, R502). -/
def Mod.markStuck (m : Mod) (e : Elem) : Mod :=
  let at1 := m.fabric.set.contains e
  let ctx := match m.engine.members.find? fun x => x.path.contains e with
    | some x => x.ctx
    | none => 0xFFFFFFFF
  let others : List (Elem × Bool) := m.fabric.stuck.filter fun p => p.1 != e
  let run : Option Running := m.engine.run.map fun r => { r with stuck := r.stuck + 1 }
  let m : Mod := { m with
    fabric := { m.fabric with stuck := others ++ [(e, at1)] }, engine := { m.engine with run := run } }
  m.record 0x10 m.origin
    (le 2 e.brick ++ le 1 e.line ++ le 1 e.rail ++ le 1 (b2n (isCoupler e)) ++ le 1 (b2n at1) ++ [0, 0] ++ le 4 ctx)

/-- A member not of the running commit whose path holds an element stuck in the wrong state is LOST, cause 4 (R82). -/
def Mod.breakMembers (m : Mod) : Mod :=
  (m.engine.members.filter fun x => x.state != .making && x.state != .breaking &&
      x.path.any fun e => m.fabric.stuck.any fun p => p.1 == e && !p.2).foldl
    (fun m x => m.impair x .lost 4 0xFFFFFFFF) m

/-- The element has been told to move again since: its readback says nothing of the earlier move. A SET in the batch of a CLEAR
comes after it (R66). -/
def Mod.superseded (m : Mod) (f : Fired) : Bool :=
  (m.engine.fired.any fun g => g.elem == f.elem && (decide (f.tick < g.tick) || (g.tick == f.tick && g.set && !f.set))) ||
    (match m.engine.run with
     | some r => (r.batchMoves ++ r.batchRetry).any fun p => p.1 == f.elem
     | none => false)

/-- One readback (R71, R72): what agrees is done; what disagrees is retried once and then stuck; nothing is retried or marked
once SAFE_HOLD ends the commit (R570). -/
def readOne (m : Mod) (f : Fired) : Mod :=
  let m' := { m with engine := { m.engine with fired := m.engine.fired.filter fun g => g != f } }
  if m.fabric.set.contains f.elem = f.set ∨ m.superseded f then m'
  else if m.state = .safeHold then m'
  else if f.retry then (m'.markStuck f.elem).breakMembers
  else { m' with engine := { m'.engine with retryQ := m'.engine.retryQ ++ [(f.elem, f.set)] } }

/-- The readbacks of a Sense phase, for the sills whose sets arrived: moves fired two or more ticks ago. -/
def Mod.readback (m : Mod) (arrived : BitVec 8) : Mod :=
  (m.engine.fired.filter fun f => decide (f.tick + 2 ≤ m.tick.now) && arrived.getLsbD (sillOfBrick f.elem.brick)).foldl readOne m

/-- The verifying read (R115, R116): the Sense phase of a tick after every addition was counted made or NOT_MADE. A port's reading
is the single-tick one of its monitor (R185); `drops` are the drop windows' monitors, of the sills whose sets are here. -/
def Mod.verify (m : Mod) (got : List Nat) (drops : List (Nat × Int)) : Mod :=
  match m.engine.run with
  | none => m
  | some r =>
    match r.settled with
    | none => m
    | some t =>
      if m.tick.now ≤ t ∨ r.verified ∨ r.ending.isSome then m
      else
        let power (c : Circuit) : Option Int :=
          match c.kind with
          | .lane => (drops.find? fun p => p.1 == dropWindow c.src c.lane && got.contains (sillOfWindow p.1)).map fun p => m.scaledDb (sillOfWindow p.1) p.2
          | _ => some (m.loop (0x2000 + c.dst)).outTap
        m.setRun { r with verified := true, items := r.items.map fun i =>
          match i.prog with
          | .made _ => { i with prog := .verified, power := power i.circ }
          | _ => i }

/-! ### Launch (R108 – R110) -/

def Mod.headPlan (m : Mod) : Option Plan := m.engine.queue.head?.bind m.plan

/-- The head of the queue meets the conditions of R108; a commit that fails its LAUNCH checks ends in that tick, and the one behind
it launches no sooner than the next (R110). -/
def Mod.launchable (m : Mod) : Bool :=
  m.activeIn [.ready, .degraded] && m.engineUp && m.engine.run.isNone && m.engine.tried != some m.tick.now &&
    (match m.headPlan with
     | some p => decide (p.accepted < m.tick.now) && (match p.timed with
       | some t => decide (t ≤ m.fabricNow)
       | none => true)
     | none => false)

/-- A plan that does not launch returns to STAGED and can no longer be committed (R110, R123). -/
def Mod.unlaunch (m : Mod) (p : Plan) (status : Nat) (d : List Byte) : Mod :=
  let l := m.noLaunch p.id p.timed
  let m := m.setPlan p.id fun q => { q with state := .staged, stale := true, commitW := none, timed := none }
  let m := { m with engine := { m.engine with queue := m.engine.queue.filter fun q => q != p.id, tried := some m.tick.now } }
  m.finalTo p.commitW status (commitFinal status d l [])

/-- Cancel what LOOP_MODE and LOOP_SETPOINT did to a window that a launching plan needs: it returns to automatic with a start of its
own (R202, R204). -/
def Mod.cancelHost (m : Mod) (w : Nat) : Mod :=
  let l := m.loop w
  if l.mode = .auto ∧ l.causes.getLsbD 0 = false ∧ (l.target = 0 ∨ l.target = lockTarget) then m
  else
    (m.setLoop w fun l => { l with causes := l.causes &&& 0xE, preset := true }).requestStart
      { window := w, target := m.homeTarget w, mode := .auto, out := none }

/-- Members as a launch makes them: listed members take the plan's contexts, additions join as MAKING, removals are BREAKING
(R91, R95). -/
def launchMembers (pl : Plan) (r : Running) (members : List Context) : List Context :=
  let listed := planCircuits pl
  let ctxOf (c : Circuit) : Option Nat := (listed.findIdx? fun d => d == c).bind fun n => pl.ctxs[n]?
  let old := members.map fun x =>
    let x := { x with moved := false, ctx := (ctxOf x.circ).getD x.ctx }
    match r.item x.circ with
    | some i =>
      match i.change with
      | .remove => if i.prog = .notCleared then x else { x with state := .breaking, override := x.override || pl.override }
      | .add => if i.prog = .notMade then x else { x with state := .making, middle := i.middle }
      | .move => x
    | none => x
  let new := r.items.filterMap fun i =>
    if i.change = .add ∧ i.prog ≠ .notMade ∧ ¬ members.any (fun x => x.circ == i.circ) then
      let e := entryFor pl i.circ 0
      some { circ := i.circ, state := .making, middle := i.middle, pinned := entryPinned e, override := pl.override
             lit := false, moved := false, recovered := false, planId := pl.id, gen := pl.base + 1, jobTag := e.jobTag
             monPower := none, ctx := (ctxOf i.circ).getD 0 : Context }
    else none
  old ++ new

/-- Every usable middle of every plane. -/
def Mod.middlesNow (m : Mod) : List (Nat × Nat) := m.variant.planeList.flatMap fun p => (m.usables p).map fun k => (p, k)

/-- The LAUNCH of a plan that passed its checks: reroutes, members and the launch record. The Commit step of its tick prepares the
first batch (03 Table 7). -/
def Mod.launch (m : Mod) (pl : Plan) (prefer : List Nat) : Mod :=
  let now := m.tick.now
  let late := pl.lateAcc
  let flags := b2n pl.timed.isSome + 2 * b2n late + 4 * b2n pl.waited + 8 * b2n (m.time.fstate == 3)
  let l : LaunchRec :=
    { planId := pl.id, gen := pl.base + 1, tick := m.tick.count, req := pl.timed, time := m.fabricNow, complete := 0
      flags := BitVec.ofNat 8 flags }
  let m := ((planCircuits pl).flatMap fun c => c.windows ++ (if m.variant.windows then c.parked else [])).foldl
    (fun m w => m.cancelHost w) m
  let items := m.planItems pl m.engine.members true
  let r : Running :=
    { engine := false, planId := pl.id, launch := now, record := l, items := items, stage := 1, n := 0, w := 0, n2 := 0
      w2 := 0, batchMoves := [], batchRetry := [], ending := none, stuck := 0, lastFire := 0, settled := none
      verified := false, begun := false, orph := [], budget := m.fabric.budget, avail := m.middlesNow, sent := 0 }
  let p := fixAll m r prefer
  let m := p.1
  let items := markSplits m.fabric.budget (stageItems pl.makeFirst p.2.items)
  let fuel := 2 * items.length + 2
  let after1 := items.map fun i => if i.stage = 1 ∧ i.prog = .waiting then { i with prog := .verified } else i
  let r := { p.2 with
    items := items, n := batchCount m.fabric.budget 1 fuel items, w := startTicks (startsOf items 1)
    n2 := batchCount m.fabric.budget 2 fuel after1, w2 := startTicks (startsOf items 2) }
  let m := { m with engine := { m.engine with
    queue := m.engine.queue.filter fun q => q != pl.id, lastLaunch := m.tick.count
    members := launchMembers pl r m.engine.members, run := some r } }
  let m := m.setPlan pl.id fun q => { q with state := .running }
  let m := m.setRun { r with orph := m.orphans }
  (m.setLeaf m.worker fun f => { f with state := .committing }).fire 2

/-- The LAUNCH checks (R110, R428), and the launch. -/
def Mod.tryLaunch (m : Mod) (prefer badContexts : List Nat) : Mod :=
  match m.headPlan with
  | none => m
  | some pl =>
    if pl.damaged ∨ pl.ctxs.any badContexts.contains then (m.unlaunch pl eMEDIA plain).mediaRead
    else if pl.base ≠ m.engine.gen ∨ pl.stale then m.unlaunch pl eCONFLICT plain
    else
      match m.touchCheck pl m.engine.members with
      | some (st, d) => m.unlaunch pl st d
      | none => m.launch pl prefer

/-- The state bytes that packets carry until the next boundary (R35). -/
def Mod.reportBytes (m : Mod) : Mod :=
  { m with leaves := { m.leaves with moduleByte := { a := m.byteOf .a, b := m.byteOf .b } } }

/-- What the module reports of this boundary (R35), after an event at the boundary itself. -/
def atBoundary (s : State) : State :=
  let m := s.cur.reportBytes
  { s with cur := m, snap := { s.snap with leaves := m.leaves, engine := m.engine } }

/-- A change of the module's state byte is reported by an event of class 0 and fires Keyhole trigger 0. -/
def Mod.stateEvent (m : Mod) (old : Nat) : Mod :=
  if m.byte = old then m
  else (m.event 0 (le 1 old ++ le 1 m.byte ++ le 1 (sideCode m.leaves.active) ++ le 5 0)).fire 0

/-- COMMIT_LAUNCH (R108, R110). -/
def execCommitLaunch (prefer badContexts : List Nat) (s : State) : Host.Outcome State Fault Refusal :=
  .next (if s.cur.inPhase .boundary && s.cur.launchable then atBoundary (onCur (fun m => (m.tryLaunch prefer badContexts).stateEvent m.byte) s) else s)

/-- WINDOW_START (R210): the first deferred start of a window whose tile has a start free. -/
def execWindowStart (window : Nat) (s : State) : Host.Outcome State Fault Refusal :=
  happens
    (fun m => m.canStart window && (match m.trowel.starts.find? fun t => tileOfWindow t.window == tileOfWindow window &&
        !(m.sill (sillOfWindow t.window)).away && !m.bankOff t.window with
      | some t => t.window == window
      | none => false))
    (fun m => match m.trowel.starts.find? fun t => t.window == window with
      | some t => { m with trowel := { m.trowel with starts := m.trowel.starts.filter fun x => x.window != window } }.beginStart t
      | none => m) s

/-! ### Completion (R92, R93, R115, R119) -/

/-- The state of a lane member by its windows; others are ACTIVE. -/
def Mod.windowState (m : Mod) (c : Circuit) : CState :=
  if c.windows.any fun w => m.wstate w == .cold then .lost
  else if c.windows.all fun w => m.wstate w == .locked then .active else .atRisk

/-- A LIT reading is −25 dBm or more (R116). -/
def isLit : Option Int → Bool
  | some p => decide (-2500 ≤ p)
  | none => false

/-- What becomes of a member at the end of a commit. -/
def Mod.settleMember (m : Mod) (r : Running) (pl : Option Plan) (gen : Word) (x : Context) : Option Context :=
  let relist (x : Context) : Context :=
    match pl.bind fun p => p.entries.find? fun e => !p.clear && entryCircuit e == some x.circ with
    | some e => { x with pinned := entryPinned e, jobTag := e.jobTag, planId := r.planId }
    | none => x
  match r.item x.circ with
  | none => some (relist x)
  | some i =>
    match i.change with
    | .remove =>
      if i.prog = .cleared then none
      else some { x with state := if x.state ≠ .breaking then x.state else if i.was = .lost then .lost else m.windowState x.circ }
    | .add =>
      if i.good then
        some { relist x with
          state := if i.prog = .verified then .active else m.windowState x.circ
          lit := isLit i.power, monPower := i.power, middle := i.middle
          gen := if x.gen = r.record.gen then gen else x.gen }
      else if x.gen ≠ r.record.gen then some { x with state := .lost }
      else none
    | .move =>
      if i.good then
        some { relist x with
          middle := i.middle, moved := true
          lit := if i.prog = .verified then isLit i.power else x.lit
          monPower := if i.prog = .verified then i.power else x.monPower
          state := if x.state = .lost && i.prog = .verified then m.windowState x.circ else x.state }
      else some { relist x with state := if i.outcome = some 0 && !(x.path.all m.fabric.set.contains) then .lost else x.state }

/-- The kinds of plane-0 input lines that R93 writes to the Cornerstone: (port, kind). -/
def lineKinds (members : List Context) : List (Nat × Nat) :=
  members.filterMap fun x =>
    match x.circ.kind with
    | .port => some (x.circ.src, 1)
    | .lane0 => some (x.circ.src, 2)
    | .lane => none

/-- The cause that the class 2 event of an impaired member gives, and its window: a window COLD or in HOLD, an element in the wrong
state, else a window that is not LOCKED, for which Table 13 has only cause 1 (DESIGN CHOICE, log 92). -/
def Mod.impairCause (m : Mod) (x : Context) : Nat × Nat :=
  match x.circ.windows.find? fun w => m.wstate w == .cold, x.circ.windows.find? fun w => m.wstate w == .hold with
  | some w, _ => (3, w)
  | none, some w => (0, w)
  | none, none =>
    match if x.path.all m.fabric.set.contains then x.circ.windows.find? fun w => m.wstate w != .locked else none with
    | some w => (1, w)
    | none => (4, 0xFFFFFFFF)

/-- The state in which a member stood for its last class 2 event: before the commit, for one that the commit was working on. -/
def reportedState (r : Running) (x : Context) : CState :=
  match x.state, r.item x.circ with
  | .making, some i => i.was
  | .breaking, some i => i.was
  | st, _ => st

/-- Members that a commit leaves AT_RISK or LOST, and that were not so before, are reported (R130). `old` are the members before
it. -/
def Mod.reportBroken (m : Mod) (r : Running) (old : List Context) : Mod :=
  (m.engine.members.filter fun x => (x.state == .lost || x.state == .atRisk) &&
      !(old.any fun y => y.circ == x.circ && reportedState r y == x.state)).foldl
    (fun m x => let c := m.impairCause x; m.event 2 (memberBody x x.state c.1 c.2)) m

/-- End the running commit with a status and the generation it leaves (R92, R96, R119, R570); `shown` are the counts of its final
reply. -/
def Mod.closeRun (m : Mod) (r : Running) (status : Nat) (gen : Word) (shown : List Nat) : Mod :=
  let pl := m.plan r.planId
  let members := m.engine.members.filterMap (m.settleMember r (if r.engine then none else pl) gen)
  let l := { r.record with gen := gen, complete := m.tick.count }
  let counts := r.counts
  let m' := { m with engine := { m.engine with
    gen := gen, members := members, run := none, fired := [], retryQ := [] } }
  let m' := m'.reportBroken r m.engine.members
  if r.engine then m'.journalInternal 2 status 0 (some l)
  else
    let dur := sat 0xFF (m.tick.now - r.launch + 1)
    let o : Outcome :=
      { planId := r.planId, n := r.n, w := r.w, n2 := r.n2, w2 := r.w2, launched := l, counts := counts
        list := match pl with | some p => r.list p m.engine.members | none => [], gen := gen, serial := m.engine.completed }
    let m' := m'.dropPlan r.planId
    let m' := { m' with
      engine := { m'.engine with
        outcomes := (m'.engine.outcomes.filter fun (q : Outcome) => decide (m.engine.completed < q.serial + 256)) ++ [o]
        completed := m.engine.completed + 1, lastTicks := dur, peakTicks := m'.engine.peakTicks.put dur }
      recs := if gen = m.engine.gen then m'.recs else { m'.recs with csGen := gen, csKinds := lineKinds members } }
    let m' := (m'.journalInternal 2 status r.planId (some l)).fire 3
    m'.finalTo (match pl with | some p => p.commitW | none => none) status (commitFinal status plain l shown)

/-- The status of a commit that ran to its end (R119): E_DEGRADED_DONE where a circuit was NOT_MADE, NOT_CLEARED or
repaired, or an element stuck. -/
def Running.status (r : Running) : Nat :=
  if r.items.any (fun i => i.outcome.isSome || i.repaired) || decide (0 < r.stuck) then eDEGRADED else stOK

/-- The commit may complete (R115). -/
def Mod.completable (m : Mod) : Bool :=
  m.engineUp && match m.engine.run with
    | some r => r.ending.isNone && r.checked && !r.moreStages && m.stageSettled r && r.settled.isSome
    | none => false

/-- COMMIT_COMPLETE (R115, R119): in the Commit step, once the engine has taken its step. -/
def execCommitComplete (s : State) : Host.Outcome State Fault Refusal :=
  happens (fun m => m.inPhase .commit && !m.tick.commitLate && m.completable) (fun m => match m.engine.run with
    | some r => m.closeRun r r.status (if r.engine then m.engine.gen else m.engine.gen + 1) r.counts
    | none => m) s

/-! ### Commits that end before completing (R122, R570) -/

/-- What each circuit has become when nothing more will fire. -/
def Mod.endItem (m : Mod) (i : Item) : Item :=
  let there := m.inPlace i
  let p : Progress := match i.prog with
    | .waiting =>
      if i.done.isEmpty then .unchanged else if i.change = .remove then .cleared else .notMade
    | .fired _ =>
      if i.change = .remove then
        (if i.clears.any fun e => m.undriven e.brick && !isMiddleTile (tileOfBrick e.brick) then .notCleared else .cleared)
      else if there then .made m.tick.now else .notMade
    | .placed _ => .made m.tick.now
    | q => q
  { i with prog := p }

/-- The final status of a commit that was ended. -/
def EndWhy.status : EndWhy → Nat
  | .abort => eCONFLICT
  | .safeHold => eSAFETY
  | _ => eINTEGRITY

/-- What a circuit has become as far as it has been read back: one whose moves have not is in none of the counts. -/
def Mod.endSeen (m : Mod) (i : Item) : Item :=
  match i.prog with
  | .fired _ => if m.allRead i then m.endItem i else i
  | _ => m.endItem i

/-- End the running commit now: its final counts what has been read back, and the outcome that is kept is that of the boot readback
(R570). -/
def Mod.endNow (m : Mod) (why : EndWhy) : Mod :=
  match m.engine.run with
  | none => m
  | some r =>
    let p := dropWaiting m r
    let r := { p.2 with items := p.2.items.map p.1.endItem, batchMoves := [], batchRetry := [] }
    p.1.closeRun r why.status (if r.engine || !r.begun then m.engine.gen else m.engine.gen + 2)
      ({ p.2 with items := p.2.items.map p.1.endSeen }).counts

/-- The readback that a commit's end waits for is complete (R570). -/
def Mod.endReady (m : Mod) : Bool :=
  match m.engine.run with
  | some r =>
    r.ending.isSome && m.engine.fired.isEmpty && (r.items.all fun i => i.prog != .waiting) &&
      (r.ending == some .safeHold || (m.engine.retryQ.isEmpty && r.batchMoves.isEmpty && r.batchRetry.isEmpty))
  | none => false

/-- COMMIT_END (R570). -/
def execCommitEnd (s : State) : Host.Outcome State Fault Refusal :=
  happens (fun m => m.inPhase .commit && !m.tick.commitLate && m.running && m.endReady) (fun m => match m.engine.run.bind Running.ending with
    | some why => m.endNow why
    | none => m) s

/-- Queued commits end and their plans return to STAGED (R124, R128). -/
def Mod.dropQueue (m : Mod) (status : Nat) : Mod :=
  (m.engine.queue.filterMap m.plan).foldl (fun m p => m.unlaunch p status plain) m

/-- The running commit will end, and its prepared batch does not fire. SAFE_HOLD comes before an earlier reason (R45, R46). -/
def Mod.stopRun (m : Mod) (why : EndWhy) : Mod :=
  match m.engine.run with
  | none => m
  | some r =>
    let unfired (i : Item) : Bool := (i.clears ++ i.sets).any fun e => r.batchMoves.any fun p => p.1 == e
    let items := r.items.map fun i =>
      if unfired i then
        { i with prog := .waiting, done := i.done.filter fun e => !(r.batchMoves.any fun p => p.1 == e) }
      else i
    let r := { r with
      items := items, batchMoves := [], batchRetry := []
      ending := some (if why = .safeHold then .safeHold else r.ending.getD why) }
    let p := dropWaiting { m with engine := { m.engine with retryQ := [] } } r
    p.1.setRun { p.2 with items := p.2.items.map fun i => if i.prog = .waiting then m.endItem i else i }

/-- SAFE_HOLD at a boundary (R45, R124): a prepared batch does not fire, queued commits end, the running one will. -/
def Mod.holdEngine (m : Mod) : Mod := (m.dropQueue eSAFETY).stopRun .safeHold

/-! ### Engine commits (R77, R82, R125) -/

/-- A spare of a plane that can newly stand in: neither lost nor standing in (R77). Whether a spare that still carries circuits from
HOT can stand in after a change to RESERVE is not stated; the model lets it (DESIGN CHOICE, log 93). -/
def Mod.freeSpare (m : Mod) (p : Nat) : Option Nat :=
  [32, 33].find? fun k => !m.middleLost p k && !(m.fabric.standIn.any fun t => t.1 == p && t.2.1 == k)

/-- A lost middle of a plane has a stand-in that is not itself lost. -/
def Mod.hasStandIn (m : Mod) (p k : Nat) : Bool :=
  m.fabric.standIn.any fun t => t.1 == p && t.2.2 == k && !m.middleLost p t.2.1

/-- A middle brick carries a circuit. -/
def Mod.carries (m : Mod) (p k : Nat) : Bool := m.engine.members.any fun x => x.circ.plane == p && x.middle == some k

/-- An orphan holds a middle brick: it lies on it, or on its rail of an outer brick (R77, R118). -/
def Mod.orphanOn (m : Mod) (p k : Nat) : Bool :=
  m.orphans.any fun e => e.brick == brickNo p (17 + k) ||
    (planeOfBrick e.brick == p && !isMiddleTile (tileOfBrick e.brick) && e.rail == k)

/-- Stand-ins as they should be (R77): one that carries no circuit and no orphan and whose brick is back returns to the reserve; one
that is lost gives way to the other spare, and is remembered as long as it carries circuits; a lost middle without one gets a free
spare. -/
def Mod.refreshStandIns (m : Mod) : Mod :=
  let kept := m.fabric.standIn.filter fun t =>
    if m.middleLost t.1 t.2.1 then m.carries t.1 t.2.1
    else m.middleLost t.1 t.2.2 || m.carries t.1 t.2.1 || m.orphanOn t.1 t.2.1
  let m := { m with fabric := { m.fabric with standIn := kept } }
  (m.variant.planeList.filter m.reserve).foldl (fun m p =>
    ((List.range 32).filter fun k => m.middleLost p k && !m.hasStandIn p k).foldl (fun m k =>
      match m.freeSpare p with
      | some s => { m with fabric := { m.fabric with standIn := m.fabric.standIn ++ [(p, s, k)] } }
      | none => m) m) m

/-- A member that an engine commit moves: its middle is lost, or an element of its path is stuck in the wrong state; and its
outer elements can move (R77, R82, R83). -/
def Mod.needsMove (m : Mod) (x : Context) : Bool :=
  match x.middle with
  | some k =>
    (m.middleLost x.circ.plane k || (x.circ.elems k).any fun e => m.fabric.stuck.any fun p => p.1 == e && !p.2) &&
      !((x.circ.outer k).any fun e => !m.brickOk e.brick)
  | none => false

/-- A member as engine routing sees it: PINNED members and those fixed by an UNDRIVEN outer brick are not moved for others. -/
def Mod.engineRouted (m : Mod) (x : Context) : Option Routed :=
  x.middle.map fun k =>
    { circ := x.circ, mid := k
      level := if (x.circ.outer k).any fun e => m.undriven e.brick then 3 else if x.pinned then 2 else 1 }

/-- The brick whose circuits run through a middle: the one that a spare stands in for, else itself. -/
def Mod.stoodFor (m : Mod) (p k : Nat) : Nat :=
  match m.fabric.standIn.find? fun (t : Nat × Nat × Nat) => t.1 == p && t.2.1 == k with
  | some t => t.2.2
  | none => k

/-- The stand-in in service for a brick. -/
def Mod.spareFor (m : Mod) (p k : Nat) : Option Nat :=
  (m.fabric.standIn.find? fun (t : Nat × Nat × Nat) => t.1 == p && t.2.2 == k && !m.middleLost p t.2.1).map fun t => t.2.1

/-- New middles for the members that need one, with the moves of others that R76 allows. -/
def Mod.engineRoutes (m : Mod) (prefer : List Nat) : List (Circuit × Nat) :=
  let need := m.engine.members.filter m.needsMove
  let rest := (m.engine.members.filter fun x => !m.needsMove x).filterMap m.engineRouted
  let orph := m.orphans
  let out := need.foldl (fun rs x =>
    let spare := x.middle.bind fun k => m.spareFor x.circ.plane (m.stoodFor x.circ.plane k)
    match m.routeOne (spare.toList ++ prefer) orph 1 [] rs x.circ with
    | some rs => rs
    | none => rs) rest
  out.filterMap fun x =>
    match m.member x.circ with
    | some c => if c.middle = some x.mid then none else some (x.circ, x.mid)
    | none => none

/-- Orphans that can be cleared now. -/
def Mod.clearable (m : Mod) : List Elem := m.orphans.filter fun e => !m.undriven e.brick && !m.inFlight e

/-- The engine may start a commit of its own: between host commits, while none is eligible (R125). -/
def Mod.engineMay (m : Mod) : Bool :=
  m.activeIn [.ready, .degraded] && m.engineUp && m.engine.run.isNone && !m.launchable

/-- What an engine commit would do. -/
def Mod.engineWork (m : Mod) (prefer : List Nat) : Mod × List (Circuit × Nat) :=
  let m := m.refreshStandIns
  (m, m.engineRoutes prefer)

/-- Orphans that an engine commit clears: with no host commit queued, or where their sill has been away (R83, R125). -/
def Mod.engineOrphans (m : Mod) : List Elem :=
  if m.engine.queue.isEmpty then m.clearable else m.clearable.filter m.fabric.owed.contains

/-- Start an engine commit (R125); the coming Commit step prepares its first batch. MOVED tells of the last commit, and is cleared
(R94). -/
def Mod.startEngine (m : Mod) (prefer : List Nat) : Mod :=
  let p := m.engineWork prefer
  let m := p.1
  let items := p.2.filterMap fun q =>
    (m.member q.1).map fun x =>
      let new := q.1.elems q.2
      { newItem .move q.1
          (x.path.filter fun e => !new.contains e && m.fabric.set.contains e && !m.isStuck e && !m.undriven e.brick)
          (new.filter fun e => !m.fabric.set.contains e) [] [] (some q.2) with was := x.state }
  let l : LaunchRec :=
    { planId := 0, gen := m.engine.gen, tick := m.tick.count, req := none, time := m.fabricNow, complete := 0, flags := 0 }
  let r : Running :=
    { engine := true, planId := 0, launch := m.tick.now, record := l, items := markSplits m.fabric.budget items, stage := 1
      n := 0, w := 0, n2 := 0, w2 := 0, batchMoves := [], batchRetry := [], ending := none, stuck := 0
      lastFire := 0, settled := none, verified := false, begun := false, orph := m.engineOrphans, budget := m.fabric.budget
      avail := m.middlesNow, sent := 0 }
  { m with engine := { m.engine with
      members := m.engine.members.map fun (x : Context) => { x with moved := false }, run := some r } }

/-- ENGINE_COMMIT (R125). -/
def execEngineCommit (prefer : List Nat) (s : State) : Host.Outcome State Fault Refusal :=
  atEdge (fun m => m.engineMay && (!(m.engineWork prefer).2.isEmpty || !m.engineOrphans.isEmpty))
    (fun m => m.startEngine prefer) s

/-! ### Rebuilding the committed set (R129) -/

/-- The complete paths of the element map, as circuits and middles. -/
def completePaths (set : List Elem) (kinds : List (Nat × Nat)) : List (Circuit × Nat) :=
  (set.filter fun e => decide (tileOfBrick e.brick < 17)).flatMap fun e =>
    let p := planeOfBrick e.brick
    let k := e.rail
    let src := 32 * tileOfBrick e.brick + e.line
    (set.filter fun f => f.brick == brickNo p (17 + k) && f.line == tileOfBrick e.brick).flatMap fun f =>
      (set.filter fun g => g.brick == brickNo p (51 + f.rail) && g.rail == k).filterMap fun g =>
        let dst := 32 * f.rail + g.line
        let kind : Kind := if p ≠ 0 then .lane else if aget 0 kinds src = 2 then .lane0 else .port
        if src < 512 ∧ dst < 512 then some ({ kind := kind, src := src, dst := dst, lane := p }, k) else none

/-- After loss of VIN54 the committed set is rebuilt from the readback; lane circuits are LOST, and COMMIT_GEN is the
Cornerstone's value plus 2. R129 leaves open the STATE, PINNED, LIT and MON_POWER of a rebuilt port or lane 0 circuit: the model
makes it ACTIVE, with PINNED and LIT clear and MON_POWER not measured (DESIGN CHOICE, log 94). -/
def Mod.rebuild (m : Mod) : Mod :=
  let paths := completePaths m.fabric.set m.recs.csKinds
  let gen := m.recs.csGen + 2
  let members := (paths.zip (List.range paths.length)).map fun p =>
    ({ circ := p.1.1, state := if p.1.1.kind = .lane then .lost else .active, middle := some p.1.2, pinned := false
       override := false, lit := false, moved := false, recovered := true, planId := 0, gen := gen, jobTag := 0
       monPower := none, ctx := p.2 } : Context)
  { m with engine := { m.engine with members := members, gen := gen } }

end Sys2Proof.Machine
end

