-- ==== Sys2Proof/Machine/Kf16.lean ====
section
/-! DEFINITION. The KF16 number format (R239): its value, and the nearest KF16 of an exact number. -/

namespace Sys2Proof.Machine

/-- The value of a KF16 word; 0x8000 reads as zero. -/
def kfVal (w : BitVec 16) : Rat :=
  let n := w.toNat
  let e := bits n 14 9
  let f := bits n 8 0
  let mag : Rat := if e = 0 then (f : Rat) * pow2 (-39) else (1 + (f : Rat) / 512) * pow2 ((e : Int) - 31)
  if w.getLsbD 15 then -mag else mag

/-- The largest magnitude. -/
def kfMax : Rat := (2 - 1 / 512) * pow2 32

/-- The exponent of a positive exact number: the greatest `e` with 2^e ≤ x. -/
def floorLog2 (x : Rat) : Int :=
  let l : Int := (Nat.log2 x.num.toNat : Int) - (Nat.log2 x.den : Int)
  if x < pow2 l then l - 1 else l

/-- Round the quotient to an integer: nearest-even, or up by a random bit where the rounding is stochastic (R243). -/
def roundBy (up : Option Bool) (x : Rat) : Int :=
  match up with
  | none => roundNE x
  | some b => if x = x.floor then x.floor else if b then x.floor + 1 else x.floor

/-- The KF16 nearest to an exact number, and whether it saturated. -/
def kfRound (up : Option Bool) (x : Rat) : BitVec 16 × Bool :=
  let a : Rat := if x < 0 then -x else x
  let sign : Nat := if x < 0 then 0x8000 else 0
  if a = 0 then (0, false)
  else
    let code : Nat :=
      if a < pow2 (-30) then (roundBy up (a * pow2 39)).toNat
      else
        let e := floorLog2 a
        ((e + 31) * 512 + (roundBy up (a / pow2 e * 512) - 512)).toNat
    if 0x8000 ≤ code then (BitVec.ofNat 16 (sign + 0x7FFF), true)
    else if code = 0 then (0, false)
    else (BitVec.ofNat 16 (sign + code), false)

def kfOf (x : Rat) : BitVec 16 × Bool := kfRound none x

end Sys2Proof.Machine
end

