-- ==== Sys2Proof/Machine/Trowel.lean ====
section
/-! DEFINITION. Trowel (R182 – R220): stage formats, parameters, the control law, ramps and window states, plausibility, gain
swaps, the trace, and the Compute phase; the loop and trace commands and the feed-forward events. -/

namespace Sys2Proof.Machine

/-! ### Stage formats (R194 – R196) -/

/-- Table 2: the stage exponents at reset, in the order SENSE (OUT), ERROR (IN), P, I, OUTPUT. -/
def defaultExps (g : Nat) : List Int :=
  if g < 238 then [-6, -6, -13, -12, -11]
  else if g < 255 then [-8, -8]
  else if g = 255 then [-11, -11, -7, -7, -7] else [-9, -9, -6, -6, -5]

def Mod.exps (m : Mod) (g : Nat) : List Int := aget (defaultExps g) m.trowel.exps g

/-- The five stages. -/
def stSense : Nat := 0
def stError : Nat := 1
def stP : Nat := 2
def stI : Nat := 3
def stOut : Nat := 4

def Mod.expOf (m : Mod) (k stage : Nat) : Int := lget 0 (m.exps (groupOf k)) stage

/-- Round an exact value to a stage and clamp it: the mantissa, and whether it was clamped. -/
def quant (e : Int) (x : Rat) : Int × Bool :=
  let v := roundNE (x / pow2 e)
  (clampI (-32768) 32767 v, decide (v < -32768) || decide (32767 < v))

/-- The value of a mantissa. -/
def valOf (e : Int) (mant : Int) : Rat := (mant : Rat) * pow2 e

/-- A value in the class unit × 2^16. -/
def unitOf (x : Int) : Rat := (x : Rat) / 65536

/-! ### Parameters (R200, R229 – R231) -/

/-- Codes 5 – 7 and 23 – 31 are reserved. -/
def paramCode (code : Nat) : Bool := decide (code < 5) || (decide (8 ≤ code) && decide (code ≤ 22))

/-- Per-set parameters. -/
def perSet (code : Nat) : Bool := decide (code < 5)

/-- The key of a parameter: class, set (0 for a per-class one), code. -/
def paramKey (cls set code : Nat) : Nat := (cls * 16 + (if perSet code then set else 0)) * 32 + code

/-- Table 3: the reset value of a parameter; class 0 window, 2 bias, 3 temperature. -/
def tableParam (cls code : Nat) : Rat :=
  let pick (w b t : Rat) : Rat := if cls = 0 then w else if cls = 2 then b else t
  match code with
  | 0 => pick (2 / 1000) 8 300
  | 1 => pick (12 / 10000) 2 2
  | 2 => pick 0 0 1500
  | 3 => pick 1 1 (1 / 4)
  | 4 => pick 1 0 0
  | 8 => pick (7 / 2) 40 200
  | 9 => pick 6 70 400
  | 10 => pick 9 100 600
  | 11 => pick 50 35 35
  | 12 => pick 57 45 45
  | 13 => pick 64 55 55
  | 14 => pick (1 / 10) 2 10
  | 15 => 1 / 2
  | 16 => pick 50 (5 / 100) (5 / 100)
  | 17 => pick 200 (5 / 100) (5 / 100)
  | 18 => pick 0 0 (-800)
  | 19 => pick 12 120 800
  | 20 => pick 6 (3 / 10) (1 / 2)
  | 21 => pick (7 / 10) 1 (5 / 100)
  | 22 => pick 0 (1 / 4) (2 / 100)
  | _ => 0

/-- A value at the smallest exponent at which its rounded mantissa fits; 0 as mantissa 0 at exponent −32 (R230). -/
def asParam (x : Rat) : Param :=
  if x = 0 then { mant := 0, exp := -32 }
  else
    match ((List.range 64).map fun (k : Nat) => (k : Int) - 32).find? fun e => !(quant e x).2 with
    | some e => { mant := (quant e x).1, exp := e }
    | none => { mant := (quant 31 x).1, exp := 31 }

/-- A parameter before anything wrote it: the Table 3 value, or after BOOT the calibrated set that firmware loaded. -/
def Mod.bootParam (m : Mod) (cls set code : Nat) : Param :=
  if m.trowel.calibrated && perSet code then
    let c := Config.calibratedParam cls set code
    { mant := clampI (-32768) 32767 c.1, exp := clampI (-32) 31 c.2 }
  else asParam (tableParam cls code)

def Mod.param (m : Mod) (l : List (Nat × Param)) (cls set code : Nat) : Param :=
  aget (m.bootParam cls set code) l (paramKey cls set code)

/-- The value of a parameter in use. -/
def Mod.pval (m : Mod) (cls set code : Nat) : Rat :=
  let p := m.param m.trowel.params cls set code
  valOf p.exp p.mant

/-- The value of a parameter word. -/
def Param.val (p : Param) : Rat := valOf p.exp p.mant

/-- The coefficients in use for a gain set of a loop's class (R199). -/
def Mod.coefOf (m : Mod) (cls set : Nat) : Coef :=
  { kp := m.param m.trowel.params cls set 0, kd := m.param m.trowel.params cls set 2, df := m.param m.trowel.params cls set 3 }

/-! ### Tables (R191, R320, R321) -/

/-- Interpolate a table of `n` rows from `t0` °C in steps of 5 °C at a temperature in 1/16 °C; end values outside. -/
def interp (t0 n : Nat) (f : Nat → Rat) (t : Int) : Rat :=
  let x := t - 16 * t0
  if x ≤ 0 then f 0
  else
    let k := (x / 80).toNat
    if n ≤ k + 1 then f (n - 1)
    else f k + (f (k + 1) - f k) * ((x - 80 * k : Int) : Rat) / 80

/-- Tile temperature of a window, 1/16 °C. -/
def Mod.tileTemp (m : Mod) (tile : Nat) : Int := aget 0 m.fabric.tileTemp tile

/-- TRIM of a window, 0.2 µW units. -/
def Mod.trim (m : Mod) (w : Nat) : Int := aget 0 m.cal.trim w

/-- 0.2 µW in mW. -/
def hUnit : Rat := 2 / 10000

def hPark0 (w : Nat) (t : Int) : Rat := interp 40 8 (fun k => (Config.hPark0 w k : Rat)) t * hUnit
def hLock0 (w : Nat) (t : Int) : Rat := interp 40 8 (fun k => (Config.hLock0 w k : Rat)) t * hUnit

/-- H_park(T) and H_lock(T) in mW. -/
def Mod.hPark (m : Mod) (w : Nat) (t : Int) : Rat := hPark0 w t + (m.trim w : Rat) * hUnit
def Mod.hLock (m : Mod) (w : Nat) (t : Int) : Rat := hLock0 w t + (m.trim w : Rat) * hUnit

/-- LANE_EQ(T) in mW. -/
def laneEq (w : Nat) (t : Int) : Rat := 2 * (hLock0 w t - hPark0 w t)

/-- A row value of a laser: what calibration measured, or the manufacture value; 0 I_TH, 1 SLOPE, 2 COOL. -/
def Mod.laserRow (m : Mod) (laser kind row : Nat) : Rat :=
  match m.cal.taps.find? fun t => t.1 == (5, laser, row) with
  | some t => ((if kind = 0 then t.2.1 else if kind = 1 then t.2.2.1 else t.2.2.2 : Int) : Rat)
  | none =>
    if kind = 0 then (Config.laserITh laser row : Rat)
    else if kind = 1 then (Config.laserSlope laser row : Rat) else (Config.laserCool laser row : Rat)

/-- The table feed-forward of R191 at a ramp value `r` in the class unit. -/
def Mod.tableFf (m : Mod) (k : Nat) (r : Rat) : Rat :=
  match loopClass k with
  | some .window =>
    let t := m.tileTemp (tileOfWindow k)
    m.hPark k t + r / 400 * (m.hLock k t - m.hPark k t)
  | some .bias =>
    let l := laserOfLoop k
    let row (kind : Nat) : Rat := interp 15 10 (m.laserRow l kind) m.trowel.bankTemp
    row 0 / 100 + row 1 / 100 * r
  | some .temp =>
    let l := laserOfLoop k
    interp 15 10 (m.laserRow l 2) m.trowel.bankTemp / 10 +
      (Config.laserCoolSlope l : Rat) / 10 * (r - (Config.laserNominalT l : Rat) / 16)
  | _ => 0

/-- The temperature of a loop in °C (R190). -/
def Mod.loopTemp (m : Mod) (k : Nat) : Rat :=
  ((if k < 7616 then m.tileTemp (tileOfWindow k) else m.trowel.bankTemp : Int) : Rat) / 16

/-- The Mortar term M of a window in mW, faded as R188 says; 0 for other loops. -/
def Mod.mortarTerm (m : Mod) (k : Nat) : Rat :=
  if k < 7616 then kfVal (aget 0 m.trowel.pred k) * (m.trowel.ffScale : Rat) / 100 else 0

/-! ### The law of one evaluation (R190 – R199) -/

/-- Sticky flag bits of LOOP_STATUS (R225). -/
def bXfer : Nat := 1
def bImpl : Nat := 8

/-- The sticky bit of a stage: SENSE 2, ERROR 3, P 4, I 5, OUTPUT 6. -/
def bStage (st : Nat) : Nat := st + 2

/-- The result of evaluating one loop: the loop and the stages that saturated. -/
structure Eval where
  loop : Loop
  sats : List Nat
deriving DecidableEq, Repr

def Loop.stick (l : Loop) (b : Nat) : Loop := { l with sticky := l.sticky.put (wbit b) }

/-- Mark saturated stages. -/
def Loop.stickSats (l : Loop) (sats : List Nat) : Loop := sats.foldl (fun l s => l.stick (bStage s)) l

/-- The mismatch of the first-order model (R211) in the class unit, and the new c × 2^32. At the first evaluation there is no
previous one: no mismatch is taken, and c starts at the offset that this evaluation shows (DESIGN CHOICE, log 46; c is kept to
2^−32). In hold c is frozen (R212). -/
def Mod.mismatch (m : Mod) (k cls : Nat) (l : Loop) (y : Rat) (held : Bool) : Option Rat × Int :=
  let es := m.expOf k stSense
  let eo := m.expOf k stOut
  let t := m.tileTemp (tileOfWindow k)
  let span := m.hLock k t - m.hPark k t
  let g : Rat := if cls = 0 then 400 / span else m.pval cls l.set 22
  let drive := g * (valOf eo l.u - unitOf l.mPrev)
  let yp := valOf es l.yPrev
  if !l.evaluated then (none, roundNE ((y - g * (valOf eo l.u)) * pow2 32))
  else
    let c0 := (l.c : Rat) / pow2 32
    let c := if held then c0 else c0 + (1 / 1024) * ((yp - drive) - c0)
    let pred := yp + m.pval cls l.set 21 * (c + drive - yp)
    let d := y - pred
    (some (if d < 0 then -d else d), if held then l.c else roundNE (c * pow2 32))

/-- The tolerance of R212. -/
def Mod.plausTol (m : Mod) (cls : Nat) : Rat :=
  m.pval cls 0 20 * (if cls = 0 && m.trowel.ffState != 0 then 2 else 1)

/-- step_ramp (R207): the ramp moves toward the target by at most a slew step. -/
def rampStep (target r up dn : Rat) : Rat :=
  if r < target then (if target < r + up then target else r + up)
  else if target < r then (if r - dn < target then target else r - dn) else r

/-- A band: it rises past every threshold exceeded; it falls to the highest whose threshold less the hysteresis is exceeded
(R198). -/
def band (cur : Nat) (th : List Rat) (hyst x : Rat) : Nat :=
  let up := (th.filter fun t => decide (t < x)).length
  if cur < up then up
  else if cur = 0 then 0
  else if x < lget 0 th (cur - 1) - hyst then (th.filter fun t => decide (t - hyst < x)).length
  else cur

/-- The band set of R198 from the output and the temperature. -/
def Mod.bandSet (m : Mod) (k cls : Nat) (l : Loop) (u : Rat) : Nat :=
  let au := if u < 0 then -u else u
  let p (c : Nat) : Rat := m.pval cls 0 c
  4 * band (l.set / 4) [p 8, p 9, p 10] (p 14) au + band (l.set % 4) [p 11, p 12, p 13] (p 15) (m.loopTemp k)

/-- The window state of R208 from this reading; `settled` says that r is at the target. Two readings out of band end LOCKED; one
ends PARKED. -/
def windowNow (l : Loop) (y : Rat) (settled : Bool) : Loop :=
  let lock := l.target == lockTarget
  let park := l.target == 0
  let d := if lock then y - 400 else y
  let ad := if d < 0 then -d else d
  let hit := (lock && decide (ad ≤ 3 / 2)) || (park && decide (ad ≤ 10))
  let ib := if hit then l.inBand + 1 else 0
  let ob := if hit then 0 else l.offBand + 1
  let st : WState :=
    if settled && (lock || park) && decide (2 ≤ ib) then (if lock then .locked else .parked)
    else if l.wstate == .locked && lock && settled && decide (ob < 2) then .locked
    else .tuning
  { l with inBand := ib, offBand := ob, wstate := st }

/-- Class codes of parameters: 0, 2, 3. -/
def paramClass (k : Nat) : Nat :=
  match loopClass k with
  | some c => c.code
  | none => 0

/-- A loop with the gain set that its bands give it; a changed set is a swap of the loop's coefficients (R198). -/
def Mod.reBand (m : Mod) (k cls : Nat) (l : Loop) : Loop :=
  let set := m.bandSet k cls l (valOf (m.expOf k stOut) l.u)
  if set = l.set then l else { l with set := set, swap := some (l.swap.getD (m.coefOf cls l.set)) }

/-- Evaluate one loop in automatic mode (R190), its ramp, its preset (R204) and its swap (R199). -/
def Mod.evalAuto (m : Mod) (k : Nat) (l : Loop) (y : Int) (ySat : Bool) : Eval :=
  let cls := paramClass k
  let es := m.expOf k stSense
  let ee := m.expOf k stError
  let ep := m.expOf k stP
  let ei := m.expOf k stI
  let eo := m.expOf k stOut
  let yv := valOf es y
  let start := if l.preset then y else l.r
  let rq := quant es (rampStep (unitOf l.target) (valOf es start) (m.pval cls 0 16) (m.pval cls 0 17))
  let moved := rq.1 != start
  let eq := quant ee (valOf es rq.1 - yv)
  let ev := valOf ee eq.1
  let yf0 := if l.preset then yv else valOf es l.yf
  let law (c : Coef) : (Int × Bool) × (Int × Bool) × (Int × Bool) :=
    let yf := quant es (yf0 + c.df.val * (yv - yf0))
    (quant ep (c.kp.val * ev), quant eo (-(c.kd.val * (valOf es yf.1 - yf0))), yf)
  let new := law (m.coefOf cls l.set)
  let pq := new.1
  let dq := new.2.1
  let mt := m.mortarTerm k
  let fq := quant eo (m.tableFf k (valOf es rq.1) + m.pval cls l.set 4 * mt)
  let pdf := valOf ep pq.1 + valOf eo dq.1 + valOf eo fq.1
  let uPrev := valOf eo l.u
  let iq : Int × Bool :=
    if l.preset then quant ei (uPrev - pdf)
    else match l.swap with
      | some old =>
        if l.outLim ∨ l.iSat then quant ei (uPrev - pdf)
        else
          let o := law old
          quant ei (valOf ei l.i + (valOf ep o.1.1 - valOf ep pq.1) + (valOf eo o.2.1.1 - valOf eo dq.1))
      | none => (l.i, false)
  let ki := m.pval cls l.set 1
  let cand := if moved ∨ l.preset then iq else quant ei (valOf ei iq.1 + ki * ev)
  let vq := quant eo (pdf + valOf ei cand.1)
  let v := valOf eo vq.1
  let hi := m.pval cls 0 19
  let lo := m.pval cls 0 18
  let uq := quant eo (if hi < v then hi else if v < lo then lo else v)
  let blocked := (decide (hi < v) && decide (0 < ki * ev)) || (decide (v < lo) && decide (ki * ev < 0))
  let i1 := if blocked then iq.1 else cand.1
  let sats := (if ySat ∨ rq.2 ∨ new.2.2.2 then [stSense] else []) ++ (if eq.2 then [stError] else []) ++
    (if pq.2 then [stP] else []) ++ (if cand.2 ∨ iq.2 then [stI] else []) ++
    (if vq.2 ∨ uq.2 ∨ dq.2 ∨ fq.2 then [stOut] else [])
  let step := l.preset && iq.2
  let l' : Loop := { l with
    r := rq.1, ramping := moved, y := y, yf := new.2.2.1, p := pq.1, d := dq.1, ff := fq.1, i := i1, u := uq.1
    uPrev := l.u, outLim := decide (hi < v) || decide (v < lo), iSat := cand.2 || iq.2, preset := false, swap := none }
  let l' := if step then l'.stick bXfer else l'
  let l' := if k < 7616 then windowNow l' yv (rq.1 == (quant es (unitOf l.target)).1) else l'
  let l' := m.reBand k cls l'
  let run := decide (k < 7616) && l'.wstate == .locked && !moved
  let dsum := roundNE ((valOf eo uq.1 - m.pval cls l.set 4 * mt) * 65536)
  let l' := { l' with
    lockRun := if run then (if 64 ≤ l.lockRun then 1 else l.lockRun + 1) else 0
    dSum := if run then (if 64 ≤ l.lockRun then dsum else l.dSum + dsum) else 0 }
  { loop := l'.stickSats sats, sats := sats }

/-- An evaluation that leaves the output where it is, inside the class limits (R193, R201). -/
def Mod.evalStay (m : Mod) (k : Nat) (l : Loop) (y : Int × Bool) : Eval :=
  let cls := paramClass k
  let eo := m.expOf k stOut
  let u := valOf eo l.u
  let u' := if m.pval cls 0 19 < u then (quant eo (m.pval cls 0 19)).1
    else if u < m.pval cls 0 18 then (quant eo (m.pval cls 0 18)).1 else l.u
  let sats := if y.2 then [stSense] else []
  { loop := (m.reBand k cls { l with y := y.1, u := u', uPrev := l.u, ramping := false, outLim := false, iSat := false }).stickSats
      sats
    sats := sats }

/-- A window that waits for its start out of hold, manual mode or COLD (R210). -/
def Mod.waitsStart (m : Mod) (k : Nat) : Bool := (m.loop k).preset && m.trowel.starts.any fun s => s.window == k

/-- What a window's resistance reading shows once its optical trim and its whole-lane correction are added (R184), in GHz × 2^16.
What a TRIM of 0.2 µW units is worth in GHz is not stated: a free function of the window and its TRIM (DESIGN CHOICE, log 85). -/
def Mod.position (m : Mod) (k : Nat) (raw : Int) : Int :=
  if k < 7616 then
    raw + (if m.trim k = 0 then 0 else Config.opticalTrim k (m.trim k)) + aget 0 m.cal.laneShift k * (800 * 65536)
  else raw

/-- The signature sweep under way at a window. -/
def Mod.sweepAt (m : Mod) (k : Nat) : Option Signature := if k < 7616 then m.cal.sweeps.find? fun x => x.window == k else none

/-- The heater goes 0.5 mW further down, not below OUT_MIN (R328). -/
def Mod.evalSweep (m : Mod) (k : Nat) (l : Loop) (x : Signature) (y : Int × Bool) : Eval :=
  let eo := m.expOf k stOut
  let u := (x.top : Rat) / 65536 - ((x.steps + 1 : Nat) : Rat) / 2
  let e := m.evalStay k l y
  { e with loop := { e.loop with u := (quant eo (max u (m.pval (paramClass k) 0 18))).1 } }

/-- The step of a sweep whose window was evaluated: the reading so far belongs to the depth before. -/
def Mod.sweepStep (m : Mod) (k : Nat) : Mod :=
  if (m.sweepAt k).isNone || m.inHold k then m
  else { m with cal := { m.cal with sweeps := m.cal.sweeps.map fun x =>
      if x.window = k then { x with steps := x.steps + 1, seen := x.seen ++ [x.now] } else x } }

/-- A laser without power (R332): failed or absent, or retired with its set-point at 0. -/
def Mod.laserOff (m : Mod) (k : Nat) : Bool :=
  decide (0x3000 ≤ k) &&
    (let j := laserOfLoop k
     let b := m.loop (0x3000 + j)
     match (m.laser j).role with
     | 0 => false
     | 1 => false
     | 2 => false
     | 3 => b.target != 0 || b.r == 0
     | _ => true)

/-- Evaluate one loop that has an output: sensing, plausibility and, in automatic mode, the law (R190, R201, R211 – R215). -/
def Mod.evalLoop (m : Mod) (k : Nat) (raw : Int) : Eval :=
  let l := m.loop k
  let cls := paramClass k
  let yq := quant (m.expOf k stSense) (unitOf (m.position k raw))
  let held := m.inHold k
  let mm := m.mismatch k cls l (valOf (m.expOf k stSense) yq.1) held
  let off := match mm.1 with
    | some d => decide (m.plausTol cls < d)
    | none => false
  let l := { l with
    raw := raw, c := mm.2
    mism := if held then 0 else if off then l.mism + 1 else 0
    calm := if l.causes.getLsbD 1 then (if off then 0 else l.calm + 1) else 0 }
  let tuning (e : Eval) : Eval :=
    { e with loop := { e.loop with
        preset := true, wstate := if l.wstate = .cold then .cold else .tuning, inBand := 0, offBand := 0, lockRun := 0 } }
  let e : Eval :=
    if m.laserOff k then tuning (m.evalStay k { l with u := 0 } yq)
    else if let (some x, false) := (m.sweepAt k, held) then tuning (m.evalSweep k l x yq)
    else if held || (decide (k < 7616) && (l.wstate == .cold || m.waitsStart k)) then tuning (m.evalStay k l yq)
    else match l.mode with
      | .manual => tuning (m.evalStay k l yq)
      | .auto => m.evalAuto k l yq.1 yq.2
  { e with loop := { e.loop with
      yPrev := yq.1, mPrev := roundNE (m.mortarTerm k * 65536), evaluated := true } }

/-- A filtered reading, in units × 2^16, after a new reading (R185); the first reading starts the filter. -/
def filtered (old : Option Int) (x : Int) : Int :=
  match old with
  | some f => f + roundNE (((x * 65536 - f : Int) : Rat) / 8)
  | none => x * 65536

/-- Evaluate one port monitor: the filtered readings and the two stage values of the single-tick ones (R185, R195). -/
def Mod.evalMonitor (m : Mod) (k : Nat) : Eval :=
  let l := m.loop k
  let e := m.exps (groupOf k)
  let qo := quant (lget 0 e 0) ((l.outTap : Rat) / 100)
  let qi := quant (lget 0 e 1) ((l.inTap : Rat) / 100)
  let sats := (if qo.2 then [stSense] else []) ++ (if qi.2 then [stError] else [])
  { loop := ({ l with
      inFilt := filtered (if l.evaluated then some l.inFilt else none) l.inTap
      outFilt := filtered (if l.evaluated then some l.outFilt else none) l.outTap
      y := qo.1, i := qi.1, evaluated := true }).stickSats sats
    sats := sats }

/-- The bit of STAGE_SAT for a class and stage (R227). -/
def stageSatBit (cls st : Nat) : Nat :=
  if cls = 0 then st else if cls = 1 then 5 + st else if cls = 2 then 10 + st else 15 + st

/-- Saturated stages of a loop enter the summary (R196). -/
def Mod.sumSats (m : Mod) (k : Nat) (sats : List Nat) : Mod :=
  { m with trowel := { m.trowel with
      stageSat := sats.foldl (fun s st => s.put (wbit (stageSatBit (paramClass k) st))) m.trowel.stageSat } }

/-! ### The trace (R216 – R220) -/

/-- The exponent and mantissa of a node. Stage codes 2 – 7 of a monitor, which has no such stage, read 0 at exponent 0 (DESIGN
CHOICE, log 86). -/
def Mod.nodeValue (m : Mod) (k stage : Nat) : Int × Int :=
  let l := m.loop k
  if loopClass k = some .monitor then
    let e := m.exps (groupOf k)
    if stage = 0 then (lget 0 e 0, l.y) else if stage = 1 then (lget 0 e 1, l.i) else (0, 0)
  else
    let es := m.expOf k stSense
    let eo := m.expOf k stOut
    match stage with
    | 0 => (es, l.y)
    | 1 =>
      (m.expOf k stError, (quant (m.expOf k stError) (valOf es l.r - valOf es l.y)).1)
    | 2 => (m.expOf k stP, l.p)
    | 3 => (m.expOf k stI, l.i)
    | 4 => (eo, l.d)
    | 5 => (eo, l.ff)
    | 6 => (eo, l.u)
    | _ => (es, l.r)

/-- The reported mode of a loop: 0 automatic, 1 manual, 2 hold. -/
def Mod.modeCode (m : Mod) (k : Nat) : Nat :=
  if loopClass k != some .monitor && m.inHold k then 2 else match (m.loop k).mode with
    | .auto => 0
    | .manual => 1

/-- One sample of a node (Table 8); `carried` are the groups not evaluated in this tick. -/
def Mod.sample (m : Mod) (carried : List Nat) (sats : List (Nat × List Nat)) (k stage : Nat) : Word :=
  let l := m.loop k
  let v := m.nodeValue k stage
  let valid := !carried.contains (groupOf k)
  at_ 27 (b2n valid) ||| at_ 26 (b2n (valid && l.ramping)) ||| at_ 24 (m.modeCode k) ||| at_ 23 (b2n (valid && l.outLim)) |||
    at_ 22 (b2n (!(aget [] sats k).isEmpty)) ||| at_ 16 ((v.1 % 64).toNat) ||| BitVec.ofNat 32 (wrapInt 2 v.2)

/-- What a flag trigger watches of a loop beside this tick's evaluation: IMPLAUSIBLE, the mode and the window state. -/
def Mod.traceFlags (m : Mod) (k : Nat) : Bool × Nat × Nat :=
  ((m.loop k).sticky.bits.getLsbD bImpl, m.modeCode k, if k < 7616 then (m.wstate k).code else 7)

/-- A flag trigger that compares with what the trigger last saw: FLAG_MASK [2] – [4]. -/
def Trace.flagHit (t : Trace) (now : Bool × Nat × Nat) : Bool :=
  match t.flags with
  | none => false
  | some was =>
    (t.flagMask.getLsbD 2 && now.1 && !was.1) || (t.flagMask.getLsbD 3 && now.2.1 != was.2.1) ||
      (t.flagMask.getLsbD 4 && now.2.2 != was.2.2)

/-- The trigger condition of this tick. -/
def Mod.traceHit (m : Mod) (t : Trace) (sats : List (Nat × List Nat)) (cur : Int) : Bool :=
  let k := (lget (0, 0) t.nodes t.trigNode).1
  let rise := match t.prev with
    | some p => decide (p < t.level) && decide (t.level ≤ cur)
    | none => false
  let fall := match t.prev with
    | some p => decide (t.level < p) && decide (cur ≤ t.level)
    | none => false
  match t.trigKind with
  | 0 => true
  | 1 => rise
  | 2 => fall
  | 3 => rise || fall
  | 4 =>
    (t.flagMask.getLsbD 0 && !(aget [] sats k).isEmpty) || (t.flagMask.getLsbD 1 && (m.loop k).outLim) ||
      t.flagHit (m.traceFlags k)
  | _ => m.engine.lastLaunch == m.tick.count && m.engine.run.any fun r => !r.engine

/-- An armed trace whose trigger comes in this tick, once PRE samples have been taken (R218). -/
def Trace.trip (t : Trace) (hit : Bool) (now : Nat) : Trace :=
  if t.state = .armed ∧ t.pre ≤ t.samples.length ∧ hit then { t with state := .triggered, trigTick := now } else t

/-- One tick of the active leaf's trace. Samples are taken at the ticks whose TICK_COUNT is a multiple of 2^DECIM: the spec
gives the spacing of the samples and not their phase (DESIGN CHOICE, log 86). -/
def Mod.traceStep (m : Mod) (carried : List Nat) (sats : List (Nat × List Nat)) : Mod :=
  match m.leaves.active with
  | none => m
  | some i =>
    let t := m.trowel.trace.get i
    if t.state ≠ .armed ∧ t.state ≠ .triggered then m
    else
      let node := lget (0, 0) t.nodes t.trigNode
      let v := m.nodeValue node.1 node.2
      let cur := roundNE (valOf v.1 v.2 * 65536)
      let full := decide (4096 - t.pre ≤ t.after)
      let due := decide (m.tick.count % 2 ^ t.decim = 0)
      let t := t.trip (m.traceHit t sats cur) m.tick.count
      let t := if due && !(t.state == .triggered && full) then
          let s := (m.tick.count, t.nodes.map fun n => m.sample carried sats n.1 n.2)
          if t.state = .triggered then { t with samples := t.samples ++ [s], after := t.after + 1 }
          else { t with samples := (t.samples ++ [s]).drop (t.samples.length + 1 - t.pre) }
        else t
      { m with trowel := { m.trowel with
          trace := m.trowel.trace.set i { t with prev := some cur, flags := some (m.traceFlags node.1) } } }

/-- A change of a loop's flags after Compute meets the flag trigger in the same tick (R218). -/
def Mod.traceFlag (m : Mod) : Mod :=
  match m.leaves.active with
  | none => m
  | some i =>
    { m with trowel := { m.trowel with trace := m.trowel.trace.modify i fun t =>
        let now := m.traceFlags (lget (0, 0) t.nodes t.trigNode).1
        let t' := t.trip (t.trigKind == 4 && t.flagHit now) m.tick.count
        { t' with flags := t.flags.map fun _ => now } } }

/-- End the trace of a leaf (R220). -/
def Mod.interruptTrace (m : Mod) (i : Side) : Mod :=
  { m with trowel := { m.trowel with trace := m.trowel.trace.modify i fun t =>
      if t.state = .armed ∨ t.state = .triggered then { t with state := .done, interrupted := true } else t } }

/-! ### Compute (R186, R190) -/

/-- The sills whose sets a group of loops needs: those of its windows, or of its ports' taps (R28, R186). -/
def groupSills (g : Nat) : List Nat :=
  if g < 238 then ((List.range 32).map fun k => sillOfWindow (32 * g + k)).dedup
  else if g < 255 then [sillOfTile (g - 238), sillOfTile (g - 187)].dedup
  else []

/-- Groups of the fitted loops (R183). -/
def Variant.groups (v : Variant) : List Nat :=
  (if v.windows then List.range 238 else []) ++ (List.range 19).map fun k => 238 + k

/-- The loops of a group that are fitted. -/
def Variant.groupLoops (v : Variant) (g : Nat) : List Nat :=
  ((List.range 32).map fun k =>
    if g < 238 then 32 * g + k else if g < 255 then 0x2000 + 32 * (g - 238) + k
    else if g = 255 then 0x3000 + k else 0x3100 + k).filter v.loop

/-- A group can be evaluated in this tick: the sets of its sills have arrived, and a laser link carries the bank's readings
(R186). A sill that has lost control or power sends none and is not waited for (DEDUCED, log 87). -/
def Mod.groupReady (m : Mod) (g : Nat) : Bool :=
  (groupSills g).all (fun k => (m.sill k).away || m.tick.senseGot.contains k) && (decide (g < 255) || m.dieLink 2)

/-- Evaluate one loop; a LOCKED window that loses lock puts its members at risk (R208, R130). -/
def computeOne (readings : List (Nat × Int)) (p : Mod × List (Nat × List Nat)) (k : Nat) : Mod × List (Nat × List Nat) :=
  let m := p.1
  let was := (m.loop k).wstate
  let raw := match readings.find? fun x => x.1 == k with
    | some x => if k < 7616 then m.scaled (sillOfWindow k) x.2 else x.2
    | none => (m.loop k).raw
  let e := if loopClass k = some .monitor then m.evalMonitor k else m.evalLoop k raw
  let m := ((m.setLoop k fun _ => e.loop).sumSats k e.sats).sweepStep k
  let m := if was = .locked ∧ e.loop.wstate = .tuning ∧ k < 7616 ∧ !m.inHold k then
      (m.membersOf k).foldl (fun m c => if c.state = .active then m.impair c .atRisk 1 k else m) m
    else m
  (m, p.2 ++ [(k, e.sats)])

/-- The fade of the Mortar term, one hundredth a tick (R188). -/
def Trowel.fade (t : Trowel) : Trowel :=
  if t.ffDir < 0 then { t with ffScale := t.ffScale - 1, ffDir := if t.ffScale ≤ 1 then 0 else t.ffDir }
  else if 0 < t.ffDir then
    { t with ffScale := min 100 (t.ffScale + 1), ffDir := if 99 ≤ t.ffScale then 0 else t.ffDir }
  else t

/-- Trowel evaluates: a leaf is active, or the boot parks and restarts the loops before a leaf leaves BOOT (R182, R206). -/
def Mod.trowelRuns (m : Mod) : Bool := (m.running || m.bootLoops) && !m.trowel.reinit

/-- Every group that is not carried is evaluated, loop by loop; the carried ones keep their outputs, and their ramps do not
move. -/
def Mod.computeGroups (m : Mod) (c : ComputeIn) (car : List Nat) : Mod :=
  let gs := m.variant.groups.filter fun g => !car.contains g
  let p := (gs.flatMap m.variant.groupLoops).foldl (computeOne c.readings) (m, [])
  let m : Mod := p.1
  let cyc := min 350 c.cycles
  let m : Mod := { m with trowel := { m.trowel.fade with
    startsNow := []
    parking := m.trowel.parking.filter fun w => (m.loop w).wstate != WState.parked
    use := m.trowel.use.modify m.worker fun u => { last := cyc, peak := u.peak.put cyc }
    loops := m.trowel.loops.map fun (x : Nat × Loop) => if car.contains (groupOf x.1) then (x.1, { x.2 with ramping := false }) else x } }
  (m.traceStep car p.2).settleMembers.riskHeld

/-- The tick whose prediction the thermal model works on or the deadline takes: after the Commit step the next one (R261). -/
def Mod.ffTick (m : Mod) : Nat := if m.afterCommit then m.tick.now + 1 else m.tick.now

/-- The tick has had neither its prediction nor a miss, and windows run that need one (R187). -/
def Mod.ffDue (m : Mod) : Bool := m.running && m.variant.windows && decide (m.trowel.ffFor < m.ffTick)

/-- No prediction comes by cycle 150 of a tick: the previous one is used again (R188). -/
def Mod.ffMiss (m : Mod) : Mod :=
  { m with
    trowel := { m.trowel with
      ffFor := m.ffTick, ffMisses := m.trowel.ffMisses + 1, ffGood := 0, ffState := if m.trowel.ffState = 2 then 2 else 1 }
    mortar := { m.mortar with misses := m.mortar.misses + 1 } }

/-- COMPUTE (R182, R186): groups whose Sense sets have not come are carried whatever else is. -/
def runCompute (c : ComputeIn) (m : Mod) : Mod :=
  let m := { (if m.ffDue then m.ffMiss else m) with tick := { m.tick with phase := .compute } }
  if !m.trowelRuns then
    { m with
      tick := { m.tick with computeLate := [] }
      trowel := { m.trowel with use := m.trowel.use.modify m.worker fun u => { u with last := 0 } } }
  else
    let able := m.variant.groups.filter m.groupReady
    let car := carriedNow able m.tick.computeLate c.carried ++ m.variant.groups.filter fun g => !m.groupReady g
    let m := m.computeGroups c car
    { m with tick := { m.tick with
        computeLate := car, ovrCompute := m.tick.ovrCompute + car.length, carried := m.tick.carried || !car.isEmpty } }

def execCompute (c : ComputeIn) (s : State) : Host.Outcome State Fault Refusal :=
  happens (fun m => m.inPhase .sense) (runCompute c) s

/-! ### LOOP_MODE and LOOP_SETPOINT (R201 – R205) -/

/-- The window is used by a member, or by a queued or running plan: it is locked for a lane circuit or kept parked for a port
circuit (R58, R202). -/
def Mod.windowUsed (m : Mod) (w : Nat) : Bool :=
  let needs (c : Circuit) : Bool := c.windows.contains w || c.parked.contains w
  (m.engine.members.any fun x => needs x.circ) || m.pipeline.any fun p => (planCircuits p).any needs

/-- A laser is in service: WORKING or HANDOVER (R332). -/
def Mod.inService (m : Mod) (k : Nat) : Bool := (m.laser k).role == 0 || (m.laser k).role == 2

/-- LOOP_MODE and LOOP_SETPOINT meet a conflict (R202). -/
def Mod.loopConflict (m : Mod) (k : Nat) : Bool :=
  if k < 7616 then m.windowUsed k
  else if loopClass k = some .monitor then false else m.inService (laserOfLoop k)

/-- Signed 32-bit value "keep the present output". -/
def keepOutput : Int := -2147483648

/-- The output lies in [OUT_MIN, OUT_MAX] of the class (R201). -/
def Mod.outputOk (m : Mod) (k : Nat) (o : Int) : Bool :=
  decide (m.pval (paramClass k) 0 18 ≤ unitOf o) && decide (unitOf o ≤ m.pval (paramClass k) 0 19)

/-- Checks of a loop index: its status where it names no loop, or one that is not fitted. -/
def Mod.loopCheck (m : Mod) (k : Nat) : Option Nat :=
  if loopClass k = none then some ePARAM else if !m.variant.loop k then some eABSENT else none

def runLoopMode (r : Req) (m : Mod) : Mod :=
  let k := field r.payload 0 4
  let mode := field r.payload 4 1
  let out := fieldS r.payload 8 4
  if !sized r.payload 12 then malformed r m
  else if !zeros r.payload 5 3 then refuse r ePARAM (badField 5) m
  else match m.loopCheck k with
    | some st => refuse r st (badField 0) m
    | none =>
      if 2 < mode ∨ (loopClass k = some .monitor ∧ mode ≠ 0) then refuse r ePARAM (badField 4) m
      else if mode = 1 ∧ out ≠ keepOutput ∧ !m.outputOk k out then refuse r ePARAM (badField 8) m
      else if m.loopConflict k then refuse r eCONFLICT plain m
      else later r (.loopMode k mode out) (if k < 7616 then m.wake (bankCode k) else m)

def execLoopMode (p : Packet) (s : State) : Host.Outcome State Fault Refusal := commandM 0x40 p runLoopMode s

/-- The class range of a set-point (R201): windows 0 – 400 GHz, bias 0 – 10 mW, temperature 20 – 60 °C. -/
def setpointOk (k : Nat) (v : Int) : Bool :=
  match loopClass k with
  | some .window => decide (0 ≤ v) && decide (v ≤ lockTarget)
  | some .bias => decide (0 ≤ v) && decide (v ≤ 655360)
  | some .temp => decide (1310720 ≤ v) && decide (v ≤ 3932160)
  | _ => false

def runLoopSetpoint (r : Req) (m : Mod) : Mod :=
  let k := field r.payload 0 4
  let v := fieldS r.payload 4 4
  if !sized r.payload 8 then malformed r m
  else match m.loopCheck k with
    | some st => refuse r st (badField 0) m
    | none =>
      if loopClass k = some .monitor then refuse r ePARAM (badField 0) m
      else if !setpointOk k v then refuse r ePARAM (badField 4) m
      else if m.loopConflict k then refuse r eCONFLICT plain m
      else later r (.loopSetpoint k v) (if k < 7616 then m.wake (bankCode k) else m)

def execLoopSetpoint (p : Packet) (s : State) : Host.Outcome State Fault Refusal := commandM 0x41 p runLoopSetpoint s

/-- LOOP_MODE at its boundary: a window going into or out of manual, or back from hold, takes a start (R204). -/
def Mod.applyLoopMode (m : Mod) (k mode : Nat) (out : Int) : Mod :=
  if loopClass k = some .monitor then m
  else if mode = 2 then m.setLoop k fun l => { l with causes := l.causes ||| 1 }
  else
    let l := m.loop k
    let held := l.causes != 0
    let md : LMode := if mode = 1 then .manual else .auto
    let eo := m.expOf k stOut
    let o : Option Int := if mode = 1 ∧ out ≠ keepOutput then some (quant eo (unitOf out)).1 else none
    let m := m.setLoop k fun l => { l with causes := l.causes &&& 0xC }
    if k < 7616 then
      if l.mode = md ∧ !held ∧ o.isNone then m
      else
        let m := if held then m.setLoop k fun l => { l with preset := true } else m
        m.requestStart { window := k, target := l.target, mode := md, out := o }
    else m.setLoop k fun l =>
      { l with mode := md, u := o.getD l.u, preset := l.preset || held || (l.mode == .manual && md == .auto) }

/-- LOOP_SETPOINT at its boundary: the new target of the ramp. -/
def Mod.applySetpoint (m : Mod) (k : Nat) (v : Int) : Mod :=
  let l := m.loop k
  if k < 7616 ∧ l.mode = .auto then
    if l.target = v ∧ l.wstate ≠ .cold then m else m.requestStart { window := k, target := v, mode := .auto, out := none }
  else m.setLoop k fun l => { l with target := v }

/-! ### Trace commands (R217, R219) -/

/-- The trace nodes of a TRACE_ARM payload. -/
def traceNodes (bs : List Byte) (n : Nat) : List (Nat × Nat) :=
  (List.range n).map fun j => (field bs (16 + 8 * j) 4, field bs (20 + 8 * j) 1)

def runTraceArm (r : Req) (m : Mod) : Mod :=
  let p := r.payload
  let n := field p 0 1
  let nodes := traceNodes p n
  if p.length < 16 then malformed r m
  else if n < 1 ∨ 64 < n then refuse r ePARAM (badField 0) m
  else if !sized p (16 + 8 * n) then malformed r m
  else if 5 < field p 1 1 then refuse r ePARAM (badField 1) m
  else if n ≤ field p 2 1 then refuse r ePARAM (badField 2) m
  else if 10 < field p 3 1 then refuse r ePARAM (badField 3) m
  else if 4095 < field p 4 2 then refuse r ePARAM (badField 4) m
  else if !zeros p 6 2 then refuse r ePARAM (badField 6) m
  else if 32 ≤ field p 12 4 then refuse r ePARAM (badField 12) m
  else
    match (List.range n).find? fun j =>
        decide (7 < field p (20 + 8 * j) 1) || !zeros p (21 + 8 * j) 3 || (loopClass (field p (16 + 8 * j) 4)).isNone with
    | some j => refuse r ePARAM (badField (16 + 8 * j)) m
    | none =>
      match (List.range n).find? fun j => !m.variant.loop (field p (16 + 8 * j) 4) with
      | some j => refuse r eABSENT (badField (16 + 8 * j)) m
      | none =>
        let t : Trace :=
          { state := .armed, interrupted := false, nodes := nodes, trigKind := field p 1 1, trigNode := field p 2 1
            decim := field p 3 1, pre := field p 4 2, level := fieldS p 8 4, flagMask := wordAt p 12, samples := []
            after := 0, trigTick := 0, prev := none, flags := none }
        answer r stOK [] { m with trowel := { m.trowel with trace := m.trowel.trace.set r.w.link t } }

def execTraceArm (p : Packet) (s : State) : Host.Outcome State Fault Refusal := commandM 0x42 p runTraceArm s

def TState.code : TState → Nat
  | .idle => 0
  | .armed => 1
  | .triggered => 2
  | .done => 3

/-- TRACE_READ (R219) of the leaf that answers. -/
def runTraceRead (v : Mod) (r : Req) (m : Mod) : Mod :=
  let b := field r.payload 0 1
  let first := field r.payload 2 2
  let count := field r.payload 4 2
  let t := v.trowel.trace.get r.w.link
  if !sized r.payload 6 then malformed r m
  else if 64 ≤ b then refuse r ePARAM (badField 0) m
  else if !zeros r.payload 1 1 then refuse r ePARAM (badField 1) m
  else if count < 1 ∨ 4096 < count then refuse r ePARAM (badField 4) m
  else if 4096 < first + count then refuse r ePARAM (badField 2) m
  else if (match t.nodes[b]? with | some n => !m.variant.loop n.1 | none => false) then refuse r eABSENT (badField 0) m
  else
    let xs := if b < t.nodes.length then (t.samples.drop first).take count else []
    let ft := match xs with
      | x :: _ => x.1
      | [] => 0
    answer r stOK (le 1 t.state.code ++ le 1 (b2n t.interrupted) ++ le 2 0 ++ le 2 xs.length ++ le 2 0 ++ le 8 t.trigTick ++
      le 8 ft ++ xs.flatMap fun x => le 4 (lget 0 x.2 b).toNat) m

def execTraceRead (p : Packet) (s : State) : Host.Outcome State Fault Refusal := query 0x43 p runTraceRead s

/-- TRACE_DONE (R218). -/
def execTraceDone (s : State) : Host.Outcome State Fault Refusal :=
  happens
    (fun m => m.running && (let t := m.trowel.trace.get m.worker; t.state == .triggered && decide (4096 - t.pre ≤ t.after)))
    (fun m => { m with trowel := { m.trowel with trace := m.trowel.trace.modify m.worker fun t => { t with state := .done } } }) s

/-! ### Plausibility events (R214, R215) -/

/-- IMPLAUSIBLE_HOLD: the eighth mismatch, in the Compute phase that finds it: that tick's output is discarded. In manual mode
it only sets IMPLAUSIBLE. -/
def execImplausibleHold (index : Nat) (s : State) : Host.Outcome State Fault Refusal :=
  happens
    (fun m => m.inPhase .compute && m.running && m.variant.loop index && loopClass index != some .monitor &&
      decide (8 ≤ (m.loop index).mism) && !m.inHold index)
    (fun m => (m.setLoop index fun l =>
      let l := { l.stick bImpl with mism := 0 }
      if l.mode = .manual then l else { l with causes := l.causes ||| 2, u := l.uPrev, calm := 0 }).traceFlag) s

/-- Releases of a loop in the last hour. -/
def Loop.releasesAt (l : Loop) (now : Nat) : List Nat := l.releases.filter fun t => decide (now < t + 360000000)

/-- IMPLAUSIBLE_RELEASE: 1,000 ticks in tolerance, at most 3 times per hour. A window takes a start. -/
def execImplausibleRelease (index : Nat) (s : State) : Host.Outcome State Fault Refusal :=
  happens
    (fun m => m.running && (m.loop index).causes.getLsbD 1 && decide (1000 ≤ (m.loop index).calm) &&
      decide (((m.loop index).releasesAt m.tick.now).length < 3))
    (fun m =>
      let m := m.setLoop index fun l =>
        { l with causes := l.causes &&& 0xD, calm := 0, preset := true, releases := l.releasesAt m.tick.now ++ [m.tick.now] }
      let l := m.loop index
      if index < 7616 then m.requestStart { window := index, target := l.target, mode := l.mode, out := none } else m) s

/-! ### Feed-forward events (R188) -/

/-- FF_MISS: cycle 150 passes with no prediction, and the previous one is used again. A Compute phase finds a miss by itself. -/
def execFfMiss (s : State) : Host.Outcome State Fault Refusal := happens (fun m => m.inPhase .sense && m.ffDue) Mod.ffMiss s

/-- FF_LOST: 4 consecutive misses; the term fades. -/
def execFfLost (s : State) : Host.Outcome State Fault Refusal :=
  happens (fun m => m.running && m.variant.windows && decide (4 ≤ m.trowel.ffMisses) && m.trowel.ffState != 2)
    (fun m => { m with trowel := { m.trowel with ffState := 2, ffDir := -1 } }) s

/-- FF_RESTORE: 10 predictions on time; the term rises again. -/
def execFfRestore (s : State) : Host.Outcome State Fault Refusal :=
  happens (fun m => m.running && m.variant.windows && decide (10 ≤ m.trowel.ffGood) && m.trowel.ffState == 2)
    (fun m => { m with trowel := { m.trowel with ffState := 0, ffDir := 1 } }) s

/-! ### Parameters and exponents at a boundary (R197, R231) -/

/-- PARAM_APPLY: the shadow goes into use, as one swap of every loop (R198, R231). -/
def Mod.applyParams (m : Mod) : Mod :=
  { m with trowel := { m.trowel with
    params := m.trowel.shadow
    loops := m.trowel.loops.map fun p => (p.1, { p.2 with swap := some (p.2.swap.getD (m.coefOf (paramClass p.1) p.2.set)) }) } }

/-- Re-express a mantissa at a new exponent. -/
def rescale (old new : Int) (v : Int) : Int × Bool := quant new (valOf old v)

/-- A loop at new exponents, and the stages that the change saturates (R197). -/
def Loop.reExpress (mon : Bool) (old new : List Int) (l : Loop) : Eval :=
  let o (st : Nat) : Int := lget 0 old st
  let n (st : Nat) : Int := lget 0 new st
  if mon then
    let y := rescale (o 0) (n 0) l.y
    let i := rescale (o 1) (n 1) l.i
    { loop := { l with y := y.1, i := i.1 }, sats := (if y.2 then [stSense] else []) ++ (if i.2 then [stError] else []) }
  else
    let r := rescale (o 0) (n 0) l.r
    let yf := rescale (o 0) (n 0) l.yf
    let y := rescale (o 0) (n 0) l.y
    let i := rescale (o 3) (n 3) l.i
    let u := rescale (o 4) (n 4) l.u
    { loop := { l with
        r := r.1, yf := yf.1, y := y.1, i := i.1, u := u.1, yPrev := (rescale (o 0) (n 0) l.yPrev).1
        uPrev := (rescale (o 4) (n 4) l.uPrev).1, d := (rescale (o 4) (n 4) l.d).1, ff := (rescale (o 4) (n 4) l.ff).1
        p := (rescale (o 2) (n 2) l.p).1 }
      sats := (if r.2 ∨ yf.2 then [stSense] else []) ++ (if i.2 then [stI] else []) ++ (if u.2 then [stOut] else []) }

/-- EXP_DATA at its boundary (R197): the loops of the group are re-expressed. -/
def Mod.setExps (m : Mod) (g : Nat) (new : List Int) : Mod :=
  let old := m.exps g
  let m := ((m.trowel.loops.filter fun p => groupOf p.1 == g).map Prod.fst).foldl (fun m k =>
    let e := (m.loop k).reExpress (loopClass k == some .monitor) old new
    (m.setLoop k fun _ => e.loop.stickSats e.sats).sumSats k e.sats) m
  { m with trowel := { m.trowel with exps := aput m.trowel.exps g new } }

/-! ### Restarts (R206) -/

/-- What FUNCTION_REINIT of Trowel clears; modes, targets, parameters and exponents stay, and every loop restarts under R204. The
trace in progress ends in DONE: R206 says that the trace buffers are cleared, R220 that the samples taken before the interruption
stay valid; the model follows R220 (DESIGN CHOICE, log 88). -/
def Mod.clearTrowel (m : Mod) : Mod :=
  let loops := m.trowel.loops.map fun p => (p.1, { p.2 with
    i := 0, yf := p.2.y, r := p.2.y, mism := 0, calm := 0, preset := true, c := 0, evaluated := false
    wstate := if p.2.wstate = .cold then .cold else .tuning, inBand := 0, offBand := 0, swap := none })
  ({ m with trowel := { m.trowel with loops := loops } }).interruptTrace m.worker

/-- The loops of a warm reset: their registers at their reset values (R571), their last reading and output at the exponents of
Table 2, in automatic mode and to be preset (R204, R206). -/
def Mod.resetLoops (m : Mod) : List (Nat × Loop) :=
  m.trowel.loops.map fun p =>
    let g := groupOf p.1
    let l := (p.2.reExpress (loopClass p.1 == some .monitor) (m.exps g) (defaultExps g)).loop
    let mon := loopClass p.1 == some .monitor
    (p.1, { Loop.init with
      wstate := if l.wstate = .cold then .cold else .tuning, raw := l.raw, y := l.y, u := l.u, uPrev := l.u
      i := if mon then l.i else 0, inTap := l.inTap, outTap := l.outTap, inFilt := l.inFilt, outFilt := l.outFilt
      evaluated := mon && l.evaluated, rangeRun := l.rangeRun })

/-- After a reset every loop restarts in automatic, windows toward the target of the committed set, lasers toward their
calibrated set-points. -/
def Mod.restartLoops (m : Mod) : Mod :=
  let lasers := ((List.range 30).filter m.variant.laser).flatMap fun k => [0x3000 + k, 0x3100 + k]
  let m := lasers.foldl (fun m k => m.setLoop k fun l =>
    { l with target := Config.laserSetpoint (laserOfLoop k) (decide (0x3100 ≤ k)) }) m
  { m with trowel := { m.trowel with
    starts := [], startsNow := []
    loops := m.trowel.loops.map fun p => (p.1, { p.2 with
      mode := .auto, causes := 0, preset := true, swap := none, inBand := 0, offBand := 0
      target := if p.1 < 7616 then m.homeTarget p.1 else p.2.target
      wstate := if p.2.wstate = .cold then .cold else .tuning }) } }

/-- The power-on parking (R206): every fitted window is COLD and waits for its start toward the park point. -/
def Mod.parkAll (m : Mod) : Mod :=
  let ws := List.range m.variant.windowCount
  { m with trowel := { m.trowel with
    base := .cold, parking := ws
    loops := m.trowel.loops.filter fun p => decide (7616 ≤ p.1)
    starts := ws.map fun w => { window := w, target := 0, mode := .auto, out := none } } }

end Sys2Proof.Machine
end

