-- ==== Sys2Proof/Machine/Cal.lean ====
section
/-! DEFINITION. Calibration (R301 – R330, R348 – R353): the references, the triggers and runs of the six classes, the checks
and the application of results, CAL_RUN and CAL_QUERY, and the wrong-lane check. A run is started by one
command that carries what its conversions will measure (DESIGN CHOICE, log 60). -/

namespace Sys2Proof.Machine

/-! ### References (R301, R302) -/

/-- Insertion into a sorted list. -/
def insertNat (x : Nat) : List Nat → List Nat
  | [] => [x]
  | y :: t => if x ≤ y then x :: y :: t else y :: insertNat x t

def sortNat (l : List Nat) : List Nat := l.foldr insertNat []

/-- Twice the median of ten values: the sum of the middle two. -/
def median2 (l : List Nat) : Nat :=
  let s := sortNat l
  lget 0 s 4 + lget 0 s 5

/-- Twice the distance of a reference from the median. -/
def refOff (med2 r : Nat) : Nat := if med2 < 2 * r then 2 * r - med2 else med2 - 2 * r

/-- One reference: suspect above 0.20 %, cleared after 10 checks in a row within 0.10 %. -/
def refCheckOne (med2 : Nat) (p : BitVec 10 × List (Nat × Nat)) (x : Nat × Nat) : BitVec 10 × List (Nat × Nat) :=
  let d := refOff med2 x.2
  let bit := BitVec.ofNat 10 (2 ^ x.1)
  let n := if d * 1000 ≤ med2 then aget 0 p.2 x.1 + 1 else 0
  if med2 < d * 500 then (p.1 ||| bit, aput p.2 x.1 0)
  else if 10 ≤ n then (p.1 &&& ~~~bit, aput p.2 x.1 n)
  else (p.1, aput p.2 x.1 n)

/-- REF_CHECK: `refs` are the ten references, sills 0 – 7, Leaf A, Leaf B, in one unit. -/
def refCheck (refs : List Nat) (m : Mod) : Mod :=
  let med2 := median2 refs
  let p := (((List.range 10).zip refs)).foldl (refCheckOne med2) (m.cal.suspect, m.cal.refOk)
  let worst := (refs.map fun r => (roundNE (((refOff med2 r * 10000 : Nat) : Rat) / ((max 1 med2 : Nat) : Rat))).toNat).foldl max 0
  let off := ((List.range 8).zip refs).filter fun x => p.1.getLsbD x.1
  { m with cal := { m.cal with
      suspect := p.1, refOk := p.2, worst := sat 0xFFFF worst, refAt := some m.tick.now
      scaleNext := off.map fun x => (x.1, med2, 2 * x.2) } }

/-- The ratios of the last check are in use from the next boundary (R302). -/
def Mod.scaleTick (m : Mod) : Mod := { m with cal := { m.cal with scale := m.cal.scaleNext } }

/-- REF_CHECK (R301): in the Sense phase, once every 100,000 ticks, on the active leaf. -/
def execRefCheck (refs : List Nat) (s : State) : Host.Outcome State Fault Refusal :=
  happens
    (fun m => m.inPhase .sense && m.running && decide (refs.length = 10) && (match m.cal.refAt with
      | some t => decide (t + 100000 ≤ m.tick.now)
      | none => true))
    (refCheck refs) s

/-- References suspect now. -/
def Mod.suspects (m : Mod) : Nat := ((List.range 10).filter fun k => m.cal.suspect.getLsbD k).length

/-! ### Units, temperatures and triggers (R303 – R305) -/

def Mod.calClass (m : Mod) (c : Nat) : CalClass := lget .init m.cal.classes c

def Mod.setCalClass (m : Mod) (c : Nat) (f : CalClass → CalClass) : Mod :=
  { m with cal := { m.cal with classes := lmod m.cal.classes c f } }

/-- Window classes (R303). -/
def isWindowClass (c : Nat) : Bool := c == 2 || c == 3

/-- The units of a class: tiles for MEMS, tiles with windows for WINDOW, sills, or the one heat sink. -/
def Variant.calUnits (v : Variant) (c : Nat) : List Nat :=
  if isWindowClass c && !v.windows then []
  else if c = 0 then List.range 68
  else if c = 3 then List.range 17 ++ (List.range 17).map (· + 51)
  else if c = 5 then [0]
  else if c < 5 then List.range 8 else []

/-- The sensor of a unit in `tempHist`: tiles 0 – 67, sill dies 68 – 75, heat sink 76. -/
def sensorOf (c u : Nat) : Nat := if c = 0 ∨ c = 3 then u else if c = 5 then 76 else 68 + u

/-- Mean of readings, rounded to the unit. -/
def meanOf (l : List Int) : Int := if l.isEmpty then 0 else roundNE ((sumI l : Rat) / ((l.length : Nat) : Rat))

/-- Temperature of a unit: the mean of its sensor over the last 64 ticks, of fewer where fewer have been read (R304). -/
def Mod.unitTemp (m : Mod) (c u : Nat) : Int := meanOf (aget [] m.cal.tempHist (sensorOf c u))

/-- Add a reading to a 64-tick history. -/
def addTemp (h : List (Nat × List Int)) (x : Nat × Int) : List (Nat × List Int) :=
  amod [] h x.1 fun l => (x.2 :: l).take 64

/-- The trigger of R304 that a unit meets now, CAL_RUN aside. -/
def Mod.calTrigger (m : Mod) (c u : Nat) : Option Nat :=
  let k := m.calClass c
  if !m.cal.auto.getLsbD c then none
  else if !k.booted.contains u then some 0
  else if m.cal.dt < (m.unitTemp c u - aget 0 k.temps u).natAbs then some 1 else none

/-- Units that a trigger newly meets wait for their gaps. -/
def Mod.calTriggers (m : Mod) : Mod :=
  (List.range 6).foldl (fun m c =>
    let new := (m.variant.calUnits c).filterMap fun u =>
      if (m.calClass c).pending.any fun p => p.1 == u then none else (m.calTrigger c u).map fun t => (u, t)
    if new.isEmpty then m else m.setCalClass c fun k => { k with pending := k.pending ++ new }) m

/-! ### Gaps (R306) -/

/-- A free tick: no commit RUNNING and none that launches. -/
def Mod.freeTick (m : Mod) : Bool := m.engine.run.isNone && !m.launchable

/-- An idle period: a free tick with no commit QUEUED and no batch awaiting readback; no test element is SET then (R306, R308). -/
def Mod.idlePeriod (m : Mod) : Bool :=
  m.freeTick && m.engine.queue.isEmpty && m.engine.fired.isEmpty && m.engine.retryQ.isEmpty && m.testElems.isEmpty

/-- Elements of members, orphans, and QUEUED and RUNNING plans: their lines and rails are not free (R306). -/
def Mod.busyElems (m : Mod) : List Elem :=
  m.heldElems ++ m.orphans ++ (m.engine.plans.filter fun p => p.state == .queued || p.state == .running).flatMap fun p =>
    (p.route ++ p.moveTo).flatMap fun x => x.1.elems x.2

/-- The line and the rail of an element are free; on an ingress brick the line's middle-brick continuation on that rail too
(R306). -/
def Mod.freeCell (m : Mod) (e : Elem) : Bool :=
  let busy := m.busyElems
  let t := tileOfBrick e.brick
  m.brickOk e.brick && !m.isStuck e && !(busy.any fun f => sharesLine e f || sharesRail e f) &&
    (decide (17 ≤ t) || !(busy.any fun f =>
      decide (f.brick = brickNo (planeOfBrick e.brick) (17 + e.rail)) && decide (f.line = t)))

/-! ### Results (R309 – R316) -/

/-- The key under which a tap's values are held: a laser's rows by laser and row. -/
def tapKey (c u tap : Nat) : Nat × Nat × Nat := if c = 5 then (5, tap / 16, tap % 16) else (c, u, tap)

/-- The values of a tap at manufacture. -/
def tapMade (c u tap : Nat) : Int × Int × Int :=
  if c = 2 ∨ c = 3 then (0, 0, 0)
  else if c = 5 then
    (Config.laserITh (tap / 16) (tap % 16), Config.laserSlope (tap / 16) (tap % 16), Config.laserCool (tap / 16) (tap % 16))
  else (Config.calManufacture c u tap 0, Config.calManufacture c u tap 1, Config.calManufacture c u tap 2)

/-- The values of a tap in use. -/
def Mod.tapInUse (m : Mod) (c u tap : Nat) : Int × Int × Int :=
  if c = 2 then (aget 0 m.cal.dacOffset tap, 0, 0)
  else if c = 3 then (m.trim tap, 0, 0)
  else match m.cal.taps.find? fun t => t.1 == tapKey c u tap with
    | some t => t.2
    | none => tapMade c u tap

/-- A value within a fraction n/100 of a base. -/
def within (n : Nat) (base v : Int) : Bool := decide ((v - base).natAbs * 100 ≤ n * base.natAbs)

/-- A change of at most `n`. -/
def near (n : Nat) (a b : Int) : Bool := decide ((a - b).natAbs ≤ n)

/-- The drive trim, in 0.25 V, that a threshold of `v` × 0.01 V sets (R309): both half-selects together give V_TH + 6 V, at
least 44.0 V. -/
def memsTrim (v : Int) : Int := -((4800 - max (v + 600) 4400) / 50)

/-- Table 3: a result is plausible. -/
def tapOk (c u tap : Nat) (old new : Int × Int × Int) : Bool :=
  let made := tapMade c u tap
  match c with
  | 0 =>
    decide (2900 ≤ new.1) && decide (new.1 ≤ 4100) && near 300 old.1 new.1 && decide (-8 ≤ memsTrim new.1) &&
      decide (memsTrim new.1 ≤ 2)
  | 1 =>
    near 500 0 new.1 && near 100 old.1 new.1 && decide (0 ≤ new.2.1) && decide (new.2.1 ≤ 63) && near 4 old.2.1 new.2.1
  | 2 => near 1000 0 new.1 && near 250 old.1 new.1
  | 3 => near 15000 0 new.1 && near 1250 old.1 new.1
  | 4 => near 150 0 new.1 && near 30 old.1 new.1
  | _ =>
    within 30 made.1 new.1 && within 30 made.2.1 new.2.1 && within 30 made.2.2 new.2.2 &&
      within 10 old.1 new.1 && within 10 old.2.1 new.2.1 && within 10 old.2.2 new.2.2

/-- The tap belongs to the unit. -/
def Variant.tapOf (v : Variant) (c u tap : Nat) : Bool :=
  match c with
  | 0 => decide (tap < 8 * 66)
  | 1 => decide (tap < 2 + Config.calTaps c u)
  | 2 => decide (tap < 7616) && sillOfWindow tap == u
  | 3 => decide (tap < 7616) && tileOfWindow tap == u
  | 5 => decide (tap % 16 < 10) && v.laser (tap / 16)
  | _ => decide (tap < Config.calTaps c u)

/-- Probe light reaches a service port: its laser, or the spare in its place, works (R331, R338). -/
def Mod.probed (m : Mod) (s : Nat) : Bool :=
  let k := if m.variant = .p then 24 + s / 16 else 24 + s / 8
  m.osc.lasers.any fun p => p.2.role == 0 && (p.1 == k || (p.2.partner == k && k != 0))

/-- Failed probe lasers pass their ports to a READY spare when MONITOR next runs (R338). -/
def Mod.passProbes (m : Mod) : Mod :=
  ((laserSets m.variant).filter fun s => decide (24 ≤ s.2)).foldl (fun m s =>
    if (m.laser s.2).role ≠ 1 then m
    else match s.1.find? fun k => (m.laser k).role == 4 with
      | some k => { m with osc := { m.osc with
          lasers := amod (.init 7) m.osc.lasers s.2 fun l => { l with role := 0, partner := k } } }
      | none => m) m

/-- A tap that calibration leaves alone: a window or laser in manual mode or hold, a service port without probe light (R325,
R338). -/
def Mod.tapSkipped (m : Mod) (c tap : Nat) : Bool :=
  let away (k : Nat) : Bool := m.inHold k || (m.loop k).mode == .manual
  match c with
  | 2 => away tap
  | 3 => away tap
  | 4 => decide (1024 ≤ tap) && !m.probed ((tap - 1024) / 2)
  | 5 => away (0x3000 + tap / 16) || away (0x3100 + tap / 16)
  | _ => false

/-- Count of one run: applied, rejected, skipped. -/
structure CalCount where
  applied  : Nat
  rejected : Nat
  skipped  : Nat
deriving DecidableEq, Repr

/-- One tap of a run: accepted values wait for their point of application. -/
def calTap (c u : Nat) (p : Mod × CalCount) (t : CalTap) : Mod × CalCount :=
  let m := p.1
  let k := p.2
  if !t.measured || m.tapSkipped c t.tap then (m, { k with skipped := k.skipped + 1 })
  else if 2 < m.suspects ∨ !tapOk c u t.tap (m.tapInUse c u t.tap) (t.a, t.b, t.c) then
    (m, { k with rejected := k.rejected + 1 })
  else
    let v := if c = 0 then (t.a, memsTrim t.a, 0) else (t.a, t.b, t.c)
    let rest := m.cal.apply.filter fun x => x.1 != tapKey c u t.tap
    ({ m with cal := { m.cal with apply := rest ++ [(tapKey c u t.tap, v)] } }, { k with applied := k.applied + 1 })

/-- REJECTS of one class saturates at 0xF (R350). -/
def sat4 (n : Nat) : Nat := sat 0xF n

/-- A drop window of an unused lane: no member or QUEUED or RUNNING plan uses it, and its port is not the source of a port circuit
(R306). -/
def Mod.unusedLane (m : Mod) (w : Nat) : Bool := isDrop w && !m.windowUsed w

/-- A LOCKED window of a member whose LIT flag is set (R306). -/
def Mod.litLocked (m : Mod) (w : Nat) : Bool :=
  m.wstate w == .locked && (m.membersOf w).any fun x => x.lit

/-- The result of a run of a class on a unit, once all of it is measured (R315, R316). -/
def calRunUnit (c u : Nat) (taps : List CalTap) (m : Mod) : Mod :=
  let m := if c = 4 then m.passProbes else m
  let p := taps.foldl (calTap c u) (m, { applied := 0, rejected := 0, skipped := 0 })
  let k := p.2
  let trig := match (m.calClass c).pending.find? fun x => x.1 == u with
    | some x => x.2
    | none => 0
  let temp := m.unitTemp c u
  let ok := decide (0 < k.applied)
  let allBad := !ok && k.skipped == 0 && decide (0 < k.rejected)
  let high := taps.any fun t => t.measured && decide (100 < t.c)
  p.1.setCalClass c fun x =>
    let run := aget 0 x.rejectRun u
    let run' := if ok then 0 else if allBad then run + 1 else if 3 ≤ run then run else 0
    let y := { x with
      pending := x.pending.filter fun q => q.1 != u, ran := insertNew u x.ran, skipped := k.skipped
      rejects := x.rejects + k.rejected, rc := x.rc + k.rejected, rejectRun := aput x.rejectRun u run'
      above := if c = 4 && m.freeTick then high else x.above
      runApplied := x.runApplied + k.applied, runRejected := x.runRejected + k.rejected
      runSkipped := x.runSkipped + k.skipped }
    if ok then
      { y with
        runs := x.runs + 1, lastAux := m.aux, lastTick := m.tick.count, lastTemp := temp, trigger := trig
        booted := insertNew u x.booted, temps := aput x.temps u temp }
    else y

/-- The gap of a run: MEMS runs in free ticks only (R306); none starts in SAFE_HOLD (R325). -/
def Mod.calGap (m : Mod) (c u : Nat) : Bool :=
  m.driving && (m.variant.calUnits c).contains u && ((m.calClass c).pending.any fun p => p.1 == u) &&
    !(m.cal.tests.any fun t => t.cls == c && t.unit == u) && (c != 0 || m.freeTick)

/-! ### Runs under way: test elements and spare channels (R308 – R310) -/

/-- A test element lies on the line or rail tap of a MEMS run's unit: a tap is plane × 66 plus the line, or the lines plus the rail
(log 100). -/
def onTap (u tap : Nat) (e : Elem) : Bool :=
  let n := if isMiddleTile u then 17 else 32
  let x := tap % 66
  decide (e.brick = brickNo (tap / 66) u) && (if x < n then decide (e.line = x) else decide (e.rail = x - n))

/-- A tap as its run can measure it. MEMS takes the free cells on the tap, at least two, and the highest SET voltage, of pulses from
30 V in 1 V steps, is the threshold (R309); a service circuit needs all its elements free (R306). -/
def Mod.openTap (m : Mod) (c u : Nat) (t : CalTap) : CalTap :=
  if !t.measured then { t with cells := [] }
  else if c = 0 then
    let l := t.cells.filter fun x => onTap u t.tap x.elem && m.freeCell x.elem && decide (0 < x.pulses)
    if l.length < 2 then { t with measured := false, cells := [] }
    else { t with cells := l, a := 2900 + 100 * (((l.map TestPulse.pulses).foldl max 0 : Nat) : Int) }
  else if c = 3 ∧ !(m.unusedLane t.tap || m.litLocked t.tap) then { t with measured := false, cells := [] }
  else if t.cells.all fun x => m.freeCell x.elem then t else { t with measured := false, cells := [] }

/-- The photodiodes whose channels an INTEGRATOR run frees. -/
def freeingTaps (c : Nat) (taps : List CalTap) : List Nat := if c = 1 then (taps.filter CalTap.measured).map CalTap.tap else []

/-- The windows that a WINDOW run locks and sweeps, the others being dithered. -/
def Mod.sweptTaps (m : Mod) (c : Nat) (taps : List CalTap) : List Nat :=
  if c = 3 then (taps.filter fun t => t.measured && m.unusedLane t.tap && !m.tapSkipped 3 t.tap).map CalTap.tap else []

/-- A run has nothing more to do at a tick. -/
def CalTest.over (t : CalTest) (now : Nat) : Bool :=
  t.cells.isEmpty && t.todo.isEmpty && t.sweep.isEmpty && t.upTo.all fun e => decide (e ≤ now)

/-- A run of a class on a unit begins; one that pulses no element, frees no channel and moves no window is over at once. A dither takes
4,096 ticks (R312). -/
def startRun (c u : Nat) (taps : List CalTap) (m : Mod) : Mod :=
  let taps := (taps.filter fun t => if c = 1 then decide (t.tap < Config.calTaps 1 u) else m.variant.tapOf c u t.tap).map (m.openTap c u)
  let cells := taps.flatMap fun t => t.cells.map fun x =>
    { tap := t.tap, elem := x.elem, left := x.pulses, on := false, due := m.tick.now }
  let swept := m.sweptTaps c taps
  let dithers := c == 3 && taps.any fun t => t.measured && !swept.contains t.tap && !m.tapSkipped 3 t.tap
  let t : CalTest :=
    { cls := c, unit := u, taps := taps, cells := cells, todo := freeingTaps c taps, sweep := swept.map fun w => (w, 0)
      upTo := if dithers then some (m.tick.now + 4096) else none }
  if t.over m.tick.now then calRunUnit c u taps m
  else swept.foldl (fun m w => m.driveTo lockTarget w) { m with cal := { m.cal with tests := m.cal.tests ++ [t] } }

/-- CALIBRATION_RUN (R306). -/
def execCalibrationRun (cls unit : Nat) (taps : List CalTap) (s : State) : Host.Outcome State Fault Refusal :=
  happens (fun m => m.calGap cls unit && !m.reinitOn 2) (startRun cls unit taps) s

/-- What one tick's calibration moves have come to: how many more may fire, the elements SET and cleared, the cells left. -/
structure Pulses where
  left  : Nat
  sets  : List Elem
  clears : List Elem
  cells : List TestCell
deriving DecidableEq, Repr

/-- Pulse one test cell: a SET pulse until it reads SET, with a readback after each; once its tap's cells have all been SET, it is
cleared. `moves` says that its sill drives it and that it moves. -/
def pulseCell (now : Nat) (all : List TestCell) (drives moves : Elem → Bool) (p : Pulses) (x : TestCell) : Pulses :=
  let keep (y : TestCell) : Pulses := { p with cells := p.cells ++ [y] }
  if p.left = 0 ∨ now < x.due ∨ !drives x.elem then keep x
  else if 0 < x.left then
    let y := { x with left := x.left - 1, due := now + 2 }
    if x.left = 1 then
      { p with left := p.left - 1, sets := p.sets ++ [x.elem], cells := p.cells ++ [{ y with on := true }] }
    else { p with left := p.left - 1, cells := p.cells ++ [y] }
  else if all.any fun y => y.tap == x.tap && y.left != 0 then keep x
  else if moves x.elem then { p with left := p.left - 1, clears := p.clears ++ [x.elem] }
  else { p with left := p.left - 1, cells := p.cells ++ [{ x with due := now + 2 }] }

/-- Pulse the cells of one run after the other. -/
def pulseTests (now : Nat) (drives moves : Elem → Bool) (p : Pulses × List CalTest) (t : CalTest) : Pulses × List CalTest :=
  let q := t.cells.foldl (pulseCell now t.cells drives moves) { p.1 with cells := [] }
  (q, p.2 ++ [{ t with cells := q.cells }])

/-- Calibration's moves of an Actuate phase (R306 – R308): at most 64, and none while a commit runs, in SAFE_HOLD or where the
function is reinitialising; they count in MEMS_USE (R86). -/
def Mod.fireTests (m : Mod) (failed : List Elem) (late : List Nat) : Mod :=
  if m.engine.run.isSome || !m.driving || m.reinitOn 2 then m
  else
    let s (e : Elem) : Sill := m.sill (sillOfBrick e.brick)
    let drives (e : Elem) : Bool :=
      !(s e).away && (s e).lease == .valid && (s e).epoch == (m.leaf m.worker).epoch && !late.contains (sillOfBrick e.brick)
    let n := min 64 m.fabric.budget
    let p := m.cal.tests.foldl (pulseTests m.tick.now drives fun e => !failed.contains e)
      ({ left := n, sets := [], clears := [], cells := [] }, [])
    { m with
      fabric := { m.fabric with
        set := (m.fabric.set.filter fun e => !p.1.clears.contains e && !p.1.sets.contains e) ++ p.1.sets
        peak := m.fabric.peak.put (n - p.1.left) }
      cal := { m.cal with tests := p.2 } }

/-- A test element that a commit has cleared is gone from its run, which leaves its tap unmeasured (R308). -/
def Mod.dropCleared (m : Mod) (t : CalTest) : CalTest :=
  let gone := t.cells.filter fun x => x.on && !m.fabric.set.contains x.elem
  { t with
    cells := t.cells.filter fun x => !gone.contains x
    taps := t.taps.map fun x => if gone.any fun y => y.tap == x.tap then { x with measured := false } else x }

/-- The channel that serves a photodiode. -/
def Mod.chanOf (m : Mod) (sill tap : Nat) : Nat :=
  match m.cal.chan.find? fun x => x.1 == (sill, tap) with
  | some x => x.2
  | none => tap + 2

/-- The spare channels of a sill. -/
def Mod.sparesOf (m : Mod) (sill : Nat) : List Nat := aget [0, 1] m.cal.spare sill

/-- A spare that has converted in parallel for 16 ticks takes the place of the live channel; the freed one is calibrated and is kept as
the spare (R310). -/
def Mod.swapIn (m : Mod) (x : ChanSwap) : Mod :=
  let freed := m.chanOf x.sill x.tap
  { m with cal := { m.cal with
      swaps := m.cal.swaps.filter fun y => y != x
      chan := (m.cal.chan.filter fun y => y.1 != (x.sill, x.tap)) ++ [((x.sill, x.tap), x.spare)]
      spare := aput m.cal.spare x.sill ((m.sparesOf x.sill).map fun k => if k = x.spare then freed else k)
      tests := m.cal.tests.map fun t =>
        if t.cls = 1 ∧ t.unit = x.sill then
          { t with
            todo := t.todo.filter fun k => k != x.tap
            taps := t.taps.map fun y => if y.tap = x.tap ∧ t.todo.contains x.tap then { y with tap := freed } else y }
        else t } }

/-- Spares free of a swap take the next photodiodes that an INTEGRATOR run names. -/
def Mod.beginSwaps (m : Mod) (t : CalTest) : Mod :=
  if t.cls ≠ 1 then m
  else
    let on := m.cal.swaps.filter fun x => x.sill == t.unit
    let free := (m.sparesOf t.unit).filter fun k => !(on.any fun x => x.spare == k)
    let next := t.todo.filter fun k => !(on.any fun x => x.tap == k)
    { m with cal := { m.cal with swaps := m.cal.swaps ++ (next.zip free).map fun p =>
        { sill := t.unit, tap := p.1, spare := p.2, since := m.tick.now } } }

/-- One window of a WINDOW sweep at a boundary: once LOCKED it goes through its lane centre ±40 GHz at 10 GHz a tick; a plan that needs it
takes it over (R307, R312). -/
def sweepOne (t : CalTest) (m : Mod) (x : Nat × Nat) : Mod :=
  let put (f : CalTest → CalTest) (m : Mod) : Mod :=
    { m with cal := { m.cal with tests := m.cal.tests.map fun y => if y.cls = t.cls ∧ y.unit = t.unit then f y else y } }
  let drop (y : CalTest) : CalTest := { y with sweep := y.sweep.filter fun z => z.1 != x.1 }
  let step (y : CalTest) : CalTest := { y with sweep := y.sweep.map fun z => if z.1 = x.1 then (z.1, z.2 + 1) else z }
  if m.windowUsed x.1 then
    put (fun y => { drop y with taps := y.taps.map fun z => if z.tap = x.1 then { z with measured := false } else z }) m
  else if 9 ≤ x.2 then (put drop m).driveTo 0 x.1
  else if x.2 = 0 ∧ m.wstate x.1 ≠ .locked then m
  else put step (m.setLoop x.1 fun l => { l with target := lockTarget + (10 * (x.2 : Int) - 40) * 65536 })

/-- The runs under way at a boundary: spares swapped in, new ones begun, and runs that are done give their results. -/
def Mod.calRuns (m : Mod) : Mod :=
  let m := { m with cal := { m.cal with tests := m.cal.tests.map m.dropCleared } }
  let m := (m.cal.swaps.filter fun x => decide (x.since + 16 ≤ m.tick.now)).foldl Mod.swapIn m
  let m := m.cal.tests.foldl Mod.beginSwaps m
  let m := m.cal.tests.foldl (fun m t => t.sweep.foldl (sweepOne t) m) m
  let done := m.cal.tests.filter fun t => t.over m.tick.now
  done.foldl (fun m t => calRunUnit t.cls t.unit t.taps m)
    { m with cal := { m.cal with tests := m.cal.tests.filter fun t => !t.over m.tick.now } }

/-! ### Application (R317, R318) -/

/-- A loop in automatic mode and not in hold. -/
def Mod.inAuto (m : Mod) (k : Nat) : Bool := (m.loop k).mode == .auto && !m.inHold k

/-- Absorb a step of the table feed-forward in the integrator: I + FF_old − FF_new, saturated. -/
def Mod.absorb (m : Mod) (k : Nat) (old new : Rat) : Mod :=
  let e := m.expOf k stI
  m.setLoop k fun l =>
    let q := quant e (valOf e l.i + old - new)
    ({ l with i := q.1 }).stickSats (if q.2 then [stI] else [])

/-- The table feed-forward of a loop at its present ramp value. -/
def Mod.ffNow (m : Mod) (k : Nat) : Rat := m.tableFf k (valOf (m.expOf k stSense) (m.loop k).r)

/-- A laser row goes into use, its loops stepping nothing. -/
def Mod.applyRow (m : Mod) (key : Nat × Nat × Nat) (v : Int × Int × Int) : Mod :=
  let b := 0x3000 + key.2.1
  let t := 0x3100 + key.2.1
  let ob := m.ffNow b
  let ot := m.ffNow t
  let m := { m with cal := { m.cal with taps := (m.cal.taps.filter fun (x : (Nat × Nat × Nat) × (Int × Int × Int)) => x.1 != key) ++ [(key, v)] } }
  let m := m.absorb b ob (m.ffNow b)
  m.absorb t ot (m.ffNow t)

/-- A laser row may go into use: the laser is out of service, or its loops are in automatic and not saturated. -/
def Mod.rowMay (m : Mod) (laser : Nat) : Bool :=
  !m.inService laser || [0x3000 + laser, 0x3100 + laser].all fun k => m.inAuto k && !(m.loop k).iSat

/-- One waiting value at a boundary; what stays waiting is put back. -/
def applyOne (m : Mod) (x : (Nat × Nat × Nat) × (Int × Int × Int)) : Mod :=
  let key := x.1
  let again (m : Mod) : Mod := { m with cal := { m.cal with apply := m.cal.apply ++ [x] } }
  match key.1 with
  | 2 =>
    let w := key.2.2
    let old := aget 0 m.cal.dacOffset w
    let new := old + clampI (-10) 10 (x.2.1 - old)
    let m := { m with cal := { m.cal with dacOffset := aput m.cal.dacOffset w new } }
    if new = x.2.1 then m else again m
  | 3 =>
    let w := key.2.2
    if !m.inAuto w then again m
    else
      let old := m.trim w
      let m := { m with cal := { m.cal with
        trim := aput m.cal.trim w x.2.1
        trimTemp := aput m.cal.trimTemp w (aget 0 (m.calClass 3).temps key.2.1) } }
      m.absorb w ((old - x.2.1 : Int) * hUnit) 0
  | 5 => if m.rowMay key.2.1 then m.applyRow key x.2 else again m
  | 0 =>
    if m.idlePeriod then { m with cal := { m.cal with taps := (m.cal.taps.filter fun y => y.1 != key) ++ [x] } } else again m
  | _ => { m with cal := { m.cal with taps := (m.cal.taps.filter fun y => y.1 != key) ++ [x] } }

/-- A window that the signature sweep parked relocks once PARKED, if a member still needs its lane (R329). -/
def Mod.relockOne (m : Mod) (w : Nat) : Mod :=
  if m.homeTarget w = 0 ∨ m.headsFor w lockTarget then { m with cal := { m.cal with relock := m.cal.relock.filter (· != w) } }
  else if m.wstate w = .parked then
    ({ m with cal := { m.cal with relock := m.cal.relock.filter (· != w) } }).driveTo lockTarget w
  else m

/-- What calibration does at a tick boundary; in SAFE_HOLD values wait (R325). -/
def Mod.applyCal (m : Mod) : Mod :=
  if !m.driving then m
  else
    let m := m.calRuns
    let l := m.cal.apply
    let m := l.foldl applyOne { m with cal := { m.cal with apply := [] } }
    m.cal.relock.foldl (fun m w => m.relockOne w) m

/-! ### CAL_RUN and CAL_QUERY (R322 – R324) -/

def runCalRun (r : Req) (m : Mod) : Mod :=
  let c := field r.payload 0 4
  if !sized r.payload 4 then malformed r m
  else if 64 ≤ c then refuse r ePARAM (badField 0) m
  else if !m.variant.windows && (c.testBit 2 || c.testBit 3) then refuse r eABSENT (badField 0) m
  else if m.cal.waiter.isSome then refuse r eBUSY plain m
  else
    let m := (bitsSet 6 c).foldl (fun m k => m.setCalClass k fun x =>
      { x with
        pending := (m.variant.calUnits k).map fun u => (u, 2), ran := [], runApplied := 0, runRejected := 0
        runSkipped := 0 }) m
    pend r { m with cal := { m.cal with waiter := some (r.w, BitVec.ofNat 6 c, m.tick.now) } }

def execCalRun (p : Packet) (s : State) : Host.Outcome State Fault Refusal := commandM 0x44 p runCalRun s

/-- Taps of a unit (R303). -/
def Variant.unitTaps (v : Variant) (c u : Nat) : Nat :=
  match c with
  | 0 => v.planeList.length * (if isMiddleTile u then 34 else 66)
  | 2 => ((List.range v.windowCount).filter fun w => sillOfWindow w == u).length
  | 3 => 224
  | 5 => 10 * ((List.range 30).filter v.laser).length
  | _ => Config.calTaps c u

/-- The class has run on every unit since CAL_RUN. -/
def Mod.calFinished (m : Mod) (c : Nat) : Bool := (m.variant.calUnits c).all (m.calClass c).ran.contains

/-- One entry of the final reply of CAL_RUN (R323). -/
def Mod.calEntry (m : Mod) (c : Nat) : List Byte :=
  let k := m.calClass c
  let left := (m.variant.calUnits c).filter fun u => !k.ran.contains u
  let skipped := k.runSkipped + sumN (left.map (m.variant.unitTaps c))
  let result := if left.isEmpty then 0 else if k.ran.isEmpty then 2 else 1
  le 1 c ++ le 1 result ++ le 2 (sat 0xFFFF k.runApplied) ++ le 2 (sat 0xFFFF k.runRejected) ++ le 2 (sat 0xFFFF skipped)

/-- The class completed with no skipped or rejected tap. -/
def Mod.calClean (m : Mod) (c : Nat) : Bool :=
  m.calFinished c && (m.calClass c).runRejected == 0 && (m.calClass c).runSkipped == 0

/-- The final reply of CAL_RUN. -/
def calDone (m : Mod) : Mod :=
  match m.cal.waiter with
  | none => m
  | some (w, cs, _) =>
    let l := bitsSet 6 cs.toNat
    let body := l.flatMap m.calEntry
    let ok := l.all m.calClean
    let m := { m with cal := { m.cal with waiter := none } }
    if ok then m.final w stOK body else m.final w eDEGRADED (plain ++ body)

/-- CAL_RUN_DONE (R322): every named class has finished, or 100,000 ticks have passed. -/
def execCalRunDone (s : State) : Host.Outcome State Fault Refusal :=
  happens
    (fun m => m.running && (match m.cal.waiter with
      | some (_, cs, t) => (bitsSet 6 cs.toNat).all m.calFinished || decide (t + 100000 ≤ m.tick.now)
      | none => false))
    calDone s

/-- Class c has the cause CAL_REJECT on some unit (R316). -/
def CalClass.causing (k : CalClass) : Bool := k.rejectRun.any fun r => decide (3 ≤ r.2)

/-- A run of the class is under way. -/
def Mod.calRunning (m : Mod) (c : Nat) : Bool := m.cal.tests.any fun t => t.cls == c

/-- The class waits on some unit. -/
def Mod.calPending (m : Mod) (c : Nat) : Bool :=
  (m.calClass c).pending.any fun p => !(m.cal.tests.any fun t => t.cls == c && t.unit == p.1)

/-- One CAL_QUERY entry (07 Table 6). -/
def calQueryEntry (v : Mod) (c : Nat) : List Byte :=
  let k := v.calClass c
  if isWindowClass c && !v.variant.windows then List.replicate 32 0
  else
    le 4 k.runs ++ le 4 k.rejects ++ le 8 k.lastAux ++ le 8 k.lastTick ++ le 2 (wrapInt 2 k.lastTemp) ++ le 1 k.trigger ++
      le 1 (b2n (v.calPending c) + 2 * b2n (v.calRunning c) + 4 * b2n k.causing + 8 * b2n k.above) ++ le 4 k.skipped

def runCalQuery (v : Mod) (r : Req) (m : Mod) : Mod :=
  if r.payload ≠ [] then malformed r m
  else answer r stOK ((List.range 6).flatMap (calQueryEntry v)) m

def execCalQuery (p : Packet) (s : State) : Host.Outcome State Fault Refusal := query 0x45 p runCalQuery s

/-! ### Wrong lane (R326 – R330) -/

/-- D of R326 for a window at the end of its 64-tick locked run, in mW. -/
def Mod.laneD (m : Mod) (w : Nat) : Rat :=
  let t := m.unitTemp 3 (tileOfWindow w)
  ((m.loop w).dSum : Rat) / (64 * 65536) - m.hLock w t - ((aget 0 m.cal.dacOffset w : Int) : Rat) * hUnit

/-- |D| exceeds half a LANE_EQ. -/
def Mod.wrongLane (m : Mod) (w : Nat) : Bool :=
  let d := m.laneD w
  decide (laneEq w (m.unitTemp 3 (tileOfWindow w)) < 2 * (if d < 0 then -d else d))

/-- Flag a window: its members are AT_RISK (R327). -/
def flagWindow (w : Nat) (m : Mod) : Mod :=
  let d := roundNE (m.laneD w / hUnit)
  let m := { m with cal := { m.cal with flagged := m.cal.flagged ++ [(w, m.tick.now, d)], wlLast := w } }
  (m.membersOf w).foldl (fun m x => m.impair x .atRisk 2 w) m

/-- WRONG_LANE_CHECK (R326): at the end of a 64-tick locked run. -/
def execWrongLaneCheck (window : Nat) (s : State) : Host.Outcome State Fault Refusal :=
  happens
    (fun m => m.running && decide (window < m.variant.windowCount) && (m.loop window).lockRun == 64 && m.inAuto window &&
      !(m.cal.flagged.any fun f => f.1 == window) && m.wrongLane window)
    (flagWindow window) s

/-- The flag is confirmed: lane n passes the ring, or the lane may be dark (R328). -/
def confirmed (w : Nat) (lit peak : Bool) : Bool := peak || (isDrop w && !lit)

/-- A peak of at least 3 dB over the start between 0.8 and 1.2 × LANE_EQ below the locked output, seen falling away. -/
def Signature.peak (x : Signature) : Bool :=
  let base := lget 0 x.seen 0
  (List.range x.seen.length).any fun i =>
    let depth : Int := 32768 * i
    let v := lget 0 x.seen i
    decide (1 ≤ i) && decide (i + 1 < x.seen.length) && decide (8 * x.laneEq ≤ 10 * depth) && decide (10 * depth ≤ 12 * x.laneEq) &&
      decide (base + 300 ≤ v) && decide (lget 0 x.seen (i - 1) ≤ v) && decide (lget 0 x.seen (i + 1) < v)

/-- The heater has fallen by 1.3 × LANE_EQ, or has reached OUT_MIN. -/
def Mod.sweepOver (m : Mod) (x : Signature) : Bool :=
  let depth : Int := 32768 * x.steps
  decide (13 * x.laneEq ≤ 10 * depth) || decide (((x.top - depth : Int) : Rat) / 65536 ≤ m.pval 0 0 18)

/-- The end of a signature sweep (R328, R329). -/
def sweepEnd (w : Nat) (lit peak : Bool) (m : Mod) : Mod :=
  let d := match m.cal.flagged.find? fun f => f.1 == w with
    | some f => f.2.2
    | none => 0
  let c := { m.cal with
    flagged := m.cal.flagged.filter fun f => f.1 != w, lostFlag := m.cal.lostFlag.filter fun x => x != w
    relock := insertNew w m.cal.relock }
  let t := m.unitTemp 3 (tileOfWindow w)
  if confirmed w lit peak then
    let shift := aget 0 m.cal.laneShift w + 1
    let m := { m with cal := { c with laneShift := aput c.laneShift w shift, confirmed := c.confirmed + 1 } }
    (m.record 0x41 m.origin
      (le 4 w ++ le 2 (wrapInt 2 shift) ++ le 2 0 ++ le 4 (wrapInt 4 d) ++ le 4 (roundNE (laneEq w t / hUnit)).toNat ++
        le 2 (wrapInt 2 t))).driveTo 0 w
  else ({ m with cal := { c with falses := c.falses + 1 } }).driveTo 0 w

/-- Sweeps that are over are decided: light is present where the port's input tap reads −25 dBm or more. -/
def Mod.endSweeps (m : Mod) : Mod :=
  (m.cal.sweeps.filter m.sweepOver).foldl
    (fun m x => sweepEnd x.window (decide (-2500 ≤ (m.loop (0x2000 + portOfWindow x.window)).inTap)) x.peak
      { m with cal := { m.cal with sweeps := m.cal.sweeps.filter fun y => y.window != x.window } }) m

/-- A sweep of the window begins from its locked output; it takes a start of its tile. -/
def beginSweep (w : Nat) (m : Mod) : Mod :=
  let top := roundNE (valOf (m.expOf w stOut) (m.loop w).u * 65536)
  let eq := roundNE (laneEq w (m.unitTemp 3 (tileOfWindow w)) * 65536)
  { m with
    trowel := { m.trowel with startsNow := amod 0 m.trowel.startsNow (tileOfWindow w) (· + 1) }
    cal := { m.cal with sweeps := m.cal.sweeps ++ [{ window := w, top := top, laneEq := eq, steps := 0, now := -4000, seen := [] }] } }

/-- SIGNATURE_SWEEP (R328): in a free tick in which the window's tile has a start free, between the boundary and Compute. -/
def execSignatureSweep (window : Nat) (_lit _peak : Unit) (s : State) : Host.Outcome State Fault Refusal :=
  happens
    (fun m => m.inPhase .boundary && m.driving && m.freeTick && !m.reinitOn 2 && (m.cal.flagged.any fun f => f.1 == window) &&
      (m.sweepAt window).isNone && m.canStart window && !m.inHold window)
    (beginSweep window) s

/-- A flag not swept for 10,000 ticks: the members of the window are LOST (R330). -/
def loseFlagged (w : Nat) (m : Mod) : Mod :=
  let m := { m with cal := { m.cal with lostFlag := m.cal.lostFlag ++ [w] } }
  (m.membersOf w).foldl (fun m x => m.impair x .lost 5 w) m

/-- WRONG_LANE_TIMEOUT (R330). -/
def execWrongLaneTimeout (window : Nat) (s : State) : Host.Outcome State Fault Refusal :=
  happens
    (fun m => m.running && !m.cal.lostFlag.contains window && (m.sweepAt window).isNone &&
      m.cal.flagged.any fun f => f.1 == window && decide (f.2.1 + 10000 ≤ m.tick.now))
    (loseFlagged window) s

end Sys2Proof.Machine
end

