-- ==== Sys2Proof/Machine/Memory.lean ====
section
/-! DEFINITION. The addressed memories of Mortar (course SRAM, a job's LPDDR6 region): lists of (address, byte) pairs in one
canonical form. Both are zeroed before they are granted (R276, R277), so an unlisted address reads 0. -/

namespace Sys2Proof.Machine

/-- A memory: addresses strictly rising, no byte equal to 0 listed. -/
abbrev Memory := List (Nat × BitVec 8)

/-- Every address from `lo` on, rising, and no zero byte. -/
def wfFrom : Nat → Memory → Bool
  | _, [] => true
  | lo, (a, b) :: t => decide (lo ≤ a) && b != 0 && wfFrom (a + 1) t

/-- The canonical form. -/
def Memory.wf (m : Memory) : Bool := wfFrom 0 m

/-- Read one byte. -/
def memGet : Memory → Nat → BitVec 8
  | [], _ => 0
  | (a, b) :: t, k => if a = k then b else memGet t k

/-- Write one byte, keeping the form: a zero removes its entry. -/
def memPut : Memory → Nat → BitVec 8 → Memory
  | [], k, x => if x = 0 then [] else [(k, x)]
  | (a, b) :: t, k, x =>
    if k < a then (if x = 0 then (a, b) :: t else (k, x) :: (a, b) :: t)
    else if k = a then (if x = 0 then t else (k, x) :: t)
    else (a, b) :: memPut t k x

/-- Read `n` bytes. -/
def memBytes (m : Memory) (a n : Nat) : List (BitVec 8) := (List.range n).map fun k => memGet m (a + k)

/-- Write bytes from an address on. -/
def memWrite (m : Memory) (a : Nat) : List (BitVec 8) → Memory
  | [] => m
  | b :: t => memWrite (memPut m a b) (a + 1) t

end Sys2Proof.Machine
end

