-- ==== Sys2Proof/Machine/MortarIsa.lean ====
section
/-! DEFINITION. The Mortar instruction word (R244, R248, R249): its encoding, its decoding, and which encodings are legal. -/

namespace Sys2Proof.Machine

/-- Instructions per class (R248). -/
def opCount (cls : Nat) : Nat := lget 0 [10, 20, 10, 12, 14, 14, 11] cls

/-- The word of an instruction (06 Table 4). -/
def mortarWord (cls op : Nat) (w : MWord) : BitVec 64 :=
  BitVec.ofNat 4 cls ++ BitVec.ofNat 6 op ++ w.fmt ++ w.rnd ++ BitVec.ofBool w.chk ++ BitVec.ofBool w.acc ++ w.mod ++ w.dst ++
    w.srcA ++ w.srcB ++ w.imm

/-- The fields of a word other than CLASS and OP. -/
def mortarFields (b : BitVec 64) : MWord :=
  { fmt := b.extractLsb' 50 4, rnd := b.extractLsb' 48 2, chk := b.getLsbD 47, acc := b.getLsbD 46
    mod := b.extractLsb' 40 6, dst := b.extractLsb' 32 8, srcA := b.extractLsb' 24 8, srcB := b.extractLsb' 16 8
    imm := b.extractLsb' 0 16 }

/-- CLASS, OP and the fields of a word. -/
def mortarDecode (b : BitVec 64) : Nat × Nat × MWord :=
  ((b.extractLsb' 60 4).toNat, (b.extractLsb' 54 6).toNat, mortarFields b)

/-- What an instruction's fields may hold (R249). A register field names one of the 32 scalar registers. -/
structure Use where
  fmts : List Nat
  acc  : Bool
  mod  : Nat
  dst  : Nat
  srcA : Nat
  srcB : Nat
  imm  : Nat
  kind : Bool
deriving DecidableEq, Repr

/-- Field kinds of `Use`: 0 unused, 1 a descriptor, 2 a scalar register. -/
def fNone : Nat := 0
def fDesc : Nat := 1
def fReg : Nat := 2

/-- R249, by class and OP. `mod` and `imm` give the greatest value or the mask of bits in use; `kind` marks a compare kind. -/
def useOf (cls op : Nat) : Use :=
  let kb := [0, 1, 2]
  let vec := [3, 4]
  let any := [0, 1, 2, 3, 4]
  let u (fmts : List Nat) (acc : Bool) (mod dst a b imm : Nat) : Use :=
    { fmts := fmts, acc := acc, mod := mod, dst := dst, srcA := a, srcB := b, imm := imm, kind := false }
  match cls with
  | 0 =>
    match op with
    | 2 => u kb true 0 0 0 1 0
    | 3 => u kb true 0 1 1 0 0
    | 4 => u kb true 7 1 1 1 0
    | 5 => u kb true 31 1 1 1 0
    | 7 => u kb true 63 1 1 1 0
    | 8 => u any true 0 1 0 0 0
    | 9 => u any true 0 1 0 0 0xFF
    | _ => u kb true 0 1 1 1 0
  | 1 =>
    match op with
    | 0 => u vec true 0 1 1 1 0
    | 3 => u vec true 0 1 1 1 0
    | 6 => u vec false 0 1 1 0 0
    | 7 => u vec false 0 1 1 0 0
    | 8 => u vec false 31 1 1 1 0
    | 9 => u vec false 0 1 1 0 0
    | 10 => u vec false 0 1 1 0 0
    | 11 => u vec false 0 1 1 0 0
    | 12 => u vec false 0 1 1 0 0
    | 13 => { u vec false 7 1 1 1 0 with kind := true }
    | 14 => u vec false 0 1 1 1 0xFF
    | 15 => u [4] false 0 1 1 1 0
    | 16 => u [4] false 0 1 1 1 0
    | 17 => u [4] false 0 1 1 1 0
    | 18 => u [4] false 31 1 1 1 0
    | 19 => u [4] false 31 1 1 1 0
    | _ => u vec false 0 1 1 1 0
  | 2 =>
    match op with
    | 0 => u kb false 0 1 1 0 0
    | 1 => u [1, 2] false 0 1 1 0 0
    | 2 => u kb false 0 1 1 0 0xFF
    | 3 => u vec false 0 1 1 0 0
    | 4 => u [4] false 0 1 1 0 0
    | 5 => u [3] false 0 1 1 0 0
    | 8 => u any false 1 1 1 0 0
    | 9 => u any false 1 1 1 0 0
    | _ => u any false 0 1 1 0 0
  | 3 =>
    match op with
    | 0 => u any true 0 1 1 0 0
    | 1 => u any true 0 1 1 0 0
    | 9 => u any false 0 1 1 0 0xF
    | 11 => u [0] false 0 0 0 0 0
    | _ => u any false 0 1 1 0 0
  | 4 =>
    match op with
    | 2 => u [0] false 0 2 0 0 0xFFFF
    | 3 => u [0] false 0 0 2 0 0xFFFF
    | 5 => u [0] false 0 1 2 0 0
    | 6 => u [0] false 0 1 2 0 0xFF
    | 7 => u [0] false 0 2 1 0 0xFF
    | 8 => u [0] false 1 1 1 2 0xFF
    | 9 => u [0] false 0 0 0 0 0xFF
    | 10 => u [0] false 0 1 1 1 0
    | 11 => u [0] false 0 1 1 1 0
    | 12 => u [0] false 0 1 1 1 0
    | 13 => u [0] false 3 1 0 0 0x801F
    | _ => u [0] false 0 1 1 0 0
  | 5 =>
    match op with
    | 0 => u [0] false 0 0 0 0 0xFFFF
    | 1 => { u [0] false 7 0 2 0 0xFFFF with kind := true }
    | 2 => u [0] false 0 0 0 0 0xFFFF
    | 4 => u [0] false 0 0 2 0 0xFFFF
    | 6 => u [0] false 0 2 0 0 0xFFFF
    | 7 => u [0] false 0 2 2 2 0
    | 8 => u [0] false 0 2 2 2 0
    | 9 => { u [0] false 7 2 2 2 0 with kind := true }
    | 10 => u [0] false 0 1 2 0 0
    | 11 => u [0] false 0 0 1 0 0
    | 13 => u [0] false 0 0 0 0 0xFFFF
    | _ => u [0] false 0 0 0 0 0
  | 6 =>
    match op with
    | 0 => u [0] false 1 0 0 0 0
    | 1 => u [0] false 0 2 0 0 0
    | 2 => u [0] false 0 0 0 0 7
    | 3 => u [0] false 0 2 0 0 0
    | 4 => u [0] false 0 2 0 0 0
    | 5 => u [0] false 0 2 0 0 0
    | 6 => u [0] false 0 0 2 2 0
    | 7 => u [0] false 0 0 0 0 0xFFFF
    | _ => u [0] false 0 0 0 0 0
  | _ => u [] false 0 0 0 0 0

/-- As `useOf`, where DMA2D's direction and SNAP's IMM[15] change which fields an instruction uses. -/
def useIn (cls op : Nat) (w : MWord) : Use :=
  let u := useOf cls op
  if cls = 4 ∧ op = 8 ∧ w.mod.getLsbD 0 then { u with dst := fReg }
  else if cls = 4 ∧ op = 8 then { u with srcA := fReg }
  else if cls = 4 ∧ op = 13 then (if w.imm.getLsbD 15 then { u with dst := fNone } else { u with imm := 0 })
  else u

/-- A source or destination field holds what its kind allows. -/
def fieldOk (kind v : Nat) : Bool :=
  if kind = fNone then v == 0 else if kind = fReg then decide (v < 32) else true

/-- Instructions whose rounding RND may make stochastic: those that 06 Table 5 marks V with RND = 1. -/
def takesRnd (cls op : Nat) : Bool := cls == 2 && decide (op < 3)

/-- A legal encoding (R246, R249): every field within what the instruction uses, all others 0. -/
def legalWord (cls op : Nat) (w : MWord) : Bool :=
  let u := useIn cls op w
  let imm := if cls = 0 && op != 9 && w.chk then 0xFF else u.imm
  decide (op < opCount cls) && u.fmts.contains w.fmt.toNat && (w.rnd == 0 || (w.rnd == 1 && takesRnd cls op)) &&
    (!w.chk || cls == 0) && (!w.acc || u.acc) && (w.mod.toNat &&& u.mod == w.mod.toNat) &&
    (!u.kind || decide (w.mod.toNat < 6)) && fieldOk u.dst w.dst.toNat && fieldOk u.srcA w.srcA.toNat &&
    fieldOk u.srcB w.srcB.toNat && (w.imm.toNat &&& imm == w.imm.toNat)

/-- The V instructions of V_USE in order: RND = 1, XRED, SCATADD, TICKRD, PERF, RNG (06 Table 10). -/
def vBits (cls op : Nat) (w : MWord) : Nat :=
  b2n (w.rnd == 1) + 2 * b2n (cls == 3 && op == 7) + 4 * b2n (cls == 4 && op == 12) + 8 * b2n (cls == 6 && op == 3) +
    16 * b2n (cls == 6 && op == 4) + 32 * b2n (cls == 6 && op == 5)

end Sys2Proof.Machine
end

