-- ==== Sys2Proof/Machine/Tensor.lean ====
section
/-! DEFINITION. Tensors in course SRAM (R236 – R243): where elements lie, their values, and writing rows with quantisation.
A result carries the new SRAM, the saturation and the block exponents produced; a stop is the reason that ends the client. -/

namespace Sys2Proof.Machine

/-- Why an instruction ends its client (06 Table 11). -/
inductive Stop where
  | bounds
  | illegal
  | guard
  | media
deriving DecidableEq, Repr

/-- Format codes. -/
def isKb (f : Nat) : Bool := decide (f < 3)

/-- Bits of one element. -/
def elemBits (f : Nat) : Nat := lget 32 [8, 4, 2, 16, 32] f

/-- Elements of a descriptor. -/
def Desc.count (d : Desc) : Nat := d.rows * d.cols

/-- Bytes of the mantissa or element stream. -/
def Desc.bytes (d : Desc) : Nat := (d.count * elemBits d.fmt + 7) / 8

/-- Blocks of a KB tensor. -/
def Desc.blocks (d : Desc) : Nat := (d.count + 31) / 32

/-- The descriptor lies inside the client's SRAM allocation (R246, R277). -/
def Desc.inside (d : Desc) (limit : Nat) : Bool :=
  decide (d.addr + d.bytes ≤ limit) && (!isKb d.fmt || decide (d.expAddr + d.blocks ≤ limit))

/-- The raw bits of element `n`. -/
def rawElem (m : Memory) (d : Desc) (n : Nat) : Nat :=
  match d.fmt with
  | 0 => (memGet m (d.addr + n)).toNat
  | 1 => bits (memGet m (d.addr + n / 2)).toNat (4 * (n % 2) + 3) (4 * (n % 2))
  | 2 => bits (memGet m (d.addr + n / 4)).toNat (2 * (n % 4) + 1) (2 * (n % 4))
  | 3 => unle (memBytes m (d.addr + 2 * n) 2)
  | _ => unle (memBytes m (d.addr + 4 * n) 4)

/-- Replace bits of a byte. -/
def putBits (b : BitVec 8) (lo width v : Nat) : BitVec 8 :=
  let old := b.toNat
  BitVec.ofNat 8 (old - bits old (lo + width - 1) lo * 2 ^ lo + v % 2 ^ width * 2 ^ lo)

/-- Write the raw bits of element `n`. -/
def putRaw (m : Memory) (d : Desc) (n v : Nat) : Memory :=
  match d.fmt with
  | 0 => memPut m (d.addr + n) (BitVec.ofNat 8 v)
  | 1 => let a := d.addr + n / 2; memPut m a (putBits (memGet m a) (4 * (n % 2)) 4 v)
  | 2 => let a := d.addr + n / 4; memPut m a (putBits (memGet m a) (2 * (n % 4)) 2 v)
  | 3 => memWrite m (d.addr + 2 * n) (le 2 v)
  | _ => memWrite m (d.addr + 4 * n) (le 4 v)

/-- The exponent of the block of element `n`. -/
def blockExp (m : Memory) (d : Desc) (n : Nat) : Nat := (memGet m (d.expAddr + n / 32)).toNat

/-- A block with the reserved exponent 0xFF (R237). -/
def reservedExp (m : Memory) (d : Desc) : Bool :=
  isKb d.fmt && (List.range d.blocks).any fun j => memGet m (d.expAddr + j) == 0xFF

/-- The integer that element `n` holds: a mantissa, or an I32. -/
def intElem (m : Memory) (d : Desc) (n : Nat) : Int := signed (elemBits d.fmt) (rawElem m d n)

/-- The value of element `n` (R237, R239). -/
def valElem (m : Memory) (d : Desc) (n : Nat) : Rat :=
  match d.fmt with
  | 3 => kfVal (BitVec.ofNat 16 (rawElem m d n))
  | 4 => (intElem m d n : Rat) * pow2 d.accExp
  | _ => (intElem m d n : Rat) * pow2 ((blockExp m d n : Int) - 127)

/-- Element (r, c); one outside the tensor has no stated value and is free. -/
def valAt (m : Memory) (d : Desc) (r c : Nat) : Rat :=
  if r < d.rows ∧ c < d.cols then valElem m d (r * d.cols + c)
  else (Config.mortarOpen 1 [(d.addr : Int), r, c] : Rat)

/-- Element `n` in order, free outside the tensor. -/
def valNth (m : Memory) (d : Desc) (n : Nat) : Rat :=
  if n < d.count then valElem m d n else (Config.mortarOpen 1 [(d.addr : Int), n] : Rat)

/-- The integer of element `n`, free outside the tensor. -/
def intNth (m : Memory) (d : Desc) (n : Nat) : Int :=
  if n < d.count then intElem m d n else Config.mortarOpen 2 [(d.addr : Int), n]

/-- What producing elements does: SRAM, saturation, exponents produced. -/
structure Made where
  mem  : Memory
  sat  : Bool
  exps : List Nat
deriving DecidableEq, Repr

/-- The I32 range (R240). -/
def i32Min : Int := -2147483648
def i32Max : Int := 2147483647

def satI32 (v : Int) : Int × Bool := (clampI i32Min i32Max v, decide (v < i32Min) || decide (i32Max < v))

/-- Write an I32. -/
def Made.i32 (k : Made) (d : Desc) (n : Nat) (v : Int) : Made :=
  let q := satI32 v
  { k with mem := putRaw k.mem d n (wrapInt 4 q.1), sat := k.sat || q.2 }

/-- Write a KF16 by one rounding. -/
def Made.kf (k : Made) (d : Desc) (n : Nat) (v : Rat) : Made :=
  let q := kfOf v
  { k with mem := putRaw k.mem d n q.1.toNat, sat := k.sat || q.2 }

/-- The mantissa range of a KB format. -/
def kbMin (f : Nat) : Int := -(2 ^ (elemBits f - 1) : Int)
def kbMax (f : Nat) : Int := 2 ^ (elemBits f - 1) - 1

/-- The rounded mantissas of values at an exponent. -/
def mantsAt (e : Nat) (up : Nat → Option Bool) (vs : List Rat) : List Int :=
  (vs.zip (List.range vs.length)).map fun p => roundBy (up p.2) (p.1 / pow2 ((e : Int) - 127))

/-- The exponent of a quantised block (R241): the smallest at which every mantissa fits; 0 for a block of zeros, 254 where
none does. -/
def quantExp (f : Nat) (up : Nat → Option Bool) (vs : List Rat) : Nat × Bool :=
  match (List.range 255).find? fun e => (mantsAt e up vs).all fun v => decide (kbMin f ≤ v) && decide (v ≤ kbMax f) with
  | some e => (e, false)
  | none => (254, true)

/-- Write a block of mantissas at an exponent, clamped (R237, R241); a block whose mantissas are all 0 takes exponent 0. -/
def Made.block (k : Made) (d : Desc) (j e : Nat) (up : Nat → Option Bool) (vs : List Rat) : Made :=
  let ms := mantsAt e up vs
  let cl := ms.map fun v => clampI (kbMin d.fmt) (kbMax d.fmt) v
  let e := if cl.all (· == 0) then 0 else e
  let mem := (cl.zip (List.range cl.length)).foldl
    (fun mem p => putRaw mem d (32 * j + p.2) (wrapInt 1 p.1)) k.mem
  { mem := memPut mem (d.expAddr + j) (BitVec.ofNat 8 e), sat := k.sat || ms != cl, exps := k.exps ++ [e] }

/-- Write all values of a tensor in its descriptor's format: KB by quantisation, KF16 and I32 by one rounding each. -/
def Made.values (k : Made) (d : Desc) (up : Nat → Option Bool) (vs : List Rat) : Made :=
  match d.fmt with
  | 3 => (vs.zip (List.range vs.length)).foldl (fun k p => k.kf d p.2 p.1) k
  | 4 => (vs.zip (List.range vs.length)).foldl (fun k p => k.i32 d p.2 (roundNE (p.1 / pow2 d.accExp))) k
  | _ => (List.range d.blocks).foldl (fun k j =>
      let b := (vs.drop (32 * j)).take 32
      let q := quantExp d.fmt (fun n => up (32 * j + n)) b
      k.block d j q.1 (fun n => up (32 * j + n)) b) k

/-- Nearest-even for every element. -/
def nearest : Nat → Option Bool := fun _ => none

/-- Every value of a tensor, in order. -/
def valuesOf (m : Memory) (d : Desc) : List Rat := (List.range d.count).map (valElem m d)

/-! ### Matrix products (R242) -/

/-- One output element: block pairs of 32 in ascending K order, each aligned to ACC_EXP by one rounding, each addition
saturating. `keep` says which K take part. -/
def dot (a b : Nat → Rat) (kLen : Nat) (accExp : Int) (keep : Nat → Bool) (start : Int) : Int × Bool :=
  (List.range ((kLen + 31) / 32)).foldl (fun p j =>
    let ks := (List.range 32).filter fun i => decide (32 * j + i < kLen) && keep (32 * j + i)
    let s : Rat := (ks.map fun i => a (32 * j + i) * b (32 * j + i)).foldl (· + ·) 0
    let al := satI32 (roundNE (s / pow2 accExp))
    let q := satI32 (p.1 + al.1)
    (q.1, p.2 || al.2 || q.2)) (start, false)

/-- A product into an I32 accumulator: `a r k`, `b c k` give the operands; a row or element not `live` keeps its value. -/
def product (k : Made) (d : Desc) (kLen : Nat) (acc : Bool) (a b : Nat → Nat → Rat) (keep : Nat → Nat → Bool)
    (live : Nat → Bool) : Made :=
  let old := k.mem
  (List.range d.count).foldl (fun k n =>
    let r := n / d.cols
    let c := n % d.cols
    if !live r then k
    else
      let start : Int := if acc then intElem old d n else 0
      let q := dot (a r) (b c) kLen d.accExp (keep c) start
      { k with mem := putRaw k.mem d n (wrapInt 4 q.1), sat := k.sat || q.2 }) k

end Sys2Proof.Machine
end

