-- ==== Sys2Proof/Machine/MortarRun.lean ====
section
/-! DEFINITION. Running Mortar instructions for customer jobs: the course and its job, the end of a job (R277, R285), the
sticky flags and monitors (R250 – R253), and the frame that every instruction row shares (R244 – R249). -/

namespace Sys2Proof.Machine

/-! ### Courses and jobs -/

def Mod.course (m : Mod) (c : Nat) : Course := lget .init m.mortar.courses c

def Mod.setCourse (m : Mod) (c : Nat) (f : Course → Course) : Mod :=
  { m with mortar := { m.mortar with courses := lmod m.mortar.courses c f } }

def Mod.setJob (m : Mod) (slot : Nat) (f : Job → Job) : Mod :=
  { m with mortar := { m.mortar with jobs := m.mortar.jobs.map fun p => if p.1 = slot then (p.1, f p.2) else p } }

def Mod.job (m : Mod) (slot : Nat) : Option Job := (m.mortar.jobs.find? fun p => p.1 == slot).map Prod.snd

/-- The courses of a job issue instructions: it runs, or is pausing and has not yet stopped (R283). -/
def Job.issuing (j : Job) : Bool := j.state == .running || (j.state == .pausing && !j.stopped)

/-- The issuing job that holds a course. -/
def Mod.jobOf (m : Mod) (c : Nat) : Option (Nat × Job) :=
  m.mortar.jobs.find? fun p => p.2.issuing && p.2.courses.contains c

/-- Instructions in a package's code (R273). -/
def Job.codeWords (j : Job) : Nat := field j.package 8 4

/-- Code word `n` of a package (R273). -/
def Job.word (j : Job) (n : Nat) : Option (BitVec 64) :=
  if n < j.codeWords then some (BitVec.ofNat 64 (field j.package (256 + 8 * n) 8)) else none

/-- Bytes of SRAM that a job has on each course (R277). -/
def Job.sramLimit (j : Job) : Nat := 1024 * min 4096 (field j.package 28 4)

/-- Bytes of a job's LPDDR6 region (R277). -/
def Job.region (j : Job) : Nat := 1048576 * j.lpddrMib

/-- GUARD_POLICY is STOP (R282). -/
def Job.stopsOnGuard (j : Job) : Bool := field j.package 23 1 == 1

/-- What belongs to a course and not to its client: its failure mark, its errors and its operating point. -/
def Course.keep (k new : Course) : Course :=
  { new with failed := k.failed, errors := k.errors, failing := k.failing, opp := k.opp }

/-- A course as a client finds it: everything of the last client gone. -/
def Course.clean (k : Course) : Course := k.keep .init

def Mod.cleanCourses (m : Mod) (l : List Nat) : Mod := l.foldl (fun m c => m.setCourse c Course.clean) m

/-- EXIT (R285). -/
def exitWord (reason code : Nat) : Word := BitVec.ofNat 32 (reason * 16777216 + code % 65536)

/-- A job ends (R277, R285): its courses and region are given back zeroed, the final reply of its JOB_START leaves, behind a
detail block where it is E_MEDIA (R157), and a class 7 event follows. -/
def Mod.endJob (m : Mod) (slot reason code : Nat) : Mod :=
  match m.job slot with
  | none => m
  | some j =>
    let x := exitWord reason code
    let m := (m.cleanCourses j.courses).setJob slot fun j =>
      { j with state := .ended, exit := x, courses := [], mem := [], reclaimed := false, waiter := none }
    let body := le 4 x.toNat ++ le 4 0 ++ le 8 j.ticks
    (if reason = 7 then m.finalTo j.waiter eMEDIA (plain ++ body) else m.finalTo j.waiter stOK body).event 7
      (le 4 j.id.toNat ++ le 4 x.toNat ++ le 8 j.ticks)

/-- Exit reason of a stop (06 Table 11). -/
def Stop.reason : Stop → Nat
  | .bounds => 3
  | .illegal => 4
  | .guard => 6
  | .media => 7

/-! ### Flags (R250 – R253) -/

/-- Add to the client's flags, and to what JOB_QUERY reports as seen. -/
def Mod.jobFlag (m : Mod) (c : Nat) (b : BitVec 3) : Mod :=
  match m.jobOf c with
  | some (n, _) => m.setJob n fun j => { j with flags := j.flags ||| b, seen := j.seen ||| b }
  | none => m

/-- Saturation on a course (R250). -/
def Mod.saturated (m : Mod) (c : Nat) : Mod :=
  ({ m with mortar := { m.mortar with flags := m.mortar.flags.put (wbit (16 + c)) } }).jobFlag c 1

/-- `n` produced exponents out of range on a course (R251). -/
def Mod.outOfRange (m : Mod) (c n : Nat) : Mod :=
  if n = 0 then m
  else ({ m with mortar := { m.mortar with
      range := m.mortar.range.put (wbit c), rangeEvents := m.mortar.rangeEvents + n } }).jobFlag c 4

/-- `n` residue mismatches on a course (R253). -/
def Mod.mismatched (m : Mod) (c n : Nat) : Mod :=
  if n = 0 then m
  else
    let m := ({ m with mortar := { m.mortar with
      flags := m.mortar.flags.put (wbit c), mismatches := m.mortar.mismatches + n } }).jobFlag c 2
    match m.jobOf c with
    | some (k, _) => m.setJob k fun j => { j with mismatches := j.mismatches + n }
    | none => m

/-- `n` EXACT mismatches (kind 0) or uncorrectable SRAM errors (kind 1) of a course count toward its failure: with 3 of one kind within
100,000 ticks it becomes FAILED, which takes effect at the next boundary (R254). -/
def Mod.courseErrors (m : Mod) (c kind n : Nat) : Mod :=
  m.setCourse c fun k =>
    let e := (k.errors.filter fun x => decide (m.tick.now < x.2 + 100000)) ++ List.replicate n (kind, m.tick.now)
    { k with
      errors := e
      failing := if k.failing.isSome then k.failing else if 3 ≤ (e.filter fun x => x.1 == kind).length then some kind else none }

/-- An exponent outside EXP_LO – EXP_HI of GUARD_CFG (R251). -/
def Mod.expBad (m : Mod) (e : Nat) : Bool :=
  decide (e < bits m.mortar.guardCfg.toNat 15 8) || decide (bits m.mortar.guardCfg.toNat 23 16 < e)

/-- Store what an instruction made on a course, with its flags. -/
def Mod.made (m : Mod) (c : Nat) (k : Made) : Mod :=
  let m := m.setCourse c fun x => { x with sram := k.mem }
  let m := if k.sat then m.saturated c else m
  m.outOfRange c (k.exps.filter m.expBad).length

/-! ### Operands -/

/-- A scalar register; a number above 31 names none, and its value is free. -/
def Mod.reg (m : Mod) (c n : Nat) : BitVec 64 :=
  if n < 32 then aget 0 (m.course c).regs n else BitVec.ofInt 64 (Config.mortarOpen 4 [(n : Int)])

def Mod.setReg (m : Mod) (c : Nat) (n : BitVec 8) (v : BitVec 64) : Mod :=
  m.setCourse c fun x => { x with regs := aput x.regs n.toNat v }

/-- A descriptor that nothing has loaded. -/
def Desc.none : Desc := { addr := 0, rows := 0, cols := 0, fmt := 0, expAddr := 0, accExp := 0 }

def Mod.desc (m : Mod) (c : Nat) (n : BitVec 8) : Desc := aget .none (m.course c).descs n.toNat

/-- The tensor a field names, read in a given format. -/
def Mod.tensor (m : Mod) (c : Nat) (n : BitVec 8) (fmt : Nat) : Desc := { m.desc c n with fmt := fmt }

/-- The SRAM allocation of the course's client. -/
def Mod.sramLimit (m : Mod) (c : Nat) : Nat :=
  match m.jobOf c with
  | some (_, j) => j.sramLimit
  | none => 0

/-- What an instruction leaves: the module, and why it stops its client where it does. -/
abbrev Ran := Mod × Option Stop

/-- The checks that a tensor instruction makes before it starts (R237, R246, R277). -/
def Mod.tensorStop (m : Mod) (c : Nat) (srcs dsts : List Desc) : Option Stop :=
  if !((srcs ++ dsts).all fun d => d.inside (m.sramLimit c)) then some .bounds
  else if srcs.any (reservedExp (m.course c).sram) then some .illegal
  else none

/-- An instruction over tensors in SRAM. -/
def tensorOp (c : Nat) (srcs dsts : List Desc) (f : Made → Made) (m : Mod) : Ran :=
  match m.tensorStop c srcs dsts with
  | some e => (m, some e)
  | none => (m.made c (f { mem := (m.course c).sram, sat := false, exps := [] }), none)

/-! ### The frame of an instruction -/

/-- Felso holds the course halted, with no step asked for (R506). -/
def Mod.courseHalted (m : Mod) (c : Nat) : Bool :=
  m.felso.halted.contains (16 + c) && aget 0 m.felso.steps (16 + c) == 0

/-- Felso's part after an instruction of a course: a step is used up, and a breakpoint at the next instruction halts the
course. -/
def Mod.felsoAfter (m : Mod) (c : Nat) : Mod :=
  let f := m.felso
  let f := if f.halted.contains (16 + c) then { f with steps := aput f.steps (16 + c) (aget 0 f.steps (16 + c) - 1) } else f
  let hit := f.breaks.any fun (b : Nat × Word) => b.1 == 16 + c && b.2.toNat == (m.course c).pc
  { m with felso := if hit then { f with halted := insertNew (16 + c) f.halted } else f }

/-- The instruction is the next of its course: the course works for a running job, is not halted, waits for nothing, and its
code word is this one. -/
def Mod.issues (m : Mod) (cls op c : Nat) (w : MWord) : Bool :=
  m.tick.running && m.variant.courses.getLsbD c && !(m.course c).failed && !m.courseHalted c &&
    (match m.domain c with | some d => d.state == .on | none => false) &&
    (match m.jobOf c with
     | some (_, j) => (m.course c).wait == .none && j.word (m.course c).pc == some (mortarWord cls op w)
     | none => false)

/-- The client stops: its job ends (R282, R285). -/
def Mod.stopJob (m : Mod) (c : Nat) (e : Stop) : Mod :=
  match m.jobOf c with
  | some (n, _) => m.endJob n e.reason 0
  | none => m

/-- Move past an instruction; class 0 instructions are counted modulo 64 (R252). -/
def Mod.passed (m : Mod) (cls c : Nat) : Mod :=
  m.setCourse c fun x => { x with pc := x.pc + 1, count0 := if cls = 0 then (x.count0 + 1) % 64 else x.count0 }

/-- What an instruction does to the module once it issues: an illegal encoding stops the client, and a run that stops does. -/
def Mod.perform (m : Mod) (cls op c : Nat) (w : MWord) (run : Mod → Ran) : Mod :=
  if !legalWord cls op w then m.stopJob c .illegal
  else
    match run m with
    | (m, none) => m
    | (m, some e) => m.stopJob c e

/-- An instruction row: nothing happens where the instruction is not its course's next. `run` places the course's pc itself. -/
def control (cls op c : Nat) (w : MWord) (run : Mod → Ran) (s : State) : Host.Outcome State Fault Refusal :=
  happens (fun m => m.issues cls op c w) (fun m => (m.perform cls op c w run).felsoAfter c) s

/-- An instruction after which the next one follows. -/
def instruct (cls op c : Nat) (w : MWord) (run : Mod → Ran) (s : State) : Host.Outcome State Fault Refusal :=
  control cls op c w (fun m => let q := run m; (if q.2.isNone then q.1.passed cls c else q.1, q.2)) s

end Sys2Proof.Machine
end

