-- ==== Sys2Proof/Machine/MortarMath.lean ====
section
/-! DEFINITION. Mortar classes 0 – 3 but for the exchange (R242, R245, R249, R252, R253): matrix products, elementwise
operations, format conversions, row and column reductions. -/

namespace Sys2Proof.Machine

/-! ### Class 0 -/

/-- The rows that the residue-check lane recomputes (R252). -/
def checkedRows (count0 : Nat) (d : Desc) : List Nat := (List.range d.rows).filter fun r => (r + count0) % 64 == 0

/-- A checked row mismatches in SHADOW (R253): d × 2^TOL_SHIFT > s. -/
def rowBad (tol : Nat) (main chk : Memory) (d : Desc) (r : Nat) : Bool :=
  let es := (List.range d.cols).map fun c => (intElem main d (r * d.cols + c), intElem chk d (r * d.cols + c))
  let diff : Int := (es.map fun p => |p.1 - p.2|).foldl max 0
  let top : Int := (es.map fun p => |p.2|).foldl max 0
  decide (top < diff * 2 ^ tol)

/-- A checked row mismatches in EXACT (R253): some element is not the main result's. -/
def rowDiffers (main chk : Memory) (d : Desc) (r : Nat) : Bool :=
  (List.range d.cols).any fun c => rawElem main d (r * d.cols + c) != rawElem chk d (r * d.cols + c)

/-- A product with its residue check. `f x` forms the product with `x` as its A tensor. EXACT recomputes it from the instruction's own
operands, whose widening to KB8 loses nothing: only an error of the hardware, which comes with COURSE_FAIL, makes it differ. SHADOW
takes the shadow tensor as A. -/
def matrix (c : Nat) (w : MWord) (srcs : List Desc) (a d : Desc) (f : Desc → Made → Made) (m : Mod) : Ran :=
  let k := m.course c
  let sh := { m.desc c (w.imm.setWidth 8) with fmt := 0 }
  let shadow := w.chk && k.shadowChk
  let start : Made := { mem := k.sram, sat := false, exps := [] }
  match m.tensorStop c (a :: srcs ++ (if shadow then [sh] else [])) [d] with
  | some e => (m, some e)
  | none =>
    let main := f a start
    let m' := m.made c main
    if !w.chk then (m', none)
    else
      let chk := f (if shadow then sh else a) start
      let differs := if shadow then rowBad (bits m.mortar.guardCfg.toNat 3 0) main.mem chk.mem d else rowDiffers main.mem chk.mem d
      let bad := (checkedRows k.count0 d).filter differs
      let m' := m'.mismatched c bad.length
      let stops := !shadow || (match m.jobOf c with
        | some (_, j) => j.stopsOnGuard
        | none => false)
      (if shadow then m' else m'.courseErrors c 0 bad.length, if !bad.isEmpty && stops then some .guard else none)

/-- Everything takes part. -/
def everyK : Nat → Nat → Bool := fun _ _ => true

def everyRow : Nat → Bool := fun _ => true

/-- C = A × B by blocks along K (R242), `row r` masking rows. -/
def runMma (c : Nat) (w : MWord) (live : Mod → Nat → Bool) (m : Mod) : Ran :=
  let d := m.tensor c w.dst 4
  let a := m.tensor c w.srcA w.fmt.toNat
  let b := m.tensor c w.srcB w.fmt.toNat
  matrix c w [b] a d (fun x k => product k d a.cols w.acc (valAt k.mem x) (valAt k.mem b) everyK (live m)) m

def execMma (course : Nat) (w : MWord) (s : State) : Host.Outcome State Fault Refusal :=
  instruct 0 0 course w (runMma course w fun _ => everyRow) s

/-- As MMA with A stored as K rows of M. -/
def runMmat (c : Nat) (w : MWord) (m : Mod) : Ran :=
  let d := m.tensor c w.dst 4
  let a := m.tensor c w.srcA w.fmt.toNat
  let b := m.tensor c w.srcB w.fmt.toNat
  matrix c w [b] a d (fun x k => product k d a.rows w.acc (fun r j => valAt k.mem x j r) (valAt k.mem b) everyK everyRow) m

def execMmat (course : Nat) (w : MWord) (s : State) : Host.Outcome State Fault Refusal :=
  instruct 0 1 course w (runMmat course w) s

/-- The stationary weights are those that SRCB holds now. -/
def runMmaw (c : Nat) (w : MWord) (m : Mod) : Ran :=
  let b := m.tensor c w.srcB w.fmt.toNat
  match m.tensorStop c [b] [] with
  | some e => (m, some e)
  | none => (m.setCourse c fun k => { k with weights := some (b, k.sram) }, none)

def execMmaw (course : Nat) (w : MWord) (s : State) : Host.Outcome State Fault Refusal :=
  instruct 0 2 course w (runMmaw course w) s

/-- Weight (n, k) of the array; with none loaded its value is free. -/
def Course.weight (k : Course) (n j : Nat) : Rat :=
  match k.weights with
  | some (b, mem) => valAt mem b n j
  | none => (Config.mortarOpen 3 [(n : Int), j] : Rat)

def runMmas (c : Nat) (w : MWord) (m : Mod) : Ran :=
  let d := m.tensor c w.dst 4
  let a := m.tensor c w.srcA w.fmt.toNat
  matrix c w [] a d (fun x k => product k d a.cols w.acc (valAt k.mem x) (m.course c).weight everyK everyRow) m

def execMmas (course : Nat) (w : MWord) (s : State) : Host.Outcome State Fault Refusal :=
  instruct 0 3 course w (runMmas course w) s

/-- The product of the diagonal blocks of 32 × 2^MOD[2:0] elements. -/
def runMmad (c : Nat) (w : MWord) (m : Mod) : Ran :=
  let d := m.tensor c w.dst 4
  let a := m.tensor c w.srcA w.fmt.toNat
  let b := m.tensor c w.srcB w.fmt.toNat
  let n := 32 * 2 ^ w.mod.toNat
  matrix c w [b] a d (fun x k =>
    product k d a.cols w.acc (fun r j => if r / n = j / n then valAt k.mem x r j else 0) (valAt k.mem b)
      (fun c j => c / n == j / n) everyRow) m

def execMmad (course : Nat) (w : MWord) (s : State) : Host.Outcome State Fault Refusal :=
  instruct 0 4 course w (runMmad course w) s

/-- Row r is computed where bit r mod 64 of the scalar register MOD is 1. -/
def rowMask (c : Nat) (w : MWord) (m : Mod) (r : Nat) : Bool := (m.reg c w.mod.toNat).getLsbD (r % 64)

def execMmax (course : Nat) (w : MWord) (s : State) : Host.Outcome State Fault Refusal :=
  instruct 0 5 course w (runMma course w (rowMask course w)) s

def runOuter (c : Nat) (w : MWord) (m : Mod) : Ran :=
  let d := m.tensor c w.dst 4
  let a := m.tensor c w.srcA w.fmt.toNat
  let b := m.tensor c w.srcB w.fmt.toNat
  matrix c w [b] a d (fun x k =>
    product k d 1 true (fun r _ => valNth k.mem x r) (fun n _ => valNth k.mem b n) everyK everyRow) m

def execOuter (course : Nat) (w : MWord) (s : State) : Host.Outcome State Fault Refusal :=
  instruct 0 6 course w (runOuter course w) s

/-- C[r][c] = Σ A[r][c + j] × kernel[j] over MOD + 1 elements; row r takes row r mod (rows of B) of the kernel. -/
def runConv1 (c : Nat) (w : MWord) (m : Mod) : Ran :=
  let d := m.tensor c w.dst 4
  let a := m.tensor c w.srcA w.fmt.toNat
  let b := m.tensor c w.srcB w.fmt.toNat
  let n := w.mod.toNat + 1
  matrix c w [b] a d (fun x k =>
    let old := k.mem
    (List.range d.count).foldl (fun k e =>
      let r := e / d.cols
      let q := dot (fun j => valAt old x r (e % d.cols + j)) (fun j => valAt old b (r % b.rows) j) n d.accExp (fun _ => true)
        (if w.acc then intElem old d e else 0)
      { k with mem := putRaw k.mem d e (wrapInt 4 q.1), sat := k.sat || q.2 }) k) m

def execConv1 (course : Nat) (w : MWord) (s : State) : Host.Outcome State Fault Refusal :=
  instruct 0 7 course w (runConv1 course w) s

def runAccz (c : Nat) (w : MWord) (m : Mod) : Ran :=
  let d := m.tensor c w.dst 4
  tensorOp c [] [d] (fun k => (List.range d.count).foldl (fun k n => k.i32 d n 0) k) m

def execAccz (course : Nat) (w : MWord) (s : State) : Host.Outcome State Fault Refusal :=
  instruct 0 8 course w (runAccz course w) s

def runAccset (c : Nat) (w : MWord) (m : Mod) : Ran :=
  (m.setCourse c fun k => { k with descs := aput k.descs w.dst.toNat { m.desc c w.dst with accExp := signed 8 (w.imm.toNat % 256) } }, none)

def execAccset (course : Nat) (w : MWord) (s : State) : Host.Outcome State Fault Refusal :=
  instruct 0 9 course w (runAccset course w) s

/-! ### Class 1 -/

/-- Write every element of a tensor as an exact value, in the tensor's format by one rounding each. -/
def Made.fill (k : Made) (d : Desc) (f : Nat → Rat) : Made := k.values d nearest ((List.range d.count).map f)

/-- An elementwise operation on values: `f` has the values of SRCA, SRCB and DST. -/
def runVec (c : Nat) (w : MWord) (two : Bool) (f : Rat → Rat → Rat → Rat) (m : Mod) : Ran :=
  let d := m.tensor c w.dst w.fmt.toNat
  let a := m.tensor c w.srcA w.fmt.toNat
  let b := m.tensor c w.srcB w.fmt.toNat
  tensorOp c (if two then [a, b] else [a]) [d]
    (fun k => k.fill d fun n => f (valNth k.mem a n) (if two then valNth k.mem b n else 0) (valNth k.mem d n)) m

def execVadd (course : Nat) (w : MWord) (s : State) : Host.Outcome State Fault Refusal :=
  instruct 1 0 course w (runVec course w true fun a b d => if w.acc then a + b + d else a + b) s

def execVsub (course : Nat) (w : MWord) (s : State) : Host.Outcome State Fault Refusal :=
  instruct 1 1 course w (runVec course w true fun a b _ => a - b) s

def execVmul (course : Nat) (w : MWord) (s : State) : Host.Outcome State Fault Refusal :=
  instruct 1 2 course w (runVec course w true fun a b _ => a * b) s

def execVfma (course : Nat) (w : MWord) (s : State) : Host.Outcome State Fault Refusal :=
  instruct 1 3 course w (runVec course w true fun a b d => a * b + d) s

def execVmax (course : Nat) (w : MWord) (s : State) : Host.Outcome State Fault Refusal :=
  instruct 1 4 course w (runVec course w true fun a b _ => if a < b then b else a) s

def execVmin (course : Nat) (w : MWord) (s : State) : Host.Outcome State Fault Refusal :=
  instruct 1 5 course w (runVec course w true fun a b _ => if b < a then b else a) s

def execVabs (course : Nat) (w : MWord) (s : State) : Host.Outcome State Fault Refusal :=
  instruct 1 6 course w (runVec course w false fun a _ _ => if a < 0 then -a else a) s

def execVneg (course : Nat) (w : MWord) (s : State) : Host.Outcome State Fault Refusal :=
  instruct 1 7 course w (runVec course w false fun a _ _ => -a) s

/-- A bound of VCLAMP as a value: a KF16 in the low 16 bits, or an integer at DST's ACC_EXP. -/
def boundVal (d : Desc) (v : BitVec 64) : Rat :=
  if d.fmt = 3 then kfVal (v.setWidth 16) else (v.toInt : Rat) * pow2 d.accExp

/-- Clamp to bounds; where the lower lies above the upper the result is free. -/
def clampVal (lo hi x : Rat) : Rat :=
  if hi < lo then (Config.mortarOpen 5 [lo.num, lo.den, hi.num, hi.den, x.num, x.den] : Rat)
  else if x < lo then lo else if hi < x then hi else x

def runVclamp (c : Nat) (w : MWord) (m : Mod) : Ran :=
  let d := m.tensor c w.dst w.fmt.toNat
  let n := w.mod.toNat % 32
  runVec c w false (fun a _ _ => clampVal (boundVal d (m.reg c n)) (boundVal d (m.reg c (n + 1))) a) m

def execVclamp (course : Nat) (w : MWord) (s : State) : Host.Outcome State Fault Refusal :=
  instruct 1 8 course w (runVclamp course w) s

/-- The raw bits of element `n`, free outside the tensor. -/
def rawNth (mem : Memory) (t : Desc) (n : Nat) : Nat :=
  if n < t.count then rawElem mem t n else (Config.mortarOpen 6 [(t.addr : Int), n]).toNat

/-- An elementwise operation on raw element bits. -/
def runRaw (c : Nat) (w : MWord) (two : Bool) (f : Nat → Nat → Nat) (m : Mod) : Ran :=
  let d := m.tensor c w.dst w.fmt.toNat
  let a := m.tensor c w.srcA w.fmt.toNat
  let b := m.tensor c w.srcB w.fmt.toNat
  tensorOp c (if two then [a, b] else [a]) [d] (fun k =>
    let old := k.mem
    (List.range d.count).foldl (fun k n =>
      { k with mem := putRaw k.mem d n (f (rawNth old a n) (if two then rawNth old b n else 0)) }) k) m

/-- The four operations that the microcode tables define (06 Table 5), saturating (R239, R240). -/
def runTable (t c : Nat) (w : MWord) (m : Mod) : Ran :=
  let d := m.tensor c w.dst w.fmt.toNat
  let a := m.tensor c w.srcA w.fmt.toNat
  tensorOp c [a] [d] (fun k =>
    let old := k.mem
    (List.range d.count).foldl (fun k n =>
      let v := Config.microcodeTable t d.fmt (rawNth old a n)
      if d.fmt = 3 then k.kf d n ((v : Rat) * pow2 (-39)) else k.i32 d n v) k) m

def execVrcp (course : Nat) (w : MWord) (s : State) : Host.Outcome State Fault Refusal :=
  instruct 1 9 course w (runTable 0 course w) s

def execVrsq (course : Nat) (w : MWord) (s : State) : Host.Outcome State Fault Refusal :=
  instruct 1 10 course w (runTable 1 course w) s

def execVexp2 (course : Nat) (w : MWord) (s : State) : Host.Outcome State Fault Refusal :=
  instruct 1 11 course w (runTable 2 course w) s

def execVlog2 (course : Nat) (w : MWord) (s : State) : Host.Outcome State Fault Refusal :=
  instruct 1 12 course w (runTable 3 course w) s

/-- The compare kinds of R249. -/
def compares (kind : Nat) (a b : Rat) : Bool :=
  match kind with
  | 0 => decide (a = b)
  | 1 => decide (a ≠ b)
  | 2 => decide (a < b)
  | 3 => decide (a ≤ b)
  | 4 => decide (b < a)
  | _ => decide (b ≤ a)

/-- The raw element that stands for 1 in a mask: 1.0 in KF16, the integer 1 in I32. -/
def maskOne (fmt : Nat) : Nat := if fmt = 3 then 0x3E00 else 1

def runVcmp (c : Nat) (w : MWord) (m : Mod) : Ran :=
  let d := m.tensor c w.dst w.fmt.toNat
  let a := m.tensor c w.srcA w.fmt.toNat
  let b := m.tensor c w.srcB w.fmt.toNat
  tensorOp c [a, b] [d] (fun k =>
    let old := k.mem
    (List.range d.count).foldl (fun k n =>
      let v := if compares w.mod.toNat (valNth old a n) (valNth old b n) then maskOne d.fmt else 0
      { k with mem := putRaw k.mem d n v }) k) m

def execVcmp (course : Nat) (w : MWord) (s : State) : Host.Outcome State Fault Refusal :=
  instruct 1 13 course w (runVcmp course w) s

def runVsel (c : Nat) (w : MWord) (m : Mod) : Ran :=
  let d := m.tensor c w.dst w.fmt.toNat
  let a := m.tensor c w.srcA w.fmt.toNat
  let b := m.tensor c w.srcB w.fmt.toNat
  let t := m.tensor c (w.imm.setWidth 8) w.fmt.toNat
  tensorOp c [a, b, t] [d] (fun k => k.fill d fun n =>
    if n < t.count ∧ rawElem k.mem t n = maskOne t.fmt then valNth k.mem a n else valNth k.mem b n) m

def execVsel (course : Nat) (w : MWord) (s : State) : Host.Outcome State Fault Refusal :=
  instruct 1 14 course w (runVsel course w) s

def execVand (course : Nat) (w : MWord) (s : State) : Host.Outcome State Fault Refusal :=
  instruct 1 15 course w (runRaw course w true fun a b => a &&& b) s

def execVor (course : Nat) (w : MWord) (s : State) : Host.Outcome State Fault Refusal :=
  instruct 1 16 course w (runRaw course w true fun a b => a ||| b) s

def execVxor (course : Nat) (w : MWord) (s : State) : Host.Outcome State Fault Refusal :=
  instruct 1 17 course w (runRaw course w true fun a b => a ^^^ b) s

/-- A shift of I32 elements by MOD. -/
def runShift (c : Nat) (w : MWord) (f : Int → Int) (m : Mod) : Ran :=
  let d := m.tensor c w.dst 4
  let a := m.tensor c w.srcA 4
  tensorOp c [a] [d] (fun k =>
    let old := k.mem
    (List.range d.count).foldl (fun k n => k.i32 d n (f (intNth old a n))) k) m

def execVshl (course : Nat) (w : MWord) (s : State) : Host.Outcome State Fault Refusal :=
  instruct 1 18 course w (runShift course w fun v => v * 2 ^ w.mod.toNat) s

/-- The bits shifted out are dropped. -/
def execVshr (course : Nat) (w : MWord) (s : State) : Host.Outcome State Fault Refusal :=
  instruct 1 19 course w (runShift course w fun v => v / 2 ^ w.mod.toNat) s

/-! ### Class 2 -/

/-- The random bit of each element's rounding: none under ORDERED or with RND = 0 (R243, R256). -/
def Mod.ups (m : Mod) (w : MWord) : Nat → Option Bool := fun n =>
  if w.rnd = 1 ∧ m.mortar.open_ then some (Config.freeNat (m.freeCtr + n) % 2 == 1) else none

/-- Convert SRCA, read in format `src`, to DST in format `dst`. -/
def runConvert (c : Nat) (w : MWord) (src dst : Nat) (m : Mod) : Ran :=
  let d := m.tensor c w.dst dst
  let a := m.tensor c w.srcA src
  let q := tensorOp c [a] [d] (fun k => k.values d (m.ups w) ((List.range d.count).map (valNth k.mem a))) m
  (q.1.useFree (if w.rnd = 1 then d.count else 0), q.2)

/-- A source read in the format of its own descriptor. -/
def runFormat (c : Nat) (w : MWord) (m : Mod) : Ran := runConvert c w (m.desc c w.srcA).fmt w.fmt.toNat m

def execQnt (course : Nat) (w : MWord) (s : State) : Host.Outcome State Fault Refusal :=
  instruct 2 0 course w (runFormat course w) s

def execReqnt (course : Nat) (w : MWord) (s : State) : Host.Outcome State Fault Refusal :=
  instruct 2 1 course w (runFormat course w) s

/-- Every block realigned to the exponent IMM[7:0]; 0xFF is reserved. -/
def runExpal (c : Nat) (w : MWord) (m : Mod) : Ran :=
  let d := m.tensor c w.dst w.fmt.toNat
  let a := m.desc c w.srcA
  let e := w.imm.toNat % 256
  if e = 0xFF then (m, some .illegal)
  else
    let q := tensorOp c [a] [d] (fun k =>
      let old := k.mem
      (List.range d.blocks).foldl (fun k j =>
        let n := min 32 (d.count - 32 * j)
        k.block d j e (fun i => m.ups w (32 * j + i)) ((List.range n).map fun i => valNth old a (32 * j + i))) k) m
    (q.1.useFree (if w.rnd = 1 then d.count else 0), q.2)

def execExpal (course : Nat) (w : MWord) (s : State) : Host.Outcome State Fault Refusal :=
  instruct 2 2 course w (runExpal course w) s

def execDqnt (course : Nat) (w : MWord) (s : State) : Host.Outcome State Fault Refusal :=
  instruct 2 3 course w (runFormat course w) s

def execCvtfi (course : Nat) (w : MWord) (s : State) : Host.Outcome State Fault Refusal :=
  instruct 2 4 course w (runConvert course w 3 4) s

def execCvtif (course : Nat) (w : MWord) (s : State) : Host.Outcome State Fault Refusal :=
  instruct 2 5 course w (runConvert course w 4 3) s

/-- The tensor of a field as a KB tensor: in its descriptor's format where that is one, else KB8. -/
def Mod.kbTensor (m : Mod) (c : Nat) (n : BitVec 8) : Desc :=
  let d := m.desc c n
  if isKb d.fmt then d else { d with fmt := 0 }

def runExprd (c : Nat) (w : MWord) (m : Mod) : Ran :=
  let d := m.tensor c w.dst 4
  let a := m.kbTensor c w.srcA
  tensorOp c [a] [d] (fun k =>
    let old := k.mem
    (List.range d.count).foldl (fun k n => k.i32 d n
      (if n < a.blocks then ((memGet old (a.expAddr + n)).toNat : Int) else Config.mortarOpen 7 [(a.addr : Int), n])) k) m

def execExprd (course : Nat) (w : MWord) (s : State) : Host.Outcome State Fault Refusal :=
  instruct 2 6 course w (runExprd course w) s

/-- The exponent that EXPWR writes for a number: itself from 0 to 254; for any other a free one that is not 0xFF. -/
def exponentOf (v : Int) : Nat := if 0 ≤ v ∧ v ≤ 254 then v.toNat else (Config.mortarOpen 8 [v]).toNat % 255

def runExpwr (c : Nat) (w : MWord) (m : Mod) : Ran :=
  let d := m.kbTensor c w.dst
  let a := m.tensor c w.srcA 4
  tensorOp c [a] [d] (fun k =>
    let old := k.mem
    (List.range d.blocks).foldl (fun k n =>
      let e := exponentOf (intNth old a n)
      { k with mem := memPut k.mem (d.expAddr + n) (BitVec.ofNat 8 e), exps := k.exps ++ [e] }) k) m

def execExpwr (course : Nat) (w : MWord) (s : State) : Host.Outcome State Fault Refusal :=
  instruct 2 7 course w (runExpwr course w) s

/-- The packed format that MOD[0] names. -/
def packFmt (w : MWord) : Nat := if w.mod.getLsbD 0 then 2 else 1

/-- Move mantissas between packings; one that does not fit the destination becomes a free one. -/
def runPack (c : Nat) (w : MWord) (src dst : Nat) (m : Mod) : Ran :=
  let d := m.tensor c w.dst dst
  let a := m.tensor c w.srcA src
  tensorOp c [a] [d] (fun k =>
    let old := k.mem
    (List.range d.count).foldl (fun k n =>
      let v := intNth old a n
      let v := if kbMin dst ≤ v ∧ v ≤ kbMax dst then v else Config.mortarOpen 9 [v, dst]
      { k with mem := putRaw k.mem d n (wrapInt 1 v) }) k) m

def execPack (course : Nat) (w : MWord) (s : State) : Host.Outcome State Fault Refusal :=
  instruct 2 8 course w (runPack course w 0 (packFmt w)) s

def execUnpack (course : Nat) (w : MWord) (s : State) : Host.Outcome State Fault Refusal :=
  instruct 2 9 course w (runPack course w (packFmt w) 0) s

/-! ### Class 3 within a course -/

/-- One addition of an ordered sum in a format: rounded and saturated each time; exact where a KB quantisation follows. -/
def addStep (d : Desc) (p : Rat × Bool) (x : Rat) : Rat × Bool :=
  match d.fmt with
  | 3 => let q := kfOf (p.1 + x); (kfVal q.1, p.2 || q.2)
  | 4 => let q := satI32 (roundNE ((p.1 + x) / pow2 d.accExp)); ((q.1 : Rat) * pow2 d.accExp, p.2 || q.2)
  | _ => (p.1 + x, p.2)

/-- The ordered sum of values from a start. -/
def sumIn (d : Desc) (start : Rat) (l : List Rat) : Rat × Bool := l.foldl (addStep d) (start, false)

/-- Write a vector of (value, saturation) pairs. -/
def Made.pairs (k : Made) (d : Desc) (f : Nat → Rat × Bool) : Made :=
  let l := (List.range d.count).map f
  { k.values d nearest (l.map Prod.fst) with sat := (k.values d nearest (l.map Prod.fst)).sat || l.any Prod.snd }

/-- A reduction of SRCA: element n of DST from SRCA as `f` gives it. DST keeps its descriptor's format, and is an operand with ACC. -/
def runReduce (c : Nat) (w : MWord) (f : Memory → Desc → Desc → Nat → Rat × Bool) (m : Mod) : Ran :=
  let d := m.desc c w.dst
  let a := m.tensor c w.srcA w.fmt.toNat
  tensorOp c (if w.acc then [a, d] else [a]) [d] (fun k => k.pairs d (f k.mem a d)) m

/-- Row and column sums in index order (R245); with ACC they start from what DST holds. -/
def rowSum (acc : Bool) (mem : Memory) (a d : Desc) (r : Nat) : Rat × Bool :=
  sumIn d (if acc then valNth mem d r else 0) ((List.range a.cols).map (valAt mem a r))

def colSum (acc : Bool) (mem : Memory) (a d : Desc) (c : Nat) : Rat × Bool :=
  sumIn d (if acc then valNth mem d c else 0) ((List.range a.rows).map fun r => valAt mem a r c)

def execRsumr (course : Nat) (w : MWord) (s : State) : Host.Outcome State Fault Refusal :=
  instruct 3 0 course w (runReduce course w (rowSum w.acc)) s

def execRsumc (course : Nat) (w : MWord) (s : State) : Host.Outcome State Fault Refusal :=
  instruct 3 1 course w (runReduce course w (colSum w.acc)) s

/-- The index of the best of row r, the lowest on a tie; none for an empty row. -/
def bestIn (better : Rat → Rat → Bool) (mem : Memory) (a : Desc) (r : Nat) : Option Nat :=
  (List.range a.cols).foldl (fun b c =>
    match b with
    | none => some c
    | some k => if better (valAt mem a r c) (valAt mem a r k) then some c else some k) none

def rowBest (better : Rat → Rat → Bool) (mem : Memory) (a _ : Desc) (r : Nat) : Rat × Bool :=
  match bestIn better mem a r with
  | some c => (valAt mem a r c, false)
  | none => ((Config.mortarOpen 1 [(a.addr : Int), r] : Rat), false)

/-- The index as the number that DST holds: an integer in I32, a value else. -/
def rowArg (better : Rat → Rat → Bool) (mem : Memory) (a d : Desc) (r : Nat) : Rat × Bool :=
  let n : Rat := match bestIn better mem a r with
    | some c => (c : Rat)
    | none => (Config.mortarOpen 1 [(a.addr : Int), r] : Rat)
  (if d.fmt = 4 then n * pow2 d.accExp else n, false)

def above (x y : Rat) : Bool := decide (y < x)

def below (x y : Rat) : Bool := decide (x < y)

def execRmaxr (course : Nat) (w : MWord) (s : State) : Host.Outcome State Fault Refusal :=
  instruct 3 2 course w (runReduce course w (rowBest above)) s

def execRminr (course : Nat) (w : MWord) (s : State) : Host.Outcome State Fault Refusal :=
  instruct 3 3 course w (runReduce course w (rowBest below)) s

def execRargmax (course : Nat) (w : MWord) (s : State) : Host.Outcome State Fault Refusal :=
  instruct 3 4 course w (runReduce course w (rowArg above)) s

def execRargmin (course : Nat) (w : MWord) (s : State) : Host.Outcome State Fault Refusal :=
  instruct 3 5 course w (runReduce course w (rowArg below)) s

/-- The sum of a row up to and with each element. -/
def prefixSum (mem : Memory) (a d : Desc) (n : Nat) : Rat × Bool :=
  sumIn d 0 ((List.range (n % d.cols + 1)).map (valAt mem a (n / d.cols)))

def execPscan (course : Nat) (w : MWord) (s : State) : Host.Outcome State Fault Refusal :=
  instruct 3 6 course w (runReduce course w prefixSum) s

end Sys2Proof.Machine
end

