-- ==== Sys2Proof/Machine/MortarFlow.lean ====
section
/-! DEFINITION. Mortar instructions that reach beyond a course or steer it (R245, R249, R277 – R280): the exchange, memory and
DMA, control, guard and system. -/

namespace Sys2Proof.Machine

/-! ### The exchange of class 3 -/

/-- The instruction a course stands at. -/
def Mod.standing (m : Mod) (c : Nat) : Nat × Nat × MWord :=
  match m.jobOf c with
  | some (_, j) =>
    match j.word (m.course c).pc with
    | some b => mortarDecode b
    | none => (0, 0, {})
  | none => (0, 0, {})

/-- The courses of the client, in logical order (R255). -/
def Mod.team (m : Mod) (c : Nat) : List Nat :=
  match m.jobOf c with
  | some (_, j) => j.courses
  | none => [c]

/-- Courses of the client that stand at an exchange, in the order they came. -/
def Mod.arrivals (m : Mod) (team : List Nat) : List Nat :=
  (List.range team.length).filterMap fun k => team.find? fun x => (m.course x).wait == .exchange k

/-- Element `n` of the SRCA of the instruction a course stands at. -/
def Mod.sent (m : Mod) (x n : Nat) : Rat :=
  let w := (m.standing x).2.2
  valNth (m.course x).sram (m.tensor x w.srcA w.fmt.toNat) n

/-- Elements of that SRCA. -/
def Mod.sentCount (m : Mod) (x : Nat) : Nat :=
  let w := (m.standing x).2.2
  (m.tensor x w.srcA w.fmt.toNat).count

/-- Element `n` of the SRCAs of several courses laid end to end; free beyond them. -/
def Mod.gathered (m : Mod) : List Nat → Nat → Rat
  | [], n => (Config.mortarOpen 1 [(n : Int)] : Rat)
  | x :: t, n => if n < m.sentCount x then m.sent x n else m.gathered t (n - m.sentCount x)

/-- What an exchange gives element `n` of DST on course `x` (R249, R256). -/
def Mod.received (m : Mod) (team : List Nat) (x : Nat) (d : Desc) (n : Nat) : Rat × Bool :=
  let (_, op, w) := m.standing x
  match op with
  | 7 => sumIn d 0 ((if m.mortar.open_ then m.arrivals team else team).map fun y => m.sent y n)
  | 8 => sumIn d 0 (team.map fun y => m.sent y n)
  | 9 =>
    match team[w.imm.toNat % 16]? with
    | some y => (m.sent y n, false)
    | none => ((Config.mortarOpen 1 [(w.imm.toNat : Int), n] : Rat), false)
  | _ => (m.gathered team n, false)

/-- The last course has come: every course takes its result and goes on. -/
def Mod.exchanged (m : Mod) (team : List Nat) : Mod :=
  team.foldl (fun m' x =>
    let d := m.desc x (m.standing x).2.2.dst
    let k : Made := { mem := (m.course x).sram, sat := false, exps := [] }
    ((m'.made x (k.pairs d (m.received team x d))).setCourse x fun y => { y with wait := .none }).passed 3 x) m

/-- A course comes to an exchange; it goes on once every course of its client has come. -/
def runExchange (c : Nat) (w : MWord) (sends : Mod → Bool) (m : Mod) : Ran :=
  let d := m.desc c w.dst
  let a := m.tensor c w.srcA w.fmt.toNat
  match m.tensorStop c (if sends m then [a] else []) [d] with
  | some e => (m, some e)
  | none =>
    let team := m.team c
    let m := m.setCourse c fun x => { x with wait := .exchange (m.arrivals team).length }
    (if (m.arrivals team).length = team.length then m.exchanged team else m, none)

def always : Mod → Bool := fun _ => true

/-- XBCAST sends from the logical course IMM[3:0]. -/
def isSource (c : Nat) (w : MWord) (m : Mod) : Bool := (m.team c)[w.imm.toNat % 16]? == some c

def execXred (course : Nat) (w : MWord) (s : State) : Host.Outcome State Fault Refusal :=
  control 3 7 course w (runExchange course w always) s

def execXredo (course : Nat) (w : MWord) (s : State) : Host.Outcome State Fault Refusal :=
  control 3 8 course w (runExchange course w always) s

def execXbcast (course : Nat) (w : MWord) (s : State) : Host.Outcome State Fault Refusal :=
  control 3 9 course w (runExchange course w (isSource course w)) s

def execXgath (course : Nat) (w : MWord) (s : State) : Host.Outcome State Fault Refusal :=
  control 3 10 course w (runExchange course w always) s

/-- A barrier: the courses go on once all have come. -/
def runXbar (c : Nat) (m : Mod) : Ran :=
  let team := m.team c
  let m := m.setCourse c fun x => { x with wait := .barrier }
  (if team.all fun x => (m.course x).wait == .barrier then
      team.foldl (fun m x => (m.setCourse x fun y => { y with wait := .none }).passed 3 x) m
    else m, none)

def execXbar (course : Nat) (w : MWord) (s : State) : Host.Outcome State Fault Refusal :=
  control 3 11 course w (runXbar course) s

/-! ### Class 4: SRAM -/

/-- Move SRCA to DST: bit for bit in one format, by value between two. -/
def runMove (c : Nat) (w : MWord) (m : Mod) : Ran :=
  let d := m.desc c w.dst
  let a := m.desc c w.srcA
  tensorOp c [a] [d] (fun k =>
    if a.fmt = d.fmt ∧ a.count = d.count then
      let old := k.mem
      let mem := (List.range d.count).foldl (fun mem n => putRaw mem d n (rawElem old a n)) old
      { k with mem := if isKb d.fmt then (List.range d.blocks).foldl (fun mem j => memPut mem (d.expAddr + j) (memGet old (a.expAddr + j))) mem else mem }
    else k.fill d (valNth k.mem a)) m

def execLd (course : Nat) (w : MWord) (s : State) : Host.Outcome State Fault Refusal :=
  instruct 4 0 course w (runMove course w) s

def execSt (course : Nat) (w : MWord) (s : State) : Host.Outcome State Fault Refusal :=
  instruct 4 1 course w (runMove course w) s

/-- The SRAM byte address 8 × IMM lies in the allocation. -/
def Mod.scalarFits (m : Mod) (c : Nat) (w : MWord) : Bool := decide (8 * w.imm.toNat + 8 ≤ m.sramLimit c)

def runLds (c : Nat) (w : MWord) (m : Mod) : Ran :=
  if !m.scalarFits c w then (m, some .bounds)
  else (m.setReg c w.dst (BitVec.ofNat 64 (unle (memBytes (m.course c).sram (8 * w.imm.toNat) 8))), none)

def execLds (course : Nat) (w : MWord) (s : State) : Host.Outcome State Fault Refusal :=
  instruct 4 2 course w (runLds course w) s

def runSts (c : Nat) (w : MWord) (m : Mod) : Ran :=
  if !m.scalarFits c w then (m, some .bounds)
  else (m.setCourse c fun k => { k with sram := memWrite k.sram (8 * w.imm.toNat) (le 8 (m.reg c w.srcA.toNat).toNat) }, none)

def execSts (course : Nat) (w : MWord) (s : State) : Host.Outcome State Fault Refusal :=
  instruct 4 3 course w (runSts course w) s

def execCopy (course : Nat) (w : MWord) (s : State) : Host.Outcome State Fault Refusal :=
  instruct 4 4 course w (runMove course w) s

/-- The element that FILL makes of a scalar register: its low bits; 0x8000 is never written to a KF16 tensor (R239). -/
def fillElem (d : Desc) (v : BitVec 64) : Nat :=
  let n := v.toNat % 2 ^ elemBits d.fmt
  if d.fmt = 3 ∧ n = 0x8000 then 0 else n

/-- Every element takes the low bits of the scalar register; a KB block of zeros takes exponent 0 (R237). -/
def runFill (c : Nat) (w : MWord) (m : Mod) : Ran :=
  let d := m.desc c w.dst
  let v := fillElem d (m.reg c w.srcA.toNat)
  tensorOp c [] [d] (fun k =>
    let k := { k with mem := (List.range d.count).foldl (fun mem n => putRaw mem d n v) k.mem }
    if isKb d.fmt ∧ v = 0 then
      { k with
        mem := (List.range d.blocks).foldl (fun mem j => memPut mem (d.expAddr + j) 0) k.mem
        exps := k.exps ++ List.replicate d.blocks 0 }
    else k) m

def execFill (course : Nat) (w : MWord) (s : State) : Host.Outcome State Fault Refusal :=
  instruct 4 5 course w (runFill course w) s

/-! ### Class 4: DMA -/

/-- The bytes of a transfer: (offset in the region, SRAM address). The element stream comes first, the exponent stream after it;
with a stride each row has its elements and then its exponents. -/
def dmaMap (t : Dma) : List (Nat × Nat) :=
  let d := t.tensor
  let run (o a n : Nat) : List (Nat × Nat) := (List.range n).map fun i => (o + i, a + i)
  match t.stride with
  | none => run t.offset d.addr d.bytes ++ (if isKb d.fmt then run (t.offset + d.bytes) d.expAddr d.blocks else [])
  | some st =>
    let rowBytes := (d.cols * elemBits d.fmt + 7) / 8
    let rowBlocks := (d.cols + 31) / 32
    (List.range d.rows).flatMap fun r =>
      run (t.offset + r * st) (d.addr + r * rowBytes) rowBytes ++
        (if isKb d.fmt then run (t.offset + r * st + rowBytes) (d.expAddr + r * rowBlocks) rowBlocks else [])

/-- Begin a transfer; its data moves when it completes. Outside the SRAM allocation or the region it ends the job (R277). -/
def runDma (c : Nat) (into : Bool) (desc : BitVec 8) (off : BitVec 64) (stride : Option (BitVec 64)) (w : MWord) (m : Mod) : Ran :=
  match m.jobOf c with
  | none => (m, none)
  | some (_, j) =>
    let t : Dma :=
      { tag := w.imm.setWidth 8, into := into, desc := desc.toNat, tensor := m.desc c desc, offset := off.toNat
        stride := stride.map BitVec.toNat }
    if !t.tensor.inside j.sramLimit || (dmaMap t).any fun p => decide (j.region ≤ p.1) || decide (j.sramLimit ≤ p.2) then
      (m, some .bounds)
    else (m.setCourse c fun k => { k with dma := k.dma ++ [t] }, none)

def runDmain (c : Nat) (w : MWord) (m : Mod) : Ran := runDma c true w.dst (m.reg c w.srcA.toNat) none w m

def execDmain (course : Nat) (w : MWord) (s : State) : Host.Outcome State Fault Refusal :=
  instruct 4 6 course w (runDmain course w) s

def runDmaout (c : Nat) (w : MWord) (m : Mod) : Ran := runDma c false w.srcA (m.reg c w.dst.toNat) none w m

def execDmaout (course : Nat) (w : MWord) (s : State) : Host.Outcome State Fault Refusal :=
  instruct 4 7 course w (runDmaout course w) s

def runDma2d (c : Nat) (w : MWord) (m : Mod) : Ran :=
  let st := some (m.reg c w.srcB.toNat)
  if w.mod.getLsbD 0 then runDma c false w.srcA (m.reg c w.dst.toNat) st w m
  else runDma c true w.dst (m.reg c w.srcA.toNat) st w m

def execDma2d (course : Nat) (w : MWord) (s : State) : Host.Outcome State Fault Refusal :=
  instruct 4 8 course w (runDma2d course w) s

def runDmawait (c : Nat) (w : MWord) (m : Mod) : Ran :=
  let tag := w.imm.setWidth 8
  (m.setCourse c fun k => if k.dma.any fun t => t.tag == tag then { k with wait := .dma tag } else k, none)

def execDmawait (course : Nat) (w : MWord) (s : State) : Host.Outcome State Fault Refusal :=
  instruct 4 9 course w (runDmawait course w) s

/-! ### Class 4: indexed -/

/-- Replace single elements of a tensor by values; a KB block with a new element is quantised again. -/
def Made.replace (k : Made) (d : Desc) (f : Nat → Option (Rat × Bool)) : Made :=
  let old := k.mem
  let k :=
    if isKb d.fmt then
      (List.range d.blocks).foldl (fun k j =>
        let ns := (List.range (min 32 (d.count - 32 * j))).map fun i => 32 * j + i
        if ns.all fun n => (f n).isNone then k
        else
          let vs := ns.map fun n => match f n with | some q => q.1 | none => valElem old d n
          let q := quantExp d.fmt nearest vs
          k.block d j q.1 nearest vs) k
    else
      (List.range d.count).foldl (fun k n =>
        match f n with
        | none => k
        | some q => if d.fmt = 3 then k.kf d n q.1 else k.i32 d n (roundNE (q.1 / pow2 d.accExp))) k
  { k with sat := k.sat || (List.range d.count).any fun n => match f n with | some q => q.2 | none => false }

/-- The indices of an indexed instruction, `limit` of them in range, or the stop of R277. `keeps` says that DST's other elements or
values enter the result, which makes it an operand (R237). -/
def indexed (keeps : Bool) (c : Nat) (w : MWord) (limit : Desc → Desc → Nat) (f : Made → Desc → Desc → List Nat → Made) (m : Mod) : Ran :=
  let d := m.desc c w.dst
  let a := m.desc c w.srcA
  let b := m.tensor c w.srcB 4
  let ix := (List.range b.count).map (intElem (m.course c).sram b)
  let srcs := if keeps then [a, b, d] else [a, b]
  match m.tensorStop c srcs [d] with
  | some e => (m, some e)
  | none =>
    if ix.any fun v => decide (v < 0) || decide ((limit d a : Int) ≤ v) then (m, some .bounds)
    else tensorOp c srcs [d] (fun k => f k d a (ix.map Int.toNat)) m

/-- DST[n] = SRCA[index n]. -/
def runGather (c : Nat) (w : MWord) (m : Mod) : Ran :=
  indexed false c w (fun _ a => a.count) (fun k d a ix =>
    k.fill d fun n => match ix[n]? with
      | some v => valNth k.mem a v
      | none => valNth k.mem a a.count) m

def execGather (course : Nat) (w : MWord) (s : State) : Host.Outcome State Fault Refusal :=
  instruct 4 10 course w (runGather course w) s

/-- The sources whose index is `n`, in ascending order. -/
def sourcesOf (ix : List Nat) (n : Nat) : List Nat := (List.range ix.length).filter fun i => ix[i]? == some n

/-- DST[index i] = SRCA[i]; which of several sources of one element is left is not stated, and free. -/
def runScatter (c : Nat) (w : MWord) (m : Mod) : Ran :=
  indexed true c w (fun d _ => d.count) (fun k d a ix =>
    k.replace d fun n =>
      let l := sourcesOf ix n
      (l[(Config.mortarOpen 11 [(n : Int), l.length]).toNat % l.length]?).map fun i => (valNth k.mem a i, false)) m

def execScatter (course : Nat) (w : MWord) (s : State) : Host.Outcome State Fault Refusal :=
  instruct 4 11 course w (runScatter course w) s

/-- The order of a list that a number picks; every order is some number's. -/
def orderBy : Nat → Nat → List Nat → List Nat
  | 0, _, l => l
  | _, _, [] => []
  | fuel + 1, n, l =>
    let k := n % l.length
    match l[k]? with
    | some x => x :: orderBy fuel (n / l.length) (l.eraseIdx k)
    | none => l

/-- DST[index i] += SRCA[i]: ascending under ORDERED, in arrival order, which is free, under OPEN (R256). -/
def runScatadd (c : Nat) (w : MWord) (m : Mod) : Ran :=
  let q := indexed true c w (fun d _ => d.count) (fun k d a ix =>
    k.replace d fun n =>
      let l := sourcesOf ix n
      let l := if m.mortar.open_ then orderBy l.length (Config.freeNat (m.freeCtr + n)) l else l
      if l.isEmpty then none else some (sumIn d (valNth k.mem d n) (l.map (valNth k.mem a)))) m
  (q.1.useFree (if m.mortar.open_ then (m.desc c w.dst).count else 0), q.2)

def execScatadd (course : Nat) (w : MWord) (s : State) : Host.Outcome State Fault Refusal :=
  instruct 4 12 course w (runScatadd course w) s

/-- The filtered powers of a port's monitor in KF16 dBm (R279). -/
def Mod.portPowers (m : Mod) (p : Nat) : List Byte :=
  let l := m.loop (0x2000 + p)
  let b (x : Int) : List Byte := le 2 (kfOf ((x : Rat) / 6553600)).1.toNat
  b l.inFilt ++ b l.outFilt

/-- The bytes of a snapshot of the boundary `v` (R279). -/
def snapBytes (v : Mod) (kind : Nat) : List Byte :=
  match kind with
  | 0 => le 4 v.engine.gen.toNat ++ le 4 v.engine.members.length ++ v.engine.members.flatMap (contextBytes v)
  | 1 => (List.range 544).flatMap v.portPowers
  | 2 => (List.range 8).flatMap fun p => le 4 (v.planeStatus p).toNat
  | _ => le 8 v.tick.count ++ timeBytes (instant v.time.fabric)

def runSnap (v : Mod) (c : Nat) (w : MWord) (m : Mod) : Ran :=
  let bs := snapBytes v w.mod.toNat
  match m.jobOf c with
  | none => (m, none)
  | some (n, j) =>
    if w.imm.getLsbD 15 then
      let o := (m.reg c (w.imm.toNat % 32)).toNat
      if j.region < o + bs.length then (m, some .bounds) else (m.setJob n fun j => { j with mem := memWrite j.mem o bs }, none)
    else
      let a := (m.desc c w.dst).addr
      if j.sramLimit < a + bs.length then (m, some .bounds)
      else (m.setCourse c fun k => { k with sram := memWrite k.sram a bs }, none)

def execSnap (course : Nat) (w : MWord) (s : State) : Host.Outcome State Fault Refusal :=
  instruct 4 13 course w (runSnap s.snap course w) s

/-! ### Class 5 -/

/-- The pc that an offset from the instruction names; outside the code it is free. -/
def Mod.target (m : Mod) (c : Nat) (imm : BitVec 16) : Nat :=
  let pc := (m.course c).pc
  let t : Int := pc + imm.toInt
  let words := match m.jobOf c with
    | some (_, j) => j.codeWords
    | none => 0
  if 0 ≤ t ∧ t < words then t.toNat else (Config.mortarOpen 20 [(pc : Int), imm.toInt]).toNat

def Mod.goto (m : Mod) (c pc : Nat) : Ran := (m.setCourse c fun k => { k with pc := pc }, none)

def runBr (c : Nat) (w : MWord) (m : Mod) : Ran := m.goto c (m.target c w.imm)

def execBr (course : Nat) (w : MWord) (s : State) : Host.Outcome State Fault Refusal :=
  control 5 0 course w (runBr course w) s

def runBrc (c : Nat) (w : MWord) (m : Mod) : Ran :=
  if compares w.mod.toNat ((m.reg c w.srcA.toNat).toInt : Rat) 0 then m.goto c (m.target c w.imm)
  else m.goto c ((m.course c).pc + 1)

def execBrc (course : Nat) (w : MWord) (s : State) : Host.Outcome State Fault Refusal :=
  control 5 1 course w (runBrc course w) s

/-- CALL pushes its return on 16 entries; what a call on a full stack leaves there is free. -/
def runCall (c : Nat) (w : MWord) (m : Mod) : Ran :=
  let pc := (m.course c).pc
  let calls := (m.course c).calls
  let st := if calls.length < 16 then (pc + 1) :: calls
    else (List.range 16).map fun k => (Config.mortarOpen 21 [(pc : Int), k]).toNat
  (m.setCourse c fun k => { k with calls := st }).goto c (m.target c w.imm)

def execCall (course : Nat) (w : MWord) (s : State) : Host.Outcome State Fault Refusal :=
  control 5 2 course w (runCall course w) s

/-- RET with nothing on the stack goes to a free place. -/
def runRet (c : Nat) (m : Mod) : Ran :=
  match (m.course c).calls with
  | r :: t => (m.setCourse c fun k => { k with calls := t }).goto c r
  | [] => m.goto c (Config.mortarOpen 22 [((m.course c).pc : Int)]).toNat

def execRet (course : Nat) (w : MWord) (s : State) : Host.Outcome State Fault Refusal :=
  control 5 3 course w (runRet course) s

/-- LOOP runs its body the count of times; a count below 1 passes over it. -/
def runLoop (c : Nat) (w : MWord) (m : Mod) : Ran :=
  let pc := (m.course c).pc
  let n := (m.reg c w.srcA.toNat).toInt
  let e := m.target c w.imm
  if n < 1 then m.goto c (e + 1)
  else (m.setCourse c fun k => { k with loopStack := (pc + 1, e, n.toNat) :: k.loopStack }).goto c (pc + 1)

def execLoop (course : Nat) (w : MWord) (s : State) : Host.Outcome State Fault Refusal :=
  control 5 4 course w (runLoop course w) s

/-- ENDL ends one pass; with no loop open it goes to a free place. -/
def runEndl (c : Nat) (m : Mod) : Ran :=
  let pc := (m.course c).pc
  match (m.course c).loopStack with
  | (b, e, n) :: t =>
    if 1 < n then (m.setCourse c fun k => { k with loopStack := (b, e, n - 1) :: t }).goto c b
    else (m.setCourse c fun k => { k with loopStack := t }).goto c (pc + 1)
  | [] => m.goto c (Config.mortarOpen 23 [(pc : Int)]).toNat

def execEndl (course : Nat) (w : MWord) (s : State) : Host.Outcome State Fault Refusal :=
  control 5 5 course w (runEndl course) s

def runSetr (c : Nat) (w : MWord) (m : Mod) : Ran := (m.setReg c w.dst (w.imm.signExtend 64), none)

def execSetr (course : Nat) (w : MWord) (s : State) : Host.Outcome State Fault Refusal :=
  instruct 5 6 course w (runSetr course w) s

/-- Saturate to the signed 64-bit range. -/
def sat64 (v : Int) : BitVec 64 := BitVec.ofInt 64 (clampI (-9223372036854775808) 9223372036854775807 v)

def runScalar (c : Nat) (w : MWord) (f : Int → Int → Int) (m : Mod) : Ran :=
  (m.setReg c w.dst (sat64 (f (m.reg c w.srcA.toNat).toInt (m.reg c w.srcB.toNat).toInt)), none)

def execAddr (course : Nat) (w : MWord) (s : State) : Host.Outcome State Fault Refusal :=
  instruct 5 7 course w (runScalar course w (· + ·)) s

def execMulr (course : Nat) (w : MWord) (s : State) : Host.Outcome State Fault Refusal :=
  instruct 5 8 course w (runScalar course w (· * ·)) s

def execCmpr (course : Nat) (w : MWord) (s : State) : Host.Outcome State Fault Refusal :=
  instruct 5 9 course w (runScalar course w fun a b => if compares w.mod.toNat (a : Rat) (b : Rat) then 1 else 0) s

/-- TDESC: how the four registers spell a descriptor is not stated, so each field is a free function of them. -/
def descOf (r : List Int) : Desc :=
  { addr := (Config.mortarOpen 30 r).toNat, rows := (Config.mortarOpen 31 r).toNat, cols := (Config.mortarOpen 32 r).toNat
    fmt := (Config.mortarOpen 33 r).toNat % 5, expAddr := (Config.mortarOpen 34 r).toNat
    accExp := signed 8 (Config.mortarOpen 35 r % 256).toNat }

def runTdesc (c : Nat) (w : MWord) (m : Mod) : Ran :=
  let r := (List.range 4).map fun k => (m.reg c (w.srcA.toNat + k)).toInt
  (m.setCourse c fun k => { k with descs := aput k.descs w.dst.toNat (descOf r) }, none)

def execTdesc (course : Nat) (w : MWord) (s : State) : Host.Outcome State Fault Refusal :=
  instruct 5 10 course w (runTdesc course w) s

/-- Wait for the transfers of a descriptor. -/
def runWaitd (c : Nat) (w : MWord) (m : Mod) : Ran :=
  (m.setCourse c fun k => if k.dma.any fun t => t.desc == w.srcA.toNat then { k with wait := .desc w.srcA.toNat } else k, none)

def execWaitd (course : Nat) (w : MWord) (s : State) : Host.Outcome State Fault Refusal :=
  instruct 5 11 course w (runWaitd course w) s

def nothing : Mod → Ran := fun m => (m, none)

def execYield (course : Nat) (w : MWord) (s : State) : Host.Outcome State Fault Refusal :=
  instruct 5 12 course w nothing s

/-- End the job with a reason and a code. -/
def runEnd (c reason : Nat) (w : MWord) (m : Mod) : Ran :=
  match m.jobOf c with
  | some (n, _) => (m.endJob n reason w.imm.toNat, none)
  | none => (m, none)

def execHalt (course : Nat) (w : MWord) (s : State) : Host.Outcome State Fault Refusal :=
  control 5 13 course w (runEnd course 0 w) s

/-! ### Class 6 -/

def runGcfg (c : Nat) (w : MWord) (m : Mod) : Ran :=
  (m.setCourse c fun k => { k with shadowChk := w.mod.getLsbD 0 }, none)

def execGcfg (course : Nat) (w : MWord) (s : State) : Host.Outcome State Fault Refusal :=
  instruct 6 0 course w (runGcfg course w) s

def runGstat (c : Nat) (w : MWord) (m : Mod) : Ran :=
  match m.jobOf c with
  | some (_, j) => (m.setReg c w.dst (j.flags.setWidth 64), none)
  | none => (m, none)

def execGstat (course : Nat) (w : MWord) (s : State) : Host.Outcome State Fault Refusal :=
  instruct 6 1 course w (runGstat course w) s

def runFlagclr (c : Nat) (w : MWord) (m : Mod) : Ran :=
  match m.jobOf c with
  | some (n, _) => (m.setJob n fun j => { j with flags := j.flags &&& ~~~(w.imm.setWidth 3) }, none)
  | none => (m, none)

def execFlagclr (course : Nat) (w : MWord) (s : State) : Host.Outcome State Fault Refusal :=
  instruct 6 2 course w (runFlagclr course w) s

def runTickrd (c : Nat) (w : MWord) (m : Mod) : Ran := (m.setReg c w.dst (BitVec.ofNat 64 m.tick.count), none)

def execTickrd (course : Nat) (w : MWord) (s : State) : Host.Outcome State Fault Refusal :=
  instruct 6 3 course w (runTickrd course w) s

/-- The course cycle counter: what it reads is free. -/
def runPerf (c : Nat) (w : MWord) (m : Mod) : Ran :=
  ((m.useFree 1).setReg c w.dst (BitVec.ofNat 64 (Config.freeNat m.freeCtr)), none)

def execPerf (course : Nat) (w : MWord) (s : State) : Host.Outcome State Fault Refusal :=
  instruct 6 4 course w (runPerf course w) s

/-- 64 bits of the entropy source: free. -/
def runRng (c : Nat) (w : MWord) (m : Mod) : Ran :=
  ((m.useFree 8).setReg c w.dst (BitVec.ofNat 64 (unle (m.freeBytes 8))), none)

def execRng (course : Nat) (w : MWord) (s : State) : Host.Outcome State Fault Refusal :=
  instruct 6 5 course w (runRng course w) s

/-! ### PROP (R280) -/

/-- The PLAN_ID of a job's proposal number `n`. -/
def propId (slot n : Nat) : Word := BitVec.ofNat 32 (0xF0000000 + slot * 0x01000000 + n % 16777216)

/-- Proposals of a job in the STAGED state. -/
def Mod.propsStaged (m : Mod) (slot : Nat) : Nat :=
  (m.engine.plans.filter fun p => p.state == .staged && decide (0xF0000000 + slot * 0x01000000 ≤ p.id.toNat) &&
    decide (p.id.toNat < 0xF0000000 + (slot + 1) * 0x01000000)).length

/-- Stage a proposal from a buffer laid out as a PLAN_STAGE request, its PLAN_ID ignored: the module and the status. -/
def Mod.propose (m : Mod) (slot course : Nat) (id : Word) (buf : List Byte) : Mod × Nat :=
  let flags := field buf 8 4
  let count := field buf 12 2
  if flags.testBit 1 then (m, eAUTH)
  else if m.state = .safeHold then (m, eSAFETY)
  else if !m.driving then (m, eSTATE)
  else if 4 ≤ m.propsStaged slot then (m, eCAPACITY)
  else if buf.length < 80 ∨ 8 ≤ flags ∨ 4096 < count ∨ !zeros buf 14 2 ∨ buf.length < 80 + 12 * count ∨
      (m.plan id).isSome then (m, ePARAM)
  else
    let p := m.newPlan id (wordAt buf 4) flags (maskAt buf 16) (entriesAt buf 80 count) (.job slot course) false none
    match m.checkAll [] p with
    | .ok p => (({ m with engine := { m.engine with plans := m.engine.plans ++ [p] } }).staged p, stOK)
    | .error e => (m, e.1)

def runProp (c : Nat) (w : MWord) (m : Mod) : Ran :=
  match m.jobOf c with
  | none => (m, none)
  | some (n, j) =>
    let o := (m.reg c w.srcA.toNat).toNat
    let len := (m.reg c w.srcB.toNat).toNat
    if j.region < o + len then (m, some .bounds)
    else
      let id := propId n j.props
      let q := m.propose n c id (memBytes j.mem o (min len 49232))
      let m := q.1.journalInternal 3 q.2 j.id none
      let m := m.setJob n fun j => { j with props := (j.props + 1) % 16777216, lastProp := id }
      ((m.setReg c 0 (BitVec.ofNat 64 q.2)).setReg c 1 (id.setWidth 64), none)

def execProp (course : Nat) (w : MWord) (s : State) : Host.Outcome State Fault Refusal :=
  instruct 6 6 course w (runProp course w) s

def execTrap (course : Nat) (w : MWord) (s : State) : Host.Outcome State Fault Refusal :=
  control 6 7 course w (runEnd course 2 w) s

def execInstrNop (course : Nat) (w : MWord) (s : State) : Host.Outcome State Fault Refusal :=
  instruct 6 8 course w nothing s

/-- FFIN and FFOUT are reserved to the thermal model, whose work is THERMAL_MODEL_SLICE; no package holds them (R275), and in a
job either is an illegal encoding. -/
def reservedOp : Mod → Ran := fun m => (m, some .illegal)

def execFfin (course : Nat) (w : MWord) (s : State) : Host.Outcome State Fault Refusal :=
  control 6 9 course w reservedOp s

def execFfout (course : Nat) (w : MWord) (s : State) : Host.Outcome State Fault Refusal :=
  control 6 10 course w reservedOp s

end Sys2Proof.Machine
end

