-- ==== Sys2Proof/Machine/MortarJobs.lean ====
section
/-! DEFINITION. Customer jobs from package to end (R273 – R287), the planner (R264 – R271), the thermal model (R260 – R263), course
failure (R254) and the determinism profile (R257). -/

namespace Sys2Proof.Machine

/-! ### The pool (R283, R300) -/

/-- Bytes that a save of one course takes: 4.125 MiB. -/
def saveBytes : Nat := 4325376

/-- A job's region is granted. -/
def Job.granted (j : Job) : Bool := j.state == .running || j.state == .pausing || j.state == .paused

/-- Bytes of the pool that a package, its region and its save take. -/
def Job.bytes (j : Job) : Nat := j.package.length + (if j.granted then j.region else 0) + j.saved.length * saveBytes

/-- Bytes free in the pool. -/
def Mod.poolFree (m : Mod) : Nat := m.mortar.poolMib * 1048576 - sumN (m.mortar.jobs.map fun p => p.2.bytes)

/-! ### Packages (R273 – R275) -/

def newJob (id : Word) (bs : List Byte) : Job :=
  { id := id, state := .loading, package := bs, nextSeg := 1, courses := [], exit := 0, lpddrMib := 0, ticks := 0, saveId := 0
    saved := [], savedProf := false, savedMc := 0, props := 0, lastProp := 0, mismatches := 0, reclaimed := false, flags := 0
    seen := 0, mem := [], waiter := none, resumeOn := [], stopped := false }

/-- The slot of a JOB_ID, where it names a package. -/
def Mod.slotOf (m : Mod) (id : Word) : Option (Nat × Job) := m.mortar.jobs.find? fun p => p.2.id == id

/-- JOB_LOAD (R274). -/
def runJobLoad (r : Req) (m : Mod) : Mod :=
  let pl := r.payload
  let id := wordAt pl 0
  let seg := field pl 4 2
  let fl := field pl 6 2
  let len := field pl 8 4
  let bs := slice pl 16 len
  let state (old : JState) : JState := if fl = 1 then .verifying else old
  if pl.length < 16 then malformed r m
  else if 2 ≤ fl then refuse r ePARAM (badField 6) m
  else if 65520 < len then refuse r ePARAM (badField 8) m
  else if !zeros pl 12 4 then refuse r ePARAM (badField 12) m
  else if !sized pl (16 + len) then malformed r m
  else if id = 0 then
    if seg ≠ 0 then refuse r ePARAM (badField 4) m
    else
      match (List.range 8).find? fun k => (m.job k).isNone with
      | none => refuse r eCAPACITY plain m
      | some slot =>
        if m.poolFree < len then refuse r eCAPACITY plain m
        else
          let n := m.mortar.loadCount + 1
          let jid := BitVec.ofNat 32 (n * 16 + slot)
          answer r stOK (le 4 jid.toNat)
            { m with mortar := { m.mortar with
                loadCount := n, jobs := m.mortar.jobs ++ [(slot, { newJob jid bs with state := state .loading })] } }
  else
    match m.slotOf id with
    | none => refuse r ePARAM (badField 0) m
    | some (slot, j) =>
      if j.state ≠ .loading ∨ seg ≠ j.nextSeg then refuse r ePARAM (badField 4) m
      else if 268435456 < j.package.length + len ∨ m.poolFree < len then refuse r eCAPACITY plain m
      else
        answer r stOK (le 4 id.toNat) (m.setJob slot fun j =>
          { j with package := j.package ++ bs, nextSeg := j.nextSeg + 1, state := state .loading })

def execJobLoad (p : Packet) (s : State) : Host.Outcome State Fault Refusal := commandM 0x50 p runJobLoad s

/-- The V instructions that a package's code holds (R275). -/
def Job.vUse (j : Job) : Nat :=
  ((List.range j.codeWords).filterMap j.word).foldl (fun v b => let d := mortarDecode b; v ||| vBits d.1 d.2.1 d.2.2) 0

/-- A code word that a package may hold: a legal encoding, neither FFIN nor FFOUT. -/
def wordOk (b : BitVec 64) : Bool :=
  let d := mortarDecode b
  legalWord d.1 d.2.1 d.2.2 && !(d.1 == 6 && (d.2.1 == 9 || d.2.1 == 10))

/-- The checks of R275 in its order: the REASON of record 0x0031 for the first that fails. -/
def Mod.packageBad (m : Mod) (j : Job) (proof : Option Proven) : Option Nat :=
  let key := wordAt j.package 16
  let n := j.codeWords
  let signed := j.package.length - 7856
  if !m.signed proof key.toNat (j.package.take signed) (j.package.drop signed) || !(m.sec.keys.any fun k => k.id == key && k.purpose == 8) then some 0
  else if j.package.length < 256 ∨ slice j.package 0 4 ≠ [0x4D, 0x52, 0x54, 0x4A] ∨ field j.package 4 2 ≠ 1 ∨
      field j.package 6 2 ≠ 256 then some 1
  else if n = 0 ∨ 16384 < n ∨ j.package.length ≠ 256 + 8 * n + field j.package 12 4 + 7856 then some 2
  else if m.sec.ucode.toNat < field j.package 48 4 then some 3
  else if !(((List.range n).filterMap j.word).all wordOk) then some 4
  else if field j.package 24 2 ≠ j.vUse then some 5
  else none

/-- JOB_VERIFY_DONE (R275). -/
def verifyDone (slot : Nat) (proof : Option Proven) (m : Mod) : Mod :=
  match m.job slot with
  | none => m
  | some j =>
    match m.packageBad j proof with
    | none => m.setJob slot fun j => { j with state := .loaded }
    | some reason =>
      (m.setJob slot fun j => { j with state := .rejected }).record 0x31 m.origin
        (le 1 slot ++ le 1 reason ++ [0, 0] ++ le 4 j.id.toNat ++ slice j.package 16 4 ++ slice j.package 52 16)

def Mod.jobIn (m : Mod) (slot : Nat) (st : JState) : Bool :=
  match m.job slot with
  | some j => j.state == st
  | none => false

def execJobVerifyDone (slot : Nat) (proof : Option Proven) (s : State) : Host.Outcome State Fault Refusal :=
  happens (fun m => m.jobIn slot .verifying) (verifyDone slot proof) s

/-! ### Starting (R260, R276) -/

/-- Courses that jobs hold. -/
def Mod.jobCourses (m : Mod) : List Nat := m.mortar.jobs.flatMap fun p => p.2.courses

/-- Enabled courses: fitted and not FAILED (R289). -/
def Mod.enabled (m : Mod) (c : Nat) : Bool := m.variant.courses.getLsbD c && !(m.course c).failed

/-- Courses reserved for the thermal model (R260). -/
def Mod.reservedCourse (m : Mod) (c : Nat) : Bool := m.variant.windows && m.mortar.reserved.contains c

/-- Courses that a job may be granted. -/
def Mod.grantable (m : Mod) (c : Nat) : Bool :=
  m.enabled c && !m.reservedCourse c && !m.jobCourses.contains c && !(m.mortar.reclaim.any fun p => p.2 == c)

/-- The planner's courses: every enabled one that no job holds. -/
def Mod.plannerCourses (m : Mod) : List Nat := (List.range 16).filter fun c => m.enabled c && !m.jobCourses.contains c

/-- A grant of these courses leaves the planner one. -/
def Mod.leavesPlanner (m : Mod) (l : List Nat) : Bool := m.plannerCourses.any fun c => !l.contains c

/-- JOB_START at its boundary (R276): the courses and the region are granted, and the job runs; where they have gone meanwhile the
final says so. -/
def Mod.applyStart (m : Mod) (slot : Nat) (w : Waiter) (cs : List Nat) (mib : Nat) : Mod :=
  match m.job slot with
  | none => m.final w eCAPACITY plain
  | some j =>
    if !(cs.all m.grantable) then m.final w eCAPACITY plain
    else
      let data := slice j.package (256 + 8 * j.codeWords) (min (field j.package 12 4) (mib * 1048576))
      let m := cs.foldl (fun m c => (m.setCourse c fun k => { k.clean with pc := field j.package 44 4 }).wake c) m
      m.setJob slot fun j =>
        { j with
          state := .running, courses := cs, lpddrMib := mib, ticks := 0, mismatches := 0, flags := 0, seen := 0
          mem := memWrite [] 0 data, waiter := some w, reclaimed := false, stopped := false }

/-- Put saved courses onto physical ones, in logical order. -/
def Mod.restore (m : Mod) (cs : List Nat) (saved : List Course) : Mod :=
  (cs.zip saved).foldl (fun m p => (m.setCourse p.1 fun k => k.keep p.2).wake p.1) m

/-- The courses that a resume takes: the earlier ones where all are free, else the lowest free ones. -/
def Mod.resumeCourses (m : Mod) (j : Job) : Option (List Nat) :=
  let n := j.saved.length
  let free := (List.range 16).filter m.grantable
  let cs := if j.resumeOn.all m.grantable then j.resumeOn else free.take n
  if cs.length = n ∧ m.leavesPlanner cs then some cs else none

/-- JOB_RESUME at its boundary (R283). -/
def Mod.applyResume (m : Mod) (slot : Nat) : Mod :=
  match m.job slot with
  | none => m
  | some j =>
    match m.resumeCourses j with
    | none => m
    | some cs =>
      (m.restore cs j.saved).setJob slot fun j => { j with state := .running, courses := cs, reclaimed := false, stopped := false }

/-- JOB_STOP at its boundary (R284): a granted job ends, any other package is unloaded. -/
def Mod.applyStop (m : Mod) (slot : Nat) : Mod :=
  match m.job slot with
  | none => m
  | some j =>
    if j.granted then m.endJob slot 1 0
    else { m with mortar := { m.mortar with jobs := m.mortar.jobs.filter fun p => p.1 != slot } }

/-- The module as the job commands accepted since the last boundary leave its jobs: what the next ones are checked against (R34). -/
def Mod.jobsNext (m : Mod) : Mod :=
  m.inOrder.foldl (fun (v : Mod) d => match d.eff with
    | .jobStart slot w cs mib => v.applyStart slot w cs mib
    | .jobResume slot => v.applyResume slot
    | .jobStop slot => v.applyStop slot
    | _ => v) m

/-- JOB_START (R276). -/
def runJobStart (r : Req) (m : Mod) : Mod :=
  let pl := r.payload
  let mask := field pl 4 2
  let cs := bitsSet 16 mask
  let mib := field pl 8 4
  let v := m.jobsNext
  if !sized pl 12 then malformed r m
  else if !zeros pl 6 2 then refuse r ePARAM (badField 6) m
  else
    match v.slotOf (wordAt pl 0) with
    | none => refuse r ePARAM (badField 0) m
    | some (slot, j) =>
      if j.state = .verifying then refuse r eBUSY plain m
      else if j.state = .rejected then refuse r eINTEGRITY plain m
      else if j.state ≠ .loaded ∧ j.state ≠ .ended then refuse r eCONFLICT plain m
      else if cs.length < field j.package 20 1 ∨ field j.package 21 1 < cs.length then refuse r ePARAM (badField 4) m
      else if mib < field j.package 32 4 then refuse r ePARAM (badField 8) m
      else if !(cs.all fun c => m.variant.courses.getLsbD c) then refuse r eABSENT plain m
      else if (field j.package 22 1 = 1 ∧ m.mortar.open_) ∨ (!m.mortar.open_ ∧ bits (field j.package 24 2) 5 3 ≠ 0) then
        refuse r eCONFLICT plain m
      else if !(cs.all v.grantable) || !v.leavesPlanner cs || decide (v.poolFree < mib * 1048576) then
        refuse r eCAPACITY plain m
      else
        pend r { m with deferred := m.deferred ++ [{ eff := .jobStart slot r.w cs mib, reply := none, pkt := none }] }

def execJobStart (p : Packet) (s : State) : Host.Outcome State Fault Refusal := commandM 0x51 p runJobStart s

/-! ### Pause, resume, stop (R283, R284) -/

/-- Begin a pause: a new SAVE_ID, and the courses will stop at the next instruction boundary. -/
def Mod.beginPause (m : Mod) (slot : Nat) : Mod :=
  m.setJob slot fun j => { j with state := .pausing, stopped := false, saveId := j.saveId + 1 }

/-- JOB_PAUSE (R283); the save replaces the job's previous one. -/
def runJobPause (r : Req) (m : Mod) : Mod :=
  if !sized r.payload 4 then malformed r m
  else
    match m.slotOf (wordAt r.payload 0) with
    | none => refuse r ePARAM (badField 0) m
    | some (slot, j) =>
      if j.state ≠ .running then refuse r eCONFLICT plain m
      else if m.poolFree + j.saved.length * saveBytes < j.courses.length * saveBytes then refuse r eCAPACITY plain m
      else answer r stOK (le 4 (j.saveId + 1).toNat) (m.beginPause slot)

def execJobPause (p : Packet) (s : State) : Host.Outcome State Fault Refusal := commandM 0x52 p runJobPause s

def execJobPauseStopped (slot : Nat) (s : State) : Host.Outcome State Fault Refusal :=
  happens (fun m => match m.job slot with | some j => j.state == .pausing && !j.stopped | none => false)
    (fun m => m.setJob slot fun j => { j with stopped := true }) s

/-- The state of every course is saved, and the courses are free (R283). -/
def saveDone (slot : Nat) (m : Mod) : Mod :=
  match m.job slot with
  | none => m
  | some j =>
    let saved := j.courses.map m.course
    ((m.cleanCourses j.courses).setJob slot fun j =>
      { j with
        state := .paused, saved := saved, savedProf := m.mortar.open_, savedMc := m.sec.ucode, resumeOn := j.courses
        courses := [] })

/-- JOB_SAVE_DONE (R283): the courses have stopped and their transfers are over. -/
def execJobSaveDone (slot : Nat) (s : State) : Host.Outcome State Fault Refusal :=
  happens (fun m => match m.job slot with
      | some j => j.state == .pausing && j.stopped && j.courses.all fun c => (m.course c).dma.isEmpty
      | none => false)
    (saveDone slot) s

/-- JOB_RESUME (R283). -/
def runJobResume (r : Req) (m : Mod) : Mod :=
  let v := m.jobsNext
  if !sized r.payload 8 then malformed r m
  else
    match v.slotOf (wordAt r.payload 0) with
    | none => refuse r ePARAM (badField 0) m
    | some (slot, j) =>
      if j.state ≠ .paused ∨ wordAt r.payload 4 ≠ j.saveId then refuse r eCONFLICT plain m
      else if j.savedProf ≠ m.mortar.open_ ∨ j.savedMc ≠ m.sec.ucode then refuse r eCONFLICT plain m
      else if (v.resumeCourses j).isNone then refuse r eCAPACITY plain m
      else later r (.jobResume slot) m

def execJobResume (p : Packet) (s : State) : Host.Outcome State Fault Refusal := commandM 0x53 p runJobResume s

/-- JOB_STOP (R284). A package that is still loading or being verified is neither running nor loaded: E_CONFLICT. -/
def runJobStop (r : Req) (m : Mod) : Mod :=
  if !sized r.payload 4 then malformed r m
  else
    match m.jobsNext.slotOf (wordAt r.payload 0) with
    | none => refuse r ePARAM (badField 0) m
    | some (slot, j) =>
      if j.state = .loading ∨ j.state = .verifying then refuse r eCONFLICT plain m else later r (.jobStop slot) m

def execJobStop (p : Packet) (s : State) : Host.Outcome State Fault Refusal := commandM 0x54 p runJobStop s

def JState.code : JState → Nat
  | .loading => 0
  | .verifying => 1
  | .loaded => 2
  | .rejected => 3
  | .running => 4
  | .pausing => 5
  | .paused => 6
  | .ended => 7

/-- The job state of 06 Table 12. -/
def jobBytes (v : Mod) (slot : Nat) (j : Job) : List Byte :=
  let fl := b2n j.reclaimed + 2 * b2n (j.seen.getLsbD 1) + 4 * b2n (j.seen.getLsbD 0) + 8 * b2n (j.seen.getLsbD 2)
  le 4 j.id.toNat ++ le 1 j.state.code ++ le 1 fl ++ le 2 (maskOf 16 j.courses) ++ le 4 j.exit.toNat ++ le 4 j.lpddrMib ++
    le 8 j.ticks ++ le 4 j.saveId.toNat ++ le 2 (v.propsStaged slot) ++ le 2 0 ++ le 4 j.lastProp.toNat ++ le 4 j.mismatches

/-- JOB_QUERY (R286). -/
def runJobQuery (v : Mod) (r : Req) (m : Mod) : Mod :=
  if !sized r.payload 4 then malformed r m
  else
    match v.slotOf (wordAt r.payload 0) with
    | none => refuse r ePARAM (badField 0) m
    | some (slot, j) => answer r stOK (jobBytes v slot j) m

def execJobQuery (p : Packet) (s : State) : Host.Outcome State Fault Refusal := query 0x55 p runJobQuery s

/-- JOB_TIME_LIMIT (R285). -/
def execJobTimeLimit (slot : Nat) (s : State) : Host.Outcome State Fault Refusal :=
  happens (fun m => match m.job slot with
      | some j => j.state == .running && decide (0 < field j.package 36 8) && decide (field j.package 36 8 ≤ j.ticks)
      | none => false)
    (fun m => (m.endJob slot 5 0)) s

/-! ### DMA (R278) -/

/-- Move the data of a transfer. -/
def Mod.dmaMove (m : Mod) (c slot : Nat) (t : Dma) (region : Memory) : Mod :=
  let sram := (m.course c).sram
  if t.into then m.setCourse c fun k => { k with sram := (dmaMap t).foldl (fun x p => memPut x p.2 (memGet region p.1)) sram }
  else m.setJob slot fun j => { j with mem := (dmaMap t).foldl (fun x p => memPut x p.1 (memGet sram p.2)) region }

/-- A wait that is over. -/
def Course.waitOver (k : Course) : Course :=
  match k.wait with
  | .dma tag => if k.dma.any fun t => t.tag == tag then k else { k with wait := .none }
  | .desc d => if k.dma.any fun t => t.desc == d then k else { k with wait := .none }
  | _ => k

/-- DMA_DONE (R278, R430): the oldest transfer of the tag completes, over a memory port of the Mortar die that is up (R25); an
uncorrectable read ends the job. -/
def dmaDone (c : Nat) (tag : BitVec 8) (bad : Option Nat) (m : Mod) : Mod :=
  match m.mortar.jobs.find? (fun p => p.2.courses.contains c), (m.course c).dma.find? fun t => t.tag == tag with
  | some (slot, j), some t =>
    match t.into, bad with
    | true, some ch =>
      let m := { m with die := { m.die with
        media := m.die.media + 1, chErr := amod (0, 0) m.die.chErr ch fun e => (e.1, e.2 + 1) } }
      (m.endJob slot 7 0)
    | _, _ =>
      let m := m.dmaMove c slot t j.mem
      m.setCourse c fun k => ({ k with dma := k.dma.erase t } : Course).waitOver
  | _, _ => m

def execDmaDone (course : Nat) (tag : BitVec 8) (badChannel : Option Nat) (s : State) : Host.Outcome State Fault Refusal :=
  happens (fun m => (m.die.up.getLsbD 10 || m.die.up.getLsbD 11) && (m.course course).dma.any fun t => t.tag == tag) (dmaDone course tag badChannel) s

/-! ### The determinism profile (R257) -/

/-- DET_REQ waits, and no customer job is RUNNING or PAUSING. -/
def Mod.detMay (m : Mod) : Bool :=
  m.mortar.detPend && !(m.mortar.jobs.any fun p => p.2.state == .running || p.2.state == .pausing)

/-- DET_REQ takes effect. -/
def Mod.detChange (m : Mod) : Mod := { m with mortar := { m.mortar with open_ := m.mortar.detReq, detPend := false } }

/-- What a boundary does of it. -/
def Mod.detTick (m : Mod) : Mod := if m.detMay then m.detChange else m

/-- DET_PROFILE_CHANGE (R257): at a boundary at which the last job stopped after the boundary's own work. -/
def execDetProfileChange (s : State) : Host.Outcome State Fault Refusal := atEdge Mod.detMay Mod.detChange s

/-! ### Course failure and the thermal model (R254, R260 – R263) -/

/-- The mode that the number of reserved courses gives (R262). -/
def modeOf (n : Nat) : Nat := if 2 ≤ n then 0 else if n = 1 then 1 else 2

def Mod.setReserved (m : Mod) (l : List Nat) : Mod :=
  { m with mortar := { m.mortar with reserved := l, mode := if m.variant.windows then modeOf l.length else 2 } }

/-- The slot of the job that holds a course. -/
def Mod.courseJob (m : Mod) (c : Nat) : Option Nat := (m.mortar.jobs.find? fun p => p.2.courses.contains c).map Prod.fst

/-- A course leaves the enabled set (R254): a job on it ends, and the model goes on without it. -/
def leavesSet (c reason : Nat) (m : Mod) : Mod :=
  let m := match m.courseJob c with
    | some slot => m.endJob slot 8 0
    | none => m
  let m := m.setCourse c fun k => { k.clean with failed := true, errors := [], failing := none }
  let m := (m.setReserved (m.mortar.reserved.filter fun x => x != c)).setDomain c fun d => { d with state := .off, goal := .off }
  m.record 0x30 m.origin (le 1 c ++ le 1 reason ++ [0, 0] ++ le 4 (if reason = 2 then 1 else 3))

/-- The courses that became FAILED in the tick that ended leave the enabled set. -/
def Mod.failTick (m : Mod) : Mod :=
  (List.range 16).foldl (fun (m : Mod) c => match (m.course c).failing with
    | some reason => leavesSet c reason m
    | none => m) m

/-- A solve ends: its time is reported, and the next may start. -/
def Mod.solveOver (m : Mod) (v : Solve) : Mod :=
  let t := sat 0xFFFF (m.tick.now - v.accepted)
  { m with mortar := { m.mortar with solving := none, solveLast := t, solvePeak := m.mortar.solvePeak.put t } }

/-- A mismatch, an uncorrectable error or a checker failure in a solve (R270): it runs once more, and the second ends it. -/
def Mod.solveFailed (m : Mod) (v : Solve) : Mod :=
  if v.rerun then (m.solveOver v).final v.waiter eINTEGRITY plain
  else { m with mortar := { m.mortar with solving := some { v with rerun := true } } }

/-- What the errors of a course do to its client: a job ends with GUARD or MEDIA (R282, R285), a solve runs once more (R270). -/
def Mod.clientErrs (m : Mod) (c kind : Nat) : Mod :=
  match m.courseJob c, m.mortar.solving with
  | some slot, _ => m.endJob slot (if kind = 0 then 6 else 7) 0
  | none, some v => m.solveFailed v
  | none, none => m

/-- COURSE_FAIL (R254): one EXACT mismatch (`kind` 0) or one uncorrectable SRAM error (1) of a course. It is counted, it stops the
course's client, and the third of one kind within a second makes the course FAILED. -/
def courseFail (c kind : Nat) (m : Mod) : Mod :=
  let m := if kind = 0 then m.mismatched c 1 else { m with mortar := { m.mortar with sramUnc := m.mortar.sramUnc + 1 } }
  (m.clientErrs c kind).courseErrors c kind 1

def execCourseFail (course reason : Nat) (s : State) : Host.Outcome State Fault Refusal :=
  happens (fun m => m.tick.running && m.enabled course && decide (reason < 2)) (courseFail course reason) s

/-- The next partner of the thermal model: the lowest enabled course that is not reserved (R263). -/
def Mod.partner (m : Mod) : Option Nat := (List.range 16).find? fun c => m.enabled c && !m.mortar.reserved.contains c

def insertSorted (c : Nat) : List Nat → List Nat
  | [] => [c]
  | x :: t => if c < x then c :: x :: t else x :: insertSorted c t

/-- THERMAL_PARTNER_RETURN (R263): the model takes its new partner, from a job by pausing the job. -/
def partnerReturn (m : Mod) : Mod :=
  match m.partner with
  | none => m
  | some c =>
    match m.mortar.jobs.find? fun p => p.2.courses.contains c with
    | some (slot, j) =>
      let m := if j.state = .running then m.beginPause slot else m
      { m.setJob slot (fun j => { j with reclaimed := true }) with
        mortar := { (m.setJob slot fun j => { j with reclaimed := true }).mortar with reclaim := some (slot, c) } }
    | none =>
      let m := ((m.setCourse c Course.clean).setReserved (insertSorted c m.mortar.reserved)).wake c
      { m with mortar := { m.mortar with reclaim := none } }

/-- The model lacks a partner, and the course it would take can be taken or its job can be paused now. -/
def Mod.partnerMay (m : Mod) : Bool :=
  m.tick.running && m.variant.windows && m.mortar.mode != 0 &&
    (match m.partner with
     | some c => !(m.mortar.reclaim.isSome && m.jobCourses.contains c)
     | none => false)

def execThermalPartnerReturn (s : State) : Host.Outcome State Fault Refusal := happens Mod.partnerMay partnerReturn s

/-- A correction clamped to ±4 mW (R261), and whether it was clamped. -/
def clampCorrection (w : BitVec 16) : BitVec 16 × Bool :=
  if 4 < kfVal w then ((kfOf 4).1, true) else if kfVal w < -4 then ((kfOf (-4)).1, true) else (w, false)

/-- The slice of a tick's prediction is open: from cycle 900 of the tick before to cycle 150 of its own, once (R261). -/
def Mod.sliceOpen (m : Mod) : Bool :=
  (m.afterCommit || m.inPhase .boundary || m.inPhase .sense) && decide (m.trowel.ffFor < m.ffTick)

/-- THERMAL_MODEL_SLICE (R261, R262): what the reserved courses computed, compared and sent; a pair that differs is a miss. -/
def thermalSlice (first second : List (Nat × BitVec 16)) (m : Mod) : Mod :=
  if m.mortar.mode = 0 ∧ first ≠ second then
    ({ m with mortar := { m.mortar with compareFails := m.mortar.compareFails + 1 } }).ffMiss
  else
    let l := first.map fun p => (p.1, clampCorrection p.2)
    let bad := l.any fun p => p.2.2
    let mask : Word := BitVec.ofNat 32 (maskOf 16 m.mortar.reserved)
    let m := if bad then { m with mortar := { m.mortar with range := m.mortar.range.put mask } } else m
    { m with trowel := { m.trowel with
        pred := l.map fun p => (p.1, p.2.1), ffFor := m.ffTick, ffMisses := 0, ffGood := m.trowel.ffGood + 1
        ffState := if m.trowel.ffState = 1 then 0 else m.trowel.ffState } }

def execThermalModelSlice (first second : List (Nat × BitVec 16)) (s : State) : Host.Outcome State Fault Refusal :=
  happens (fun m => m.sliceOpen && m.variant.windows && decide (m.mortar.mode < 2) && !m.reinitOn 4 && m.dieLink 4) (thermalSlice first second) s

/-! ### The planner (R264 – R271) -/

/-- A demand entry (06 Table 7). -/
structure Demand where
  src    : Nat
  dst    : Nat
  lanes  : Nat
  low    : Nat
  mode   : Nat
  pinned : Bool
  back   : Bool
  rsv    : Nat
  weight : Nat
  tag    : Word
deriving DecidableEq, Repr

/-- Entry `n` of a job description. -/
def demandAt (d : List Byte) (n : Nat) : Demand :=
  let o := 72 + 12 * n
  let f := field d (o + 5) 1
  { src := field d o 2, dst := field d (o + 2) 2, lanes := bits (field d (o + 4) 1) 3 0, low := bits (field d (o + 4) 1) 7 4
    mode := bits f 1 0, pinned := f.testBit 2, back := f.testBit 3, rsv := bits f 7 4, weight := field d (o + 6) 2
    tag := wordAt d (o + 8) }

def demands (d : List Byte) : List Demand := (List.range (field d 2 2)).map (demandAt d)

/-- The source and destination pairs of a demand. -/
def Demand.pairs (x : Demand) : List (Nat × Nat) := (x.src, x.dst) :: (if x.back then [(x.dst, x.src)] else [])

/-- The offset within an entry of what R266 refuses. -/
def demandBad (scope : BitVec 512) (seen : List (Nat × Nat)) (x : Demand) : Option Nat :=
  if 512 ≤ x.src then some 0
  else if 512 ≤ x.dst then some 2
  else if x.lanes = 0 ∨ 8 < x.lanes ∨ x.lanes < x.low then some 4
  else if x.mode = 3 ∨ x.rsv ≠ 0 then some 5
  else if x.weight = 0 then some 6
  else if !inScope scope x.src then some 0
  else if !inScope scope x.dst then some 2
  else if x.mode = 1 ∧ x.lanes ≠ 8 then some 4
  else if (x.pairs.any seen.contains) || (x.back && x.src == x.dst) then some 0
  else none

def demandsBad (scope : BitVec 512) : List Demand → List (Nat × Nat) → Nat → Option (Nat × Nat)
  | [], _, _ => none
  | x :: t, seen, n =>
    match demandBad scope seen x with
    | some o => some (n, o)
    | none => demandsBad scope t (seen ++ x.pairs) (n + 1)

/-- The checks of R266 on a PLAN_SOLVE request: the status and detail of the first that fails. -/
def Mod.solveBad (m : Mod) (pl : List Byte) : Option (Nat × List Byte) :=
  let d := pl.drop 16
  let flags := field pl 8 4
  let n := field d 2 2
  let bad (off : Nat) : Option (Nat × List Byte) := some (ePARAM, badField off)
  if flags.testBit 1 ∨ 16 ≤ flags then bad 8
  else if field d 0 1 ≠ 1 then bad 16
  else if 4096 < n then bad 18
  else if !zeros d 4 4 then bad 20
  else if field pl 12 4 ≠ (72 + 12 * n + 7) / 8 ∨ !sized d (72 + 12 * n) then bad 12
  else
    match demandsBad (maskAt d 8) (demands d) [] 0 with
    | some (k, o) => some (ePARAM, detail 1 (88 + 12 * k + o) k)
    | none =>
      if m.variant = .p ∧ (demands d).any fun x => x.mode != 1 then some (eABSENT, plain)
      else if (demands d).any fun x => m.reservedEnd { kind := .port, src := x.src, dst := x.dst, lane := 0 } then
        some (eCONFLICT, plain)
      else none

/-- A PLAN_ID that no plan and no waiting solve has. -/
def Mod.solveIdFree (m : Mod) (id : Word) : Bool :=
  m.planIdFree id && !((m.mortar.solving.toList ++ m.mortar.solves).any fun v => v.planId == id)

/-- PLAN_SOLVE (R264). -/
def runPlanSolve (r : Req) (m : Mod) : Mod :=
  let pl := r.payload
  if pl.length < 88 then malformed r m
  else if !m.solveIdFree (wordAt pl 0) then refuse r ePARAM (badField 0) m
  else
    match m.solveBad pl with
    | some (st, d) => refuse r st d m
    | none =>
      let v : Solve :=
        { waiter := r.w, planId := wordAt pl 0, base := wordAt pl 4, flags := wordAt pl 8, desc := pl.drop 16
          accepted := m.tick.now, rerun := false }
      if m.mortar.solving.isNone ∧ m.mortar.solves.isEmpty then
        pend r { m with mortar := { m.mortar with solving := some v } }
      else if 8 ≤ m.mortar.solves.length then refuse r eBUSY (detail 0x0F noField noIndex) m
      else pend r { m with mortar := { m.mortar with solves := m.mortar.solves ++ [v] } }

def execPlanSolve (p : Packet) (s : State) : Host.Outcome State Fault Refusal := commandM 0x16 p runPlanSolve s

/-- SOLVE_START (R264). -/
def execSolveStart (s : State) : Host.Outcome State Fault Refusal :=
  happens (fun m => m.mortar.solving.isNone && !m.mortar.solves.isEmpty && !m.reinitOn 3)
    (fun m => match m.mortar.solves with
      | v :: t => { m with mortar := { m.mortar with solving := some v, solves := t } }
      | [] => m) s

/-- Lanes that circuits give from one port to another. -/
def lanesBetween (cs : List Circuit) (src dst : Nat) : Nat :=
  sumN ((cs.filter fun c => c.src == src && c.dst == dst).map fun c => if c.kind = .port then 8 else 1)

/-- The demand that a circuit serves, as its mode allows. -/
def servesDemand (x : Demand) (c : Circuit) : Bool :=
  x.pairs.contains (c.src, c.dst) && (x.mode == 0 || (x.mode == 1) == (c.kind == .port))

/-- The lanes that a plan gives every demand, and its REVERSE. -/
def givenLanes (cs : List Circuit) (x : Demand) : List Nat := x.pairs.map fun p => lanesBetween cs p.1 p.2

/-- The lowest demand left short (R268). -/
def shortDemand (cs : List Circuit) (ds : List Demand) : Option Nat :=
  ds.findIdx? fun x => (givenLanes cs x).any fun n => decide (n < x.lanes)

/-- The plan agrees with its description (R267, R268): reserved members unchanged, every other circuit for a demand, no demand
above LANES or below MIN_LANES, the lowest short demand as said. -/
def Mod.agrees (m : Mod) (pl : Plan) (d : List Byte) (short : Option Nat) : Bool :=
  let cs := planCircuits pl
  let ds := demands d
  let kept := pl.baseSet.filter fun x =>
    m.reservedEnd x.circ && (inScope pl.scope x.circ.src || inScope pl.scope x.circ.dst)
  (kept.all fun x => cs.contains x.circ) &&
    (pl.entries.all fun e => match entryCircuit e with
      | some c => (kept.any fun x => x.circ == c) || ds.any fun x => servesDemand x c &&
          ((pl.baseSet.any fun y => y.circ == c) || (e.jobTag == x.tag && entryPinned e == x.pinned))
      | none => false) &&
    (ds.all fun x => (givenLanes cs x).all fun n => decide (x.low ≤ n) && decide (n ≤ x.lanes)) &&
    shortDemand cs ds == short

/-- SOLVE_DONE (R268 – R270): the plan is checked and staged; a checker failure runs the solve once more. -/
def solveDone (result : SolveResult) (prefer : List Nat) (v : Solve) (m : Mod) : Mod :=
  let t := m.tick.now - v.accepted
  let stop (st : Nat) (d : List Byte) : Mod := (m.solveOver v).final v.waiter st d
  let failed := m.solveFailed v
  match result with
  | .unmet d => stop eCAPACITY (detail 0 noField d)
  | .checkFail => failed
  | .plan entries short =>
    let pl := m.newPlan v.planId v.base (v.flags.toNat % 8) (maskAt v.desc 8) entries .solver false none
    match entriesBad (some pl.scope) pl.entries [] 0 with
    | some _ => failed
    | none =>
      if (m.plan v.planId).isSome then stop ePARAM (badField 0)
      else if !pl.baseOk then stop eCONFLICT plain
      else if !m.agrees pl v.desc short then failed
      else
        match m.checkPlan prefer pl with
        | .error (st, d) => 
          if st = eCAPACITY ∧ (m.freeContexts < pl.entries.length ∨ 255 ≤ m.livePlans) then stop st d else failed
        | .ok p =>
          let m := ({ m.solveOver v with engine := { m.engine with plans := m.engine.plans ++ [p] } }).staged p
          let body := stageFinal p ++ le 4 t ++ le 4 0
          match short with
          | none => m.final v.waiter stOK body
          | some k => m.final v.waiter eDEGRADED (detail 0 noField k ++ body)

def execSolveDone (result : SolveResult) (prefer : List Nat) (s : State) : Host.Outcome State Fault Refusal :=
  happens (fun m => m.engineUp && m.mortar.solving.isSome)
    (fun m => match m.mortar.solving with
      | some v => solveDone result prefer v m
      | none => m) s

end Sys2Proof.Machine
end

