-- ==== Sys2Proof/Machine/Lasers.lean ====
section
/-! DEFINITION. Lasers (R331 – R338), loss of signal, shutters and probing pulses (R339 – R347), and the class 3 events that
report them (R372). -/

namespace Sys2Proof.Machine

/-! ### Lasers -/

def Mod.setLaser (m : Mod) (k : Nat) (f : Laser → Laser) : Mod :=
  { m with osc := { m.osc with lasers := amod (.init 7) m.osc.lasers k f } }

/-- The mean bias of a laser over 1 s, in 0.01 mA (R334). -/
def Mod.biasMean (m : Mod) (k : Nat) : Nat :=
  let l := (m.laser k).bias.samples.filter fun p => decide (m.tick.now < p.1 + 100000)
  if l.isEmpty then 0 else sumN (l.map Prod.snd) / l.length

/-- Bias as a percentage of EOL_BIAS. -/
def Mod.laserAge (m : Mod) (k : Nat) : Nat :=
  if m.biasMean k = 0 then 0 else m.biasMean k * 100 / Config.laserEolBias k

/-- The spare of a laser's set (07 Table 8). -/
def Mod.spareOf (m : Mod) (k : Nat) : Option Nat :=
  let home := let l := m.laser k; if 16 ≤ k ∧ k < 20 ∨ 26 ≤ k ∧ l.partner ≠ 0 then l.partner else k
  ((laserSets m.variant).find? fun s => s.1.contains home).map Prod.snd

/-- The READY spare of a laser's set. -/
def Mod.readySpare (m : Mod) (k : Nat) : Option Nat :=
  (m.spareOf k).bind fun s => if (m.laser s).role = 1 ∧ s ≠ k then some s else none

/-- The laser that a spare replaces: itself, or for a spare in service the laser it replaced. -/
def Mod.laserHome (m : Mod) (k : Nat) : Nat := if (m.laser k).partner ≠ 0 ∨ 16 ≤ k ∧ k < 20 then (m.laser k).partner else k

/-- Record type 0x0040. -/
def Mod.laserRecord (m : Mod) (k partner event : Nat) : Mod :=
  m.record 0x40 m.origin
    (le 1 k ++ le 1 partner ++ le 1 event ++ [0] ++ le 2 (sat 0xFFFF (m.biasMean k)) ++ le 1 (sat 0xFF (m.laserAge k)))

/-- The mean bias of a working laser has passed SPARE_AT % of EOL_BIAS. -/
def Mod.aged (m : Mod) (k : Nat) : Bool :=
  (m.laser k).role == 0 && decide (Config.laserEolBias k * m.osc.spareAt < m.biasMean k * 100)

/-- LASER_HANDOVER (R334, R338): the spare's switch is set in the Actuate phase of the next tick; a probe laser is replaced at once. -/
def handOver (k : Nat) (m : Mod) : Mod :=
  match m.readySpare k with
  | none => m
  | some s =>
    if k < 20 then
      m.setLaser k fun l => { l with switchAt := some (m.tick.now + 1) }
    else
      ((m.laserRecord k s 3).setLaser k fun l => { l with role := 3 }).setLaser s fun l =>
        { l with role := 0, partner := m.laserHome k }

def execLaserHandover (laser : Nat) (s : State) : Host.Outcome State Fault Refusal :=
  happens (fun m => m.driving && m.dieLink 2 && m.variant.laser laser && m.aged laser && (m.readySpare laser).isSome &&
      (m.laser laser).switchAt.isNone && (decide (laser < 20) || !(m.cal.tests.any fun t => t.cls == 4))) (handOver laser) s

/-- The switch of a READY spare is set to an ageing laser's combiner: both are HANDOVER, and the crossfade follows in the next tick. -/
def Mod.setSwitch (m : Mod) (k : Nat) : Mod :=
  let m := m.setLaser k fun l => { l with switchAt := none }
  match m.readySpare k, (m.laser k).role with
  | some s, 0 =>
    (m.setLaser k fun l => { l with role := 2, inPlace := m.tick.now + 2 }).setLaser s fun l =>
      { l with role := 2, partner := m.laserHome k, inPlace := m.tick.now + 2 }
  | _, _ => m

/-- The switches due in this Actuate phase (R334). -/
def Mod.setSwitches (m : Mod) : Mod :=
  if !m.driving || !m.dieLink 2 then m
  else ((m.osc.lasers.filter fun p => p.2.switchAt.any fun t => decide (t ≤ m.tick.now)).map Prod.fst).foldl Mod.setSwitch m

/-- The end of a crossfade at a boundary: the old laser is RETIRED, its bias ramping to 0, the spare WORKING, and a record is
written. -/
def Mod.endHandover (m : Mod) (k : Nat) : Mod :=
  let l := m.laser k
  if l.role = 2 ∧ l.inPlace ≤ m.tick.now then
    match (m.osc.lasers.find? fun p => decide (16 ≤ p.1) && p.2.role == 2 && p.2.partner == k).map Prod.fst with
    | some s =>
      ((((m.laserRecord k s 0).setLaser k fun l => { l with role := 3 }).setLaser s fun l => { l with role := 0 })).setLoop (0x3000 + k)
        fun l => { l with target := 0, mode := .auto, preset := l.preset || l.mode == .manual }
    | none => m
  else m

/-- Crossfades that end at this boundary. The lasers that hand over are those whose number is not a spare in HANDOVER. -/
def Mod.endHandovers (m : Mod) : Mod :=
  ((m.osc.lasers.map Prod.fst).filter fun k => decide (k < 16)).foldl (fun m k => m.endHandover k) m

/-- The temperature set-point of a READY OSC spare stays 0.5 °C from that of every working laser of its set, above them all where
it has to be moved (R333; the side is a DESIGN CHOICE, log 101). -/
def Mod.spaceSpare (m : Mod) (set : List Nat × Nat) : Mod :=
  let temps := (set.1.filter fun k => (m.laser k).role == 0).map fun k => (m.loop (0x3100 + k)).target
  let own := (m.loop (0x3100 + set.2)).target
  if (m.laser set.2).role ≠ 1 ∨ 20 ≤ set.2 ∨ temps.all (fun t => decide (32768 ≤ (own - t).natAbs)) then m
  else m.setLoop (0x3100 + set.2) fun l => { l with target := temps.foldl max (lget 0 temps 0) + 32768 }

/-- The READY spares at a boundary. -/
def Mod.spaceSpares (m : Mod) : Mod := (laserSets m.variant).foldl Mod.spaceSpare m

/-- LASER_FAILOVER (R335, R336): the laser is FAILED; a READY spare, or the one already handing over, takes its place. -/
def failOver (k : Nat) (m : Mod) : Mod :=
  let home := m.laserHome k
  let s := match (m.osc.lasers.find? fun p => p.1 != k && p.2.role == 2 && (16 ≤ p.1) && p.2.partner == home).map Prod.fst with
    | some s => some s
    | none => m.readySpare k
  let back := if 16 ≤ k ∧ (m.laser k).role = 2 then some home else none
  match back, s with
  | some h, _ => ((m.laserRecord k h 1).setLaser k fun l => { l with role := 4, partner := 0 }).setLaser h fun l => { l with role := 0 }
  | none, some s =>
    ((m.laserRecord k s 1).setLaser k fun l => { l with role := 4 }).setLaser s fun l => { l with role := 0, partner := home }
  | none, none => (m.laserRecord k 0xFF 2).setLaser k fun l => { l with role := 4 }

/-- A READY spare that has lost its monitor power, or whose loop is implausible, is FAILED (07 Table 9). -/
def failSpare (k : Nat) (m : Mod) : Mod := (m.laserRecord k 0xFF 2).setLaser k fun l => { l with role := 4 }

/-- LASER_FAILOVER: a laser in service, or a READY spare, loses its monitor power. -/
def execLaserFailover (laser : Nat) (s : State) : Host.Outcome State Fault Refusal :=
  happens (fun m => m.tick.running && decide (laser < 20) && (m.inService laser || (m.laser laser).role == 1))
    (fun m => if m.inService laser then failOver laser m else failSpare laser m) s

/-- LASER_EOL (R336). -/
def execLaserEol (laser : Nat) (s : State) : Host.Outcome State Fault Refusal :=
  happens
    (fun m => m.running && m.dieLink 2 && m.variant.laser laser && (m.laser laser).role == 0 && (m.readySpare laser).isNone &&
      decide (Config.laserEolBias laser ≤ m.biasMean laser))
    (fun m => { m with osc := { m.osc with eol := true } }) s

/-- PROBE_LASER_FAILURE (R338): FAILED; its spare takes over at the next calibration run that needs it. -/
def failProbe (k : Nat) (m : Mod) : Mod :=
  (m.laserRecord k ((m.readySpare k).getD 0xFF) 4).setLaser k fun l => { l with role := 4 }

def execProbeLaserFailure (laser : Nat) (s : State) : Host.Outcome State Fault Refusal :=
  happens (fun m => m.tick.running && m.dieLink 2 && m.variant.laser laser && decide (24 ≤ laser) && m.inService laser)
    (failProbe laser) s

/-- A laser with an implausible loop is FAILED (07 Table 9), from the boundary after the hold of R214. -/
def Mod.failLaser (m : Mod) (k : Nat) : Mod :=
  let held (n : Nat) : Bool := (m.loop n).causes.getLsbD 1
  if !(held (0x3000 + k) || held (0x3100 + k)) then m
  else if (m.laser k).role = 1 then failSpare k m
  else if !m.inService k then m
  else if k < 20 then failOver k m else failProbe k m

def Mod.failLasers (m : Mod) : Mod := (m.osc.lasers.map Prod.fst).foldl Mod.failLaser m

/-! ### Class 3 events (R372) -/

def NState.code : NState → Nat
  | .none => 0
  | .darkOsc => 1
  | .foreign => 2
  | .incompatible => 3
  | .up => 4

def Mod.neigh (m : Mod) (p : Nat) : Neigh := aget .init m.osc.neigh p

def Mod.setNeigh (m : Mod) (p : Nat) (f : Neigh → Neigh) : Mod :=
  { m with osc := { m.osc with neigh := amod .init m.osc.neigh p f } }

/-- An event of class 3 about a port. -/
def Mod.event3 (m : Mod) (p cause : Nat) (data : List Byte) : Mod :=
  m.event 3 (le 2 p ++ le 1 cause ++ le 1 (m.neigh p).nstate.code ++ le 4 0 ++ slice data 0 32)

/-! ### Shutters -/

def Mod.shutter (m : Mod) (p : Nat) : Shutter := aget .init m.osc.shutters p

def Mod.setShutter (m : Mod) (p : Nat) (f : Shutter → Shutter) : Mod :=
  { m with osc := { m.osc with shutters := amod .init m.osc.shutters p f } }

/-- The port is TRUNK (R97). -/
def Mod.isTrunk (m : Mod) (p : Nat) : Bool := m.portClass p == 4

/-- What R342 asks of a port besides loss of signal. -/
def Mod.mayEmit (m : Mod) (p : Nat) : Bool :=
  m.isTrunk p && !(m.shutter p).force && m.driving && !m.sup.interlock

/-- The shutter is open under R342. -/
def Mod.wantsOpen (m : Mod) (p : Nat) : Bool := m.mayEmit p && !(m.shutter p).los

/-- The shutter stays open or opening: under R342, or in a probing pulse (R344). -/
def Mod.keepsOpen (m : Mod) (p : Nat) : Bool :=
  m.wantsOpen p || (m.mayEmit p && (m.shutter p).los && (m.shutter p).pulse.isSome)

/-- Darken a port's modulator and close its shutter. -/
def Mod.closeShutter (m : Mod) (p : Nat) : Mod :=
  let s := m.shutter p
  if !s.isOpen && !s.opening && !s.emitting then m
  else
    let m := m.setShutter p fun s =>
      { s with opening := false, isOpen := false, emitting := false, pulse := none, closedAt := m.tick.now }
    let m := { m with osc := { m.osc with frames := m.osc.frames.filter fun f => f.1 != p } }
    if s.isOpen then m.event3 p 3 [] else m

/-- Ports whose shutter no longer may stay open when a tick begins: the Actuate phase of that tick darkens them (R342). -/
def Mod.darkenDue (m : Mod) : Mod :=
  { m with osc := { m.osc with
      darken := (m.osc.shutters.map Prod.fst).filter fun p =>
        ((m.shutter p).isOpen || (m.shutter p).opening || (m.shutter p).emitting) && !m.keepsOpen p } }

/-- The Actuate phase (R342): shutters that may not stay open close, in the tick after the one in which that came; those that may open
start to. -/
def Mod.actuateShutter (m : Mod) (p : Nat) : Mod :=
  let s := m.shutter p
  if !m.keepsOpen p then if m.osc.darken.contains p then m.closeShutter p else m
  else if m.wantsOpen p && m.dieLink 2 && !s.isOpen && !s.opening then m.setShutter p fun s => { s with opening := true, pulse := none }
  else m

/-- Ports whose shutter the Actuate phase looks at: TRUNK ports, and those that have a shutter record. -/
def Mod.shutterPorts (m : Mod) : List Nat :=
  ((m.fabric.classes.filter fun c => c.2 == 4).map Prod.fst ++ m.osc.shutters.map Prod.fst).dedup

def Mod.actuateShutters (m : Mod) : Mod := m.shutterPorts.foldl (fun m p => m.actuateShutter p) m

/-- Close every shutter at once (R346). -/
def Mod.closeAll (m : Mod) : Mod := (m.osc.shutters.map Prod.fst).foldl (fun m p => m.closeShutter p) m

/-- SHUTTER_OPENED (R341): the position sense reports fully open; the modulator emits. -/
def execShutterOpened (port : Nat) (s : State) : Host.Outcome State Fault Refusal :=
  happens (fun m => decide (port < 512) && (m.shutter port).opening && m.keepsOpen port)
    (fun m => (m.setShutter port fun s =>
      { s with opening := false, isOpen := true, emitting := true, pulse := s.pulse.map fun _ => m.tick.now }).event3 port 2 []) s

/-! ### Loss of signal (R343, R345) -/

/-- The neighbour state of a port in loss of signal is NONE; a neighbour that was UP is lost (R367). -/
def Mod.loseSignal (m : Mod) (p : Nat) : Mod :=
  let n := m.neigh p
  let m := m.setNeigh p fun n =>
    { n with nstate := .none, changed := false, oneWay := false, sameRun := 0, goodRun := 0 }
  let m := m.event3 p 0 []
  if n.nstate = .up then m.event3 p 5 (slice n.last 8 18) else m

/-- LOS_ENTRY (R343). -/
def execLosEntry (port : Nat) (s : State) : Host.Outcome State Fault Refusal :=
  happens (fun m => m.running && decide (port < 512) && !(m.shutter port).los && decide (20 ≤ (m.shutter port).lowRun))
    (fun m => (m.setShutter port fun s => { s with los := true, highRun := 0 }).loseSignal port) s

/-- The neighbour state of a port by the conditions of 08 Table 3, entering UP left to NEIGHBOUR_UP. -/
def Mod.nstateOf (m : Mod) (p : Nat) : NState :=
  let n := m.neigh p
  if (m.shutter p).los then .none
  else if 16 ≤ n.sinceValid then .darkOsc
  else if BitVec.ofNat 32 (field n.last 4 4) ≠ m.osc.fabricId then .foreign
  else if !(field n.last 1 1).testBit 1 || decide (16 ≤ n.versionRun) then .incompatible
  else if n.nstate = .up then .up else .darkOsc

/-- LOS_EXIT (R345). A probing pulse under way becomes the ordinary opening. -/
def execLosExit (port : Nat) (s : State) : Host.Outcome State Fault Refusal :=
  happens (fun m => m.running && decide (port < 512) && (m.shutter port).los && decide (100 ≤ (m.shutter port).highRun))
    (fun m =>
      let m := m.setShutter port fun s => { s with los := false, lowRun := 0, pulse := none }
      (m.setNeigh port fun n => { n with nstate := m.nstateOf port }).event3 port 1 []) s

/-! ### Probing pulses (R344) -/

/-- PROBING_PULSE: every 1,000,000 ticks from its closing. -/
def execProbingPulse (port : Nat) (s : State) : Host.Outcome State Fault Refusal :=
  happens
    (fun m => m.dieLink 2 && decide (port < 512) && m.mayEmit port && (let s := m.shutter port
      s.los && !s.isOpen && !s.opening && decide (s.closedAt + 1000000 ≤ m.tick.now)))
    (fun m => { m with osc := { m.osc with pulses := m.osc.pulses + 1 } }.setShutter port fun s =>
      { s with opening := true, pulse := some 0 }) s

/-- PROBING_PULSE_END: after 200 ticks of emission. -/
def execProbingPulseEnd (port : Nat) (s : State) : Host.Outcome State Fault Refusal :=
  happens
    (fun m => let s := m.shutter port
      s.isOpen && (match s.pulse with
        | some t => decide (t + 200 ≤ m.tick.now)
        | none => false))
    (fun m => m.closeShutter port) s

end Sys2Proof.Machine
end

