-- ==== Sys2Proof/Machine/Osc.lean ====
section
/-! DEFINITION. The supervisory channel (R361 – R377): frames sent and received, neighbours, the port commands, blink windows,
and fabric time as the frames carry it (R379 – R388). -/

namespace Sys2Proof.Machine

/-! ### Tick time and fabric time (R378) -/

/-- One tick in 2^−16 ns. -/
def tickUnits : Nat := 655360000

def two64 : Nat := 18446744073709551616

/-- Tick time at the last boundary, 2^−16 ns modulo 2^64. -/
def Mod.tickTime (m : Mod) : Nat := m.tick.count * tickUnits % two64

/-- A difference of tick times, modulo 2^64, as a signed number. -/
def diff64 (a b : Nat) : Int := signed 64 ((a + two64 - b % two64) % two64)

/-- Fabric time (held) at a tick time. -/
def Mod.fabricAt (m : Mod) (t : Nat) : Int := m.time.fabric + diff64 t m.tickTime * (ppb9 + m.time.fabRate)

/-- Host time (held) at a tick time. -/
def Mod.hostAt (m : Mod) (t : Nat) : Int := m.time.host + diff64 t m.tickTime * (ppb9 + m.time.hostRate)

/-- TIME_CFG fields (R398). -/
def Mod.isRoot (m : Mod) : Bool := m.time.cfg.getLsbD 0
def Mod.ppsIn (m : Mod) : Bool := m.time.cfg.getLsbD 1

/-- 2^−16 ns in a span of `ns` nanoseconds. -/
def nsUnits (ns : Int) : Int := ns * 65536

/-- The mean of the measured link delays, 2^−16 ns; none before 16 have been measured (R382). -/
def Neigh.linkDelay (n : Neigh) : Option Nat := if 16 ≤ n.delays.length then some (sumN (n.delays.take 16) / 16) else none

/-- LINK_DELAY as the neighbour record has it, 2^−8 ns. -/
def Neigh.delayField (n : Neigh) : Nat :=
  match n.linkDelay with
  | some d => sat 0xFFFFFFFE (d / 256)
  | none => 0xFFFFFFFF

/-- A fabric-time step is recorded in the Cornerstone (R385): BASE, SOURCE, signed offset. -/
def Mod.stepRecord (m : Mod) (base source : Nat) (off : Instant) : Mod :=
  m.record 0x60 m.origin (le 1 base ++ le 1 source ++ [0, 0] ++ timeBytes off)

/-- Step fabric time by an offset in 2^−16 ns. -/
def Mod.stepFabric (m : Mod) (source : Nat) (off : Instant) : Mod :=
  ({ m with time := { m.time with
      fabric := m.time.fabric + off * ppb9, stepFree := false, stepNeeded := false, lockRun := 0, offRun := 0 } }).stepRecord 0 source off

/-- Total rate correction stays within ±200 ppm (R384). -/
def clampRate (r : Int) : Int := clampI (-200000) 200000 r

/-- The servo takes a new offset: the one allowed step, a wait for TIME_STEP, or a new rate (R384, R385). -/
def Mod.servo (m : Mod) (off : Int) : Mod :=
  let t := m.time
  let a := off.natAbs
  let m := { m with time := { t with
    offset := off
    lockRun := if (a : Int) ≤ nsUnits 100 then t.lockRun + 1 else 0
    offRun := if nsUnits 1000 < (a : Int) then t.offRun + 1 else 0 } }
  if t.fstate = 1 ∧ t.stepFree then m.stepFabric 0 off
  else if t.fstate = 1 ∧ nsUnits 10000000 < (a : Int) then { m with time := { m.time with stepNeeded := true } }
  else
    let r := clampRate (Config.servoRate t.fstate off t.fabRate)
    { m with time := { m.time with fabRate := r, rates := (r :: t.rates).take 1000 } }

/-! ### Upstream (R381) -/

def ofl (n : Neigh) (b : Nat) : Bool := (field n.last 2 2).testBit b

/-- A port may be the upstream. -/
def Mod.qualifies (m : Mod) (p : Nat) : Bool :=
  let n := m.neigh p
  n.nstate == .up && ofl n 0 && decide (field n.last 26 1 ≤ 14) && !n.oneWay && !n.loopback && m.osc.fabricId != 0 &&
    n.linkDelay.isSome

/-- The order of R381, most significant first. -/
def prefKey (n : Neigh) (p : Nat) : List Nat :=
  [b2n (ofl n 2), field n.last 27 1] ++ (slice n.last 32 16).map BitVec.toNat ++ [field n.last 26 1] ++
    (slice n.last 8 16).map BitVec.toNat ++ [p]

def listLt : List Nat → List Nat → Bool
  | a :: s, b :: t => if a < b then true else if b < a then false else listLt s t
  | _, _ => false

/-- The port that a follower prefers. -/
def Mod.bestUpstream (m : Mod) : Option Nat :=
  ((m.osc.neigh.map Prod.fst).filter m.qualifies).foldl (fun b p =>
    match b with
    | none => some p
    | some q => if listLt (prefKey (m.neigh p) p) (prefKey (m.neigh q) q) then some p else b) none

/-- The mean of the last 1,000 corrections (R384). -/
def Mod.meanRate (m : Mod) : Int := if m.time.rates.isEmpty then m.time.fabRate else meanOf m.time.rates

/-- Enter HOLDOVER with a rate. -/
def Mod.holdover (m : Mod) (rate : Int) : Mod :=
  { m with time := { m.time with fstate := 3, fabRate := clampRate rate, lockRun := 0, offRun := 0, stepNeeded := false } }

/-- Take fabric time from a port, or from none. -/
def Mod.setUpstream (m : Mod) (p : Option Nat) : Mod :=
  let t := m.time
  match p with
  | some q =>
    let n := m.neigh q
    { m with time := { t with
        upstream := some q, hops := field n.last 26 1 + 1, rootPrio := field n.last 27 1, rootSerial := slice n.last 32 16
        fstate := if t.fstate = 0 ∨ t.fstate = 3 then 1 else t.fstate, lockRun := 0, offRun := 0 } }
  | none =>
    let m := { m with time := { t with upstream := none } }
    if t.fstate = 1 ∨ t.fstate = 2 then m.holdover m.meanRate else m

/-- The change of upstream that is due: to the preferred port where the present one no longer qualifies, or where the preferred
one has been so for 100,000 ticks. -/
def Mod.upstreamDue (m : Mod) : Option (Option Nat) :=
  let b := m.bestUpstream
  match m.time.upstream with
  | none => b.map some
  | some u =>
    if !m.qualifies u then some b
    else match b with
      | some q => if q ≠ u ∧ 100000 ≤ (m.neigh q).preferRun then some (some q) else none
      | none => none

/-- UPSTREAM_CHANGE; `port` 0x3FF stands for no upstream. -/
def execUpstreamChange (port : Nat) (s : State) : Host.Outcome State Fault Refusal :=
  happens (fun m => m.running && !m.isRoot && m.upstreamDue == some (if port = 0x3FF then none else some port))
    (fun m => m.setUpstream (if port = 0x3FF then none else some port)) s

/-- FABRIC_TIME_LOCK (R384): 64 frames in a row within 100 ns. -/
def execFabricTimeLock (s : State) : Host.Outcome State Fault Refusal :=
  happens (fun m => m.running && !m.isRoot && m.time.fstate == 1 && decide (64 ≤ m.time.lockRun))
    (fun m => { m with time := { m.time with fstate := 2, everLocked := true, stepNeeded := false, offRun := 0 } }) s

/-- FABRIC_TIME_UNLOCK (R384): 8 frames in a row beyond 1 µs. -/
def execFabricTimeUnlock (s : State) : Host.Outcome State Fault Refusal :=
  happens (fun m => m.running && !m.isRoot && m.time.fstate == 2 && decide (8 ≤ m.time.offRun))
    (fun m => { m with time := { m.time with
      fstate := 1, lockRun := 0, stepNeeded := decide (nsUnits 10000000 < (m.time.offset.natAbs : Int)) } }) s

/-! ### Frames sent (R361, R365, R366, R383) -/

/-- Tick time at the reference point of the frame of the next tick: cycle 700, half a bit earlier in odd ticks (R361). -/
def Mod.txTime (m : Mod) : Nat :=
  (m.tickTime + tickUnits + 7000 * 65536 + (if m.tick.count % 2 = 1 then 0 else two64 - 209715)) % two64

/-- HOPS as frames carry it: 255 without fabric time (R383). -/
def Mod.txHops (m : Mod) : Nat := if m.time.fstate = 0 then 255 else if m.isRoot then 0 else m.time.hops

/-- ORIGIN_TIME and CORRECTION of a frame. -/
def Mod.originTime (m : Mod) : Instant × Int :=
  let own := (instant (m.fabricAt m.txTime), (0 : Int))
  match m.time.upstream with
  | none => own
  | some u =>
    if m.isRoot ∨ m.time.fstate = 3 then own
    else
      let n := m.neigh u
      let stay := diff64 m.txTime n.lastRx
      (timeAt n.last 48,
        fieldS n.last 60 8 + ((n.linkDelay.getD 0 : Nat) : Int) + stay * (ppb9 + m.time.fabRate) / ppb9)

/-- The payload of the next tick's frame on a port (08 Table 2), which carries no body as yet. -/
def Mod.frameFor (m : Mod) (p : Nat) : List Byte :=
  let t := m.time
  let n := m.neigh p
  let valid := t.fstate == 2 || t.fstate == 3
  let fl := b2n valid + 2 * b2n m.isRoot + 4 * b2n (t.fstate == 3) + 8 * b2n (n.everValid && decide (n.sinceValid < 16))
  let o := m.originTime
  let head := [1, 2] ++ le 2 fl ++ le 4 m.osc.fabricId.toNat ++ serial ++ le 2 p ++ le 1 m.txHops ++ le 1 t.rootPrio ++
    le 4 m.sec.primary.version.toNat ++ slice t.rootSerial 0 16
  let body0 := head ++ timeBytes o.1 ++ le 8 (wrapInt 8 o.2) ++ le 8 m.txTime ++ le 8 n.pdEchoRx ++
    le 4 (wrapInt 4 (if n.everValid then diff64 m.txTime n.lastRx else 0)) ++ le 1 m.byte ++ [0, 0, 0] ++
    List.replicate 32 0
  body0 ++ le 4 (crc32c body0).toNat

/-- A frame with a scheduled body: BODY_VALID, BODY and FCHK (R392). -/
def withBody (f body : List Byte) : List Byte :=
  let f0 := slice f 0 2 ++ le 2 (field f 2 2 ||| 16) ++ slice f 4 88 ++ slice body 0 32
  f0 ++ le 4 (crc32c f0).toNat

/-- An OSC laser feeds the modulators of a port's group: its own, or a spare in its place (R331, R336). -/
def Mod.oscLit (m : Mod) (p : Nat) : Bool :=
  m.osc.lasers.any fun x => decide (x.1 < 20) && (x.2.role == 0 || x.2.role == 2) &&
    ((decide (x.1 < 16) && x.1 == p / 32) || (decide (16 ≤ x.1) && x.2.partner == p / 32))

/-- The Commit step assembles the frames of the next tick, for every port whose modulator emits and whose group has a laser (R366); the
bank controller has them over a laser link. While function 5 is reinitialised the standby's are sent, and none where no leaf is in
STANDBY. -/
def Mod.sendFrames (m : Mod) : Mod :=
  let ports := if !m.dieLink 2 || (m.reinitOn 5 && m.standby.isNone) then []
    else (m.osc.shutters.filter fun s => s.2.emitting && m.oscLit s.1).map Prod.fst
  { m with osc := { m.osc with frames := ports.map fun p => (p, m.frameFor p) } }

/-! ### Frames received (R363, R364) -/

/-- Alignment: the receiver after this frame, and whether it decodes it. -/
def Neigh.align (n : Neigh) (f : OscFrame) : Neigh × Bool :=
  if n.aligned then
    let b := if f.syncOk then 0 else n.badSync + 1
    if 9 ≤ b then ({ n with aligned := false, alignRun := 0, badSync := 0, goodRun := 0 }, false)
    else ({ n with badSync := b }, true)
  else if f.syncOk ∧ (f.spacing = 1562 ∨ f.spacing = 1563) then
    ({ n with alignRun := n.alignRun + 1, aligned := decide (4 ≤ n.alignRun + 1), badSync := 0 }, false)
  else ({ n with alignRun := 0 }, false)

/-- The frame decodes and passes FCHK (R363). -/
def OscFrame_ok (f : OscFrame) : Bool :=
  decide (f.errors ≤ 32) && BitVec.ofNat 32 (field f.payload 124 4) == crc32c (f.payload.take 124)

/-- SERIAL and PORT of the neighbour. -/
def identity (l : List Byte) : List Byte × Nat := (slice l 8 16, field l 24 2 % 1024)

/-- One-way delay from a frame (R382): half the round trip. -/
def delayOf (l : List Byte) (pdRx : Nat) : Nat :=
  ((diff64 pdRx (field l 76 8) - (field l 84 4 : Int)) / 2).toNat

/-- What a valid frame makes of a port's record, before states and flags. -/
def Neigh.take (n : Neigh) (f : OscFrame) : Neigh :=
  let v1 := field f.payload 0 1 = 1
  let l := if v1 then f.payload else f.payload.take 32
  let echo := v1 && (field l 2 2).testBit 3 && n.nstate == .up
  { n with
    sinceValid := 0, goodRun := n.goodRun + 1, everValid := true, last := l, lastRx := f.pdRx
    pdEchoRx := if v1 then field l 68 8 else n.pdEchoRx
    sameRun := if identity l = identity n.last then n.sameRun else 0
    versionRun := if v1 then 0 else n.versionRun + 1
    peerClear := if (field l 2 2).testBit 3 then 0 else n.peerClear + 1
    delays := if echo then (delayOf l f.pdRx :: n.delays).take 16 else n.delays
    fecCor := if 0 < f.errors then sat 0xFFFFFFFF (n.fecCor + 1) else n.fecCor
    lastBody := if v1 && (field l 2 2).testBit 4 then slice l 92 32 else n.lastBody }

/-- An UP neighbour differs from the recorded pair: CHANGED, and the recorded pair is kept as PREV (R369). -/
def Mod.checkChanged (m : Mod) (p : Nat) : Mod :=
  let n := m.neigh p
  match n.recorded with
  | some r =>
    if n.nstate = .up ∧ !n.changed ∧ identity n.last ≠ r then
      (m.setNeigh p fun n => { n with changed := true, prev := some r }).event3 p 4 (slice n.last 8 18)
    else m
  | none => m

/-- The flags of R368 after a valid frame. -/
def Mod.neighFlags (m : Mod) (p : Nat) : Mod :=
  let n := m.neigh p
  let stray := !m.isTrunk p
  let m := m.setNeigh p fun n => { n with unplanned := stray }
  let m := if stray && !n.unplanned then m.event3 p 6 [] else m
  let loop := decide (slice n.last 8 16 = serial)
  let m := if loop && !n.loopback then (m.setNeigh p fun n => { n with loopback := true }).event3 p 10 []
    else m.setNeigh p fun n => { n with loopback := loop }
  let ow := n.nstate == .up && decide (16 ≤ n.peerClear)
  let m := if ow && !n.oneWay then (m.setNeigh p fun n => { n with oneWay := true }).event3 p 11 []
    else m.setNeigh p fun n => { n with oneWay := ow }
  m.checkChanged p

/-- The neighbour state after a valid frame; entering FOREIGN or INCOMPATIBLE is reported. -/
def Mod.neighState (m : Mod) (p : Nat) : Mod :=
  let old := (m.neigh p).nstate
  let new := m.nstateOf p
  let m := m.setNeigh p fun n => { n with
    nstate := new, changed := n.changed && new == .up, goodRun := if new == .foreign || new == .incompatible then 0 else n.goodRun }
  if old ≠ new ∧ (new = .foreign ∨ new = .incompatible) then m.event3 p 7 []
  else if old ≠ new then m.event3 p 4 (slice (m.neigh p).last 8 18) else m

/-- Fabric time from a frame of the upstream (R383). -/
def Mod.takeTime (m : Mod) (f : OscFrame) : Mod :=
  if m.isRoot ∨ m.time.upstream ≠ some f.port ∨ field f.payload 0 1 ≠ 1 then m
  else
    let n := m.neigh f.port
    let root := timeAt f.payload 48 + fieldS f.payload 60 8 + ((n.linkDelay.getD 0 : Nat) : Int)
    let m := { m with time := { m.time with
      hops := field f.payload 26 1 + 1, rootPrio := field f.payload 27 1, rootSerial := slice f.payload 32 16 } }
    if m.qualifies f.port then m.servo (root - instant (m.fabricAt f.pdRx)) else m

/-- OSC_FRAME_RX (R363 – R365). -/
def oscRx (f : OscFrame) (m : Mod) : Mod :=
  let a := (m.neigh f.port).align f
  let m := m.setNeigh f.port fun _ => a.1
  if !a.2 then m
  else if !OscFrame_ok f then
    let m := m.setNeigh f.port fun n => { n with goodRun := 0, fecFail := sat 0xFFFFFFFF (n.fecFail + 1) }
    { m with osc := { m.osc with failed := m.osc.failed + 1 } }
  else
    let m := m.setNeigh f.port fun n => n.take f
    let m := if 0 < f.errors then { m with osc := { m.osc with corrected := m.osc.corrected + 1 } } else m
    let m := (m.neighState f.port).neighFlags f.port
    let m := m.takeTime f
    if field f.payload 0 1 = 1 ∧ (field f.payload 2 2).testBit 4 then m.event3 f.port 8 (slice f.payload 92 32) else m

def execOscFrameRx (f : OscFrame) (s : State) : Host.Outcome State Fault Refusal :=
  happens (fun m => m.running && m.dieLink 2 && decide (f.port < 512)) (oscRx f) s

/-- NEIGHBOUR_UP (R367): 4 valid frames in a row, the same FABRIC_ID and a common version. -/
def execNeighbourUp (port : Nat) (s : State) : Host.Outcome State Fault Refusal :=
  happens
    (fun m => m.running && decide (port < 512) && m.nstateOf port == .darkOsc && (m.neigh port).nstate != .up &&
      decide ((m.neigh port).sinceValid < 16) && decide (4 ≤ (m.neigh port).goodRun))
    (fun m => (((m.setNeigh port fun n => { n with nstate := .up, sameRun := 0, delays := [] }).event3 port 4
      (slice (m.neigh port).last 8 18)).checkChanged port)) s

/-- NEIGHBOUR_LOST (R367): 16 ticks with no valid frame. -/
def execNeighbourLost (port : Nat) (s : State) : Host.Outcome State Fault Refusal :=
  happens
    (fun m => m.running && (m.neigh port).nstate == .up && decide (16 ≤ (m.neigh port).sinceValid))
    (fun m => (m.setNeigh port fun n =>
      { n with nstate := .darkOsc, changed := false, oneWay := false, unplanned := false, loopback := false, sameRun := 0
               goodRun := 0, delays := [] }).event3 port 5 (slice (m.neigh port).last 8 18)) s

/-- NEIGHBOUR_RECORD (R369): the pair of a neighbour UP for 100,000 ticks goes to the Cornerstone. -/
def execNeighbourRecord (port : Nat) (s : State) : Host.Outcome State Fault Refusal :=
  happens
    (fun m => m.running && (let n := m.neigh port
      n.nstate == .up && decide (100000 ≤ n.sameRun) && n.recorded != some (identity n.last)))
    (fun m => m.setNeigh port fun n => { n with
      prev := if n.changed then n.prev else match n.recorded with
        | some r => some r
        | none => n.prev
      recorded := some (identity n.last) }) s

/-- One port at a tick boundary: the counts of R367 and R369, and a silent FOREIGN or INCOMPATIBLE neighbour goes dark. -/
def Mod.neighTick (m : Mod) (p : Nat) : Mod :=
  let n := m.neigh p
  let since := min 16 (n.sinceValid + 1)
  let m := m.setNeigh p fun n => { n with
    sinceValid := since, goodRun := if 1 < since then 0 else n.goodRun
    sameRun := if n.nstate = .up then n.sameRun + 1 else 0 }
  if 16 ≤ since ∧ (n.nstate = .foreign ∨ n.nstate = .incompatible ∨ n.unplanned ∧ n.nstate ≠ .up) then
    let m := m.setNeigh p fun n => { n with
      nstate := if n.nstate = .none then .none else .darkOsc, unplanned := false, loopback := false }
    if n.nstate = .foreign ∨ n.nstate = .incompatible then m.event3 p 4 (slice n.last 8 18) else m
  else m

/-- Every port at a boundary, and how long another port has been preferred (R381). -/
def Mod.neighTicks (m : Mod) : Mod :=
  let m := (m.osc.neigh.map Prod.fst).foldl (fun m p => m.neighTick p) m
  let b := m.bestUpstream
  { m with osc := { m.osc with neigh := m.osc.neigh.map fun x =>
      (x.1, { x.2 with preferRun := if b = some x.1 ∧ m.time.upstream ≠ some x.1 then x.2.preferRun + 1 else 0 }) } }

/-! ### Port commands (R373 – R375) -/

def runPortClassSet (r : Req) (m : Mod) : Mod :=
  let first := field r.payload 0 2
  let count := field r.payload 2 2
  let cls := field r.payload 4 1
  if !sized r.payload 5 then malformed r m
  else if 512 ≤ first then refuse r ePARAM (badField 0) m
  else if !portRange first count then refuse r ePARAM (badField 2) m
  else if 4 < cls then refuse r ePARAM (badField 4) m
  else later r (.portClass first count cls) m

def execPortClassSet (p : Packet) (s : State) : Host.Outcome State Fault Refusal := commandM 0x30 p runPortClassSet s

/-- A power held in 0.01 dBm × 2^16 as a 16-bit field, clamped to −40 – +10 dBm; 0x8000 where it has not been measured. -/
def powerField (v : Option Int) : List Byte :=
  match v with
  | some x => le 2 (wrapInt 2 (clampI (-4000) 1000 (roundNE ((x : Rat) / 65536))))
  | none => [0x00, 0x80]

/-- Filtered input-tap power of a port; none before its first reading. -/
def Mod.inputTap (m : Mod) (p : Nat) : Option Int :=
  let l := m.loop (0x2000 + p)
  if l.evaluated then some l.inFilt else none

def Mod.outputTap (m : Mod) (p : Nat) : Option Int :=
  let l := m.loop (0x2000 + p)
  if l.evaluated then some l.outFilt else none

/-- NEIGHBOUR_ALERT (R375). -/
def Neigh.alert (n : Neigh) : Bool :=
  n.changed || n.unplanned || n.loopback || n.nstate == .foreign || n.nstate == .incompatible

/-- One entry of PORT_QUERY. -/
def portEntry (v : Mod) (p : Nat) : List Byte :=
  let s := v.shutter p
  let n := v.neigh p
  let trunk := v.isTrunk p
  let fl := b2n s.los + 2 * b2n s.isOpen + 4 * b2n (decide (8 ≤ (v.loop (0x2000 + p)).rangeRun)) + 8 * b2n (n.nstate == .up) +
    16 * b2n n.alert + 32 * b2n s.force + 64 * b2n s.oscLow + 128 * b2n trunk
  le 2 p ++ le 1 (v.portClass p) ++ le 1 fl ++ powerField (if trunk then s.oscPower else v.inputTap p) ++
    powerField (v.outputTap p) ++ List.replicate 8 0

def runPortQuery (v : Mod) (r : Req) (m : Mod) : Mod :=
  let first := field r.payload 0 2
  let count := field r.payload 2 2
  if !sized r.payload 4 then malformed r m
  else if 512 ≤ first then refuse r ePARAM (badField 0) m
  else if !portRange first count then refuse r ePARAM (badField 2) m
  else answer r stOK ((List.range count).flatMap fun k => portEntry v (first + k)) m

def execPortQuery (p : Packet) (s : State) : Host.Outcome State Fault Refusal := query 0x31 p runPortQuery s

/-- A recorded pair's bytes. -/
def pairBytes (p : Option (List Byte × Nat)) : List Byte :=
  match p with
  | some q => slice q.1 0 16 ++ le 2 q.2
  | none => List.replicate 18 0

/-- The neighbour record (08 Table 5). -/
def neighRecord (v : Mod) (p : Nat) : List Byte :=
  let n := v.neigh p
  let l := n.last
  let fl := b2n n.changed + 2 * b2n n.unplanned + 4 * b2n n.oneWay + 8 * b2n n.loopback + 16 * b2n (v.time.upstream == some p)
  le 2 p ++ le 1 n.nstate.code ++ le 1 fl ++ powerField (v.shutter p).oscPower ++ powerField (v.inputTap p) ++ slice l 8 16 ++
    le 2 (field l 24 2 % 1024) ++ [1] ++ slice l 1 1 ++ slice l 4 4 ++ slice l 28 4 ++ slice l 88 1 ++ slice l 26 1 ++
    le 4 n.delayField ++ [0, 0] ++ pairBytes n.prev ++ [0, 0] ++ le 4 n.fecCor ++ le 4 n.fecFail ++ slice n.lastBody 0 32

def runNeighbourQuery (v : Mod) (r : Req) (m : Mod) : Mod :=
  let p := field r.payload 0 2
  if !sized r.payload 2 then malformed r m
  else if 512 ≤ p then refuse r ePARAM (badField 0) m
  else answer r stOK (neighRecord v p) m

def execNeighbourQuery (p : Packet) (s : State) : Host.Outcome State Fault Refusal := query 0x33 p runNeighbourQuery s

/-! ### Blink windows (R376, R377) -/

/-- A window is open, or opens at the coming boundary. -/
def Mod.blinking (m : Mod) : Bool :=
  m.osc.blink.isSome || m.deferred.any fun d => match d.eff with
    | .blinkOpen _ _ _ => true
    | _ => false

def runBlinkOpen (r : Req) (m : Mod) : Mod :=
  let scope := maskAt r.payload 0
  let ticks := field r.payload 64 4
  if !sized r.payload 68 then malformed r m
  else if scope = 0 ∨ (List.range 512).any (fun p => scope.getLsbD p && m.isTrunk p) then refuse r ePARAM (badField 0) m
  else if ticks < 100 ∨ 1000000 < ticks then refuse r ePARAM (badField 64) m
  else if m.blinking then refuse r eBUSY plain m
  else
    let m := pend r m
    { m with deferred := m.deferred ++ [{ eff := .blinkOpen r.w scope ticks, reply := none, pkt := none }] }

def execBlinkOpen (p : Packet) (s : State) : Host.Outcome State Fault Refusal := commandM 0x32 p runBlinkOpen s

/-- The window opens at its boundary: baselines are taken. -/
def Mod.openBlink (m : Mod) (w : Waiter) (scope : BitVec 512) (ticks : Nat) : Mod :=
  let base := ((List.range 512).filter scope.getLsbD).map fun p => (p, (m.inputTap p).getD (-4000 * 65536))
  { m with osc := { m.osc with
      blink := some { waiter := w, scope := scope, start := m.tick.count, ticks := ticks, base := base, runs := [], dark := 0, first := none } } }

/-- A reading of a scoped port in the window. -/
def Blink.reading (b : Blink) (tick p : Nat) (v : Int) : Blink :=
  match b.base.find? fun x => x.1 == p with
  | none => b
  | some x =>
    let low := decide ((v + 1000) * 65536 ≤ x.2) || decide (v < -3000)
    let n := if low then aget 0 b.runs p + 1 else 0
    let b := { b with runs := aput b.runs p n }
    if n = 4 ∧ -2500 * 65536 ≤ x.2 ∧ !b.dark.getLsbD p then
      let f := tick - 3
      { b with dark := b.dark ||| BitVec.ofNat 512 (2 ^ p), first := some (match b.first with
        | some g => min f g
        | none => f) }
    else b

/-- The window closes with a status. -/
def Mod.closeBlink (m : Mod) (status : Nat) (d : List Byte) : Mod :=
  match m.osc.blink with
  | none => m
  | some b =>
    ({ m with osc := { m.osc with blink := none } }).final b.waiter status (d ++ le 64 b.dark.toNat ++ le 8 (b.first.getD 0))

/-- BLINK_CLOSE: in the Commit step of tick b + TICKS. -/
def execBlinkClose (s : State) : Host.Outcome State Fault Refusal :=
  happens
    (fun m => m.afterCommit && m.running && (match m.osc.blink with
      | some b => decide (b.start + b.ticks ≤ m.tick.count)
      | none => false))
    (fun m => m.closeBlink stOK []) s

end Sys2Proof.Machine
end

