-- ==== Sys2Proof/Machine/Time.lean ====
section
/-! DEFINITION. Time bases (R378 – R399): the time commands, roots and their reference, scheduled launches, PPS_IN and PPS_OUT,
and what the bases do at a tick boundary. -/

namespace Sys2Proof.Machine

/-! ### Status (R399) -/

/-- TIME_STATUS, also TFLAGS of TIME_QUERY. The sticky bits lie at their places in `rebased`. -/
def Mod.timeStatus (m : Mod) : Word :=
  let t := m.time
  at_ 22 (t.upstream.getD 0x3FF) ||| at_ 16 (if t.fstate = 0 then 0x3F else if m.isRoot then 0 else t.hops % 64) |||
    (t.rebased.bits &&& 0xC00) ||| at_ 9 (b2n t.hostSet) ||| at_ 8 (b2n t.ppsValid) ||| at_ 6 (b2n t.stepNeeded) |||
    at_ 5 (b2n t.stepped) ||| at_ 4 (b2n t.everLocked) ||| at_ 3 (b2n (m.isRoot && t.fstate != 0)) ||| at_ 0 t.fstate

/-- Fabric time as replies carry it; 0 while there is none. -/
def Mod.fabricField (m : Mod) : Instant := if m.time.fstate = 0 then 0 else m.fabricNow

/-- The REFCLK cycle of the Commit step at which TIME_QUERY samples: the spec gives the phase and not the cycle (log 106). -/
def Mod.queryAt (m : Mod) : Nat := (m.tickTime + (700 + Config.openReading 0x64 m.tick.now % 200) * 655360) % two64

/-- The reply of TIME_QUERY: every value at one instant (R391). -/
def Mod.timeReply (m : Mod) : List Byte :=
  let fab : Instant := if m.time.fstate = 0 then 0 else instant (m.fabricAt m.queryAt)
  let host : Instant := if m.time.hostSet then instant (m.hostAt m.queryAt) else 0
  le 8 m.tick.count ++ timeBytes fab ++ timeBytes host ++ le 8 m.aux ++ le 4 m.timeStatus.toNat

/-- TIME_QUERY (R391): answered in the Commit step. -/
def runTimeQuery (r : Req) (m : Mod) : Mod :=
  if r.payload ≠ [] then malformed r m
  else
    let m := m.journalReq r stOK
    { m with time := { m.time with queries := m.time.queries ++ [r.w] } }

/-- The Commit step answers the queries that wait. -/
def Mod.answerTime (m : Mod) : Mod :=
  m.time.queries.foldl (fun m w => m.done w stOK m.timeReply) { m with time := { m.time with queries := [] } }

def execTimeQuery (p : Packet) (s : State) : Host.Outcome State Fault Refusal := commandM 0x60 p runTimeQuery s

/-! ### HOST_TIME_SET, TIME_RATE, TIME_STEP (R385, R386, R389) -/

/-- A HOST_TIME_SET waits for its boundary. -/
def Mod.hostSetDue (m : Mod) : Bool :=
  m.deferred.any fun d => match d.eff with
    | .hostTimeSet _ => true
    | _ => false

def runHostTimeSet (r : Req) (m : Mod) : Mod :=
  if !sized r.payload 12 then malformed r m
  else if !timeNsOk r.payload 0 then refuse r ePARAM (badField 0) m
  else if (m.time.hostSet && !m.time.rebased.bits.getLsbD 11) || m.hostSetDue then refuse r eCONFLICT plain m
  else later r (.hostTimeSet (timeAt r.payload 0)) m

def execHostTimeSet (p : Packet) (s : State) : Host.Outcome State Fault Refusal := commandM 0x61 p runHostTimeSet s

def runTimeRate (r : Req) (m : Mod) : Mod :=
  let base := field r.payload 0 1
  let ppb := fieldS r.payload 4 4
  if !sized r.payload 8 then malformed r m
  else if 1 < base then refuse r ePARAM (badField 0) m
  else if !zeros r.payload 1 3 then refuse r ePARAM (badField 1) m
  else if ppb < -200000 ∨ 200000 < ppb then refuse r ePARAM (badField 4) m
  else if base = 0 ∧ (!m.isRoot ∨ m.ppsIn) then refuse r eCONFLICT plain m
  else later r (.timeRate base ppb) m

def execTimeRate (p : Packet) (s : State) : Host.Outcome State Fault Refusal := commandM 0x62 p runTimeRate s

def runTimeStep (r : Req) (m : Mod) : Mod :=
  let base := field r.payload 0 1
  let off := timeAtS r.payload 4
  if !sized r.payload 16 then malformed r m
  else if 1 < base then refuse r ePARAM (badField 0) m
  else if !zeros r.payload 1 3 then refuse r ePARAM (badField 1) m
  else if !timeNsOk r.payload 4 then refuse r ePARAM (badField 4) m
  else if base = 1 then
    if !m.time.hostSet then refuse r eCONFLICT plain m else later r (.timeStep 1 off) m
  else if m.isRoot then
    if m.time.fstate = 0 then refuse r eCONFLICT plain m else later r (.timeStep 0 off) m
  else if off ≠ 0 then refuse r ePARAM (badField 4) m
  else if m.time.upstream = none then refuse r eCONFLICT plain m
  else later r (.timeStep 0 0) m

def execTimeStep (p : Packet) (s : State) : Host.Outcome State Fault Refusal := commandM 0x63 p runTimeStep s

/-- HOST_TIME_SET at its boundary. -/
def Mod.applyHostTime (m : Mod) (t : Instant) : Mod :=
  { m with time := { m.time with
      host := t * ppb9, hostSet := true, rebased := { m.time.rebased with bits := m.time.rebased.bits &&& ~~~(wbit 11) } } }

/-- TIME_RATE at its boundary. -/
def Mod.applyTimeRate (m : Mod) (base : Nat) (ppb : Int) : Mod :=
  if base = 1 then { m with time := { m.time with hostRate := ppb } }
  else { m with time := { m.time with rootRate := ppb, fabRate := if m.isRoot ∧ !m.ppsIn then ppb else m.time.fabRate } }

/-- Waiting instants that a step has carried fabric time past launch LATE (R109). -/
def Mod.lateBy (m : Mod) (old : Instant) : Mod :=
  let new := m.fabricNow
  let passed (t : Instant) : Bool := decide (old < t) && decide (t ≤ new)
  { m with
    engine := { m.engine with plans := m.engine.plans.map fun p =>
      if p.state = .queued ∧ p.timed.any passed then { p with lateAcc := true } else p }
    time := { m.time with sched := m.time.sched.map fun l => if passed l.instant then { l with late := true } else l } }

/-- TIME_STEP at its boundary (R385): a root by the offset, a follower to its upstream. -/
def Mod.applyTimeStep (m : Mod) (base : Nat) (t : Instant) : Mod :=
  if base = 1 then
    ({ m with time := { m.time with host := m.time.host + t * ppb9 } }).stepRecord 1 1 t
  else if m.time.fstate = 0 then m
  else
    let old := m.fabricNow
    let off := if m.isRoot then t else m.time.offset
    let m := m.stepFabric 1 off
    ({ m with time := { m.time with stepped := true } }).lateBy old

/-! ### Roots (R379, R380, R398) -/

/-- A root's first fabric time (R380). -/
def Mod.rootStep (m : Mod) (held : Int) (fstate : Nat) : Mod :=
  let off := instant held - instant m.time.fabric
  ({ m with time := { m.time with
      fabric := held, fstate := fstate, stepFree := false, everLocked := m.time.everLocked || fstate == 2
      stepNeeded := false, ppsGood := 0 } }).stepRecord 0 2 off

/-- What ROOT and PPS_IN_EN make of fabric time at a boundary. -/
def Mod.rootTick (m : Mod) : Mod :=
  let t := m.time
  if m.isRoot then
    let m := { m with time := { t with
      upstream := none, hops := 0, rootPrio := bits t.cfg.toNat 31 24, rootSerial := serial, rootActive := true } }
    if !m.ppsIn then
      let m := { m with time := { m.time with fabRate := m.time.rootRate } }
      if m.time.fstate = 0 then (if m.time.hostSet then m.rootStep m.time.host 2 else m)
      else { m with time := { m.time with fstate := 2, everLocked := true, stepNeeded := false } }
    else if m.time.fstate ≠ 0 ∧ !m.time.ppsValid then { m with time := { m.time with fstate := 3, ppsGood := 0 } }
    else if m.time.fstate = 3 ∧ m.time.ppsValid then { m with time := { m.time with fstate := 1 } }
    else m
  else if t.rootActive then
    { m with time := { t with rootActive := false, fstate := if t.fstate = 0 then 0 else 3, stepNeeded := false } }
  else m

/-- Fabric and host time advance by one tick, each at its rate. -/
def Mod.advanceTime (m : Mod) : Mod :=
  { m with time := { m.time with
      fabric := if m.time.fstate = 0 then m.time.fabric else m.time.fabric + tickUnits * (ppb9 + m.time.fabRate)
      host := if m.time.hostSet then m.time.host + tickUnits * (ppb9 + m.time.hostRate) else m.time.host } }

/-! ### PPS (R394, R395) -/

/-- An edge 1 s ± 200 ppm after the one before. -/
def edgeSpaced (last now : Nat) : Bool :=
  let d := diff64 now last - second
  decide (d.natAbs * 5000 ≤ 65536000000000)

/-- The whole second nearest to an instant. -/
def nearestSecond (t : Instant) : Instant := (t + second / 2) / second * second

/-- A root follows an edge (R380). -/
def Mod.ppsServo (m : Mod) (edge : Nat) : Mod :=
  if m.time.fstate = 0 then
    if !m.time.hostSet then m
    else
      let next := nearestSecond (instant (m.hostAt edge) + second)
      m.rootStep ((next - second) * ppb9 - diff64 edge m.tickTime * (ppb9 + m.time.fabRate)) 1
  else
    let at1 := instant (m.fabricAt edge)
    let off := nearestSecond at1 - at1
    let good := if (off.natAbs : Int) ≤ nsUnits 50 then m.time.ppsGood + 1 else 0
    let far := decide (nsUnits 10000000 < (off.natAbs : Int))
    let rate := if far then m.time.fabRate else clampRate (Config.servoRate m.time.fstate off m.time.fabRate)
    let st := if 4 ≤ good then 2 else if m.time.fstate = 3 then 1 else m.time.fstate
    { m with time := { m.time with
        offset := off, ppsGood := good, fabRate := rate, fstate := st, stepNeeded := far
        everLocked := m.time.everLocked || st == 2 } }

/-- PPS_IN_EDGE: `time` is the tick time of the edge, 2^−16 ns. -/
def ppsEdge (time : Nat) (m : Mod) : Mod :=
  let e := match m.time.ppsEdges with
    | l :: t => if edgeSpaced l time then (time :: l :: t).take 4 else [time]
    | [] => [time]
  let m := { m with time := { m.time with ppsEdges := e, ppsValid := decide (4 ≤ e.length) } }
  if m.isRoot ∧ m.ppsIn ∧ m.time.ppsValid then m.ppsServo time else m

def execPpsInEdge (time : Nat) (s : State) : Host.Outcome State Fault Refusal :=
  happens (fun m => m.tick.running && decide (time < two64)) (ppsEdge time) s

/-- 1.001 s in 2^−16 ns. -/
def ppsGap : Int := 65601536000000

/-- PPS_IN_LOSS (R394). -/
def execPpsInLoss (s : State) : Host.Outcome State Fault Refusal :=
  happens
    (fun m => m.tick.running && m.time.ppsValid && (match m.time.ppsEdges with
      | l :: _ => decide (ppsGap ≤ diff64 m.tickTime l)
      | [] => true))
    (fun m =>
      let m := { m with time := { m.time with ppsValid := false, ppsEdges := [], ppsGood := 0 } }
      if m.isRoot ∧ m.ppsIn ∧ m.time.fstate ≠ 0 then { m with time := { m.time with fstate := 3 } } else m) s

/-- The base that PPS_OUT_SRC selects, where it is valid (R395). -/
def Mod.ppsBase (m : Mod) : Option Instant :=
  if m.time.cfg.getLsbD 3 then m.hostNow
  else if m.time.fstate = 2 ∨ m.time.fstate = 3 then some m.fabricNow else none

/-- The whole second that begins within the coming tick; none where none does. -/
def Mod.ppsDue (m : Mod) : Option Int :=
  m.ppsBase.bind fun t =>
    let s := (t + tickUnits) / second
    if s ≠ t / second ∨ t % second = 0 then (if s ≠ m.time.ppsLast then some s else none) else none

/-- PPS_OUT_PULSE (R395). -/
def execPpsOutPulse (s : State) : Host.Outcome State Fault Refusal :=
  happens (fun m => m.tick.running && m.time.cfg.getLsbD 2 && m.ppsDue.isSome)
    (fun m => { m with time := { m.time with ppsOut := some m.tick.now, ppsLast := m.ppsDue.getD m.time.ppsLast } }) s

/-- PPS_OUT_END: after 10 ticks. -/
def execPpsOutEnd (s : State) : Host.Outcome State Fault Refusal :=
  happens
    (fun m => match m.time.ppsOut with
      | some t => decide (t + 10 ≤ m.tick.now)
      | none => false)
    (fun m => { m with time := { m.time with ppsOut := none } }) s

/-! ### Scheduled launches (R392, R393) -/

def runLaunchSchedule (r : Req) (m : Mod) : Mod :=
  let kind := field r.payload 0 1
  let port := field r.payload 2 2
  let t := timeAt r.payload 4
  if !sized r.payload 48 then malformed r m
  else if 1 < kind then refuse r ePARAM (badField 0) m
  else if !zeros r.payload 1 1 then refuse r ePARAM (badField 1) m
  else if kind = 0 ∧ (512 ≤ port ∨ !m.isTrunk port) then refuse r ePARAM (badField 2) m
  else if !timeNsOk r.payload 4 ∨ m.badInstant t then refuse r ePARAM (badField 4) m
  else if 64 ≤ m.time.sched.length then refuse r eCAPACITY plain m
  else
    let l : Sched :=
      { waiter := r.w, kind := kind, port := port, instant := t, accepted := m.tick.now, late := decide (t < m.fabricNow)
        body := slice r.payload 16 32, delayed := false }
    pend r { m with time := { m.time with sched := m.time.sched ++ [l] } }

def execLaunchSchedule (p : Packet) (s : State) : Host.Outcome State Fault Refusal := commandM 0x64 p runLaunchSchedule s

/-- A waiting launch is due at this boundary. -/
def Mod.schedDue (m : Mod) (l : Sched) : Bool := decide (l.accepted < m.tick.now) && decide (l.instant ≤ m.fabricNow)

/-- A KIND 0 launch can be sent: the port is TRUNK and its shutter open. -/
def Mod.canSendBody (m : Mod) (p : Nat) : Bool := m.isTrunk p && (m.shutter p).isOpen

/-- This tick's frame on the port already carries a body. -/
def Mod.frameTaken (m : Mod) (p : Nat) : Bool := m.osc.bodies.any fun b => b.1 == p

/-- The launch that goes next: due, not displaced, earliest instant first, then the one accepted first. -/
def Mod.nextLaunch (m : Mod) : Option Sched :=
  (m.time.sched.filter fun l => m.schedDue l && (l.kind == 1 || !m.canSendBody l.port || !m.frameTaken l.port)).foldl
    (fun b l => match b with
      | none => some l
      | some c => if l.instant < c.instant then some l else b) none

/-- One launch. -/
def launchBody (l : Sched) (m : Mod) : Mod :=
  let sent := l.kind == 1 || m.canSendBody l.port
  let rest := m.time.sched.filter fun x => x != l
  let rest := if l.kind = 0 ∧ sent then
      rest.map fun x => if x.kind = 0 ∧ x.port = l.port ∧ m.schedDue x then { x with delayed := true } else x
    else rest
  let fl := b2n l.late + 2 * b2n (m.time.fstate == 3) + 4 * b2n (!sent) + 8 * b2n l.delayed
  let m := { m with time := { m.time with sched := rest } }
  let m : Mod := if l.kind = 1 then
      { m with time := { m.time with launched := m.time.launched ++
          [le 4 l.waiter.session.toNat ++ le 2 l.waiter.tag.toNat ++ le 2 0 ++ timeBytes l.instant ++ le 4 0 ++ l.body] } }
    else if sent then
      { m with osc := { m.osc with
          bodies := m.osc.bodies ++ [(l.port, l.body)]
          frames := m.osc.frames.map fun f => if f.1 = l.port then (f.1, withBody f.2 l.body) else f } }
    else m
  m.final l.waiter stOK (le 8 m.tick.count ++ le 4 fl)

/-- The events of KIND 1 launches leave in the Commit step of the launch tick (R392). -/
def Mod.sendLaunched (m : Mod) : Mod :=
  m.time.launched.foldl (fun m b => m.event 6 b) { m with time := { m.time with launched := [] } }

/-- SCHEDULED_LAUNCH (R392): at a tick boundary. -/
def execScheduledLaunch (s : State) : Host.Outcome State Fault Refusal :=
  atEdge (fun m => m.running && m.nextLaunch.isSome)
    (fun m => match m.nextLaunch with
      | some l => launchBody l m
      | none => m) s

/-- A warm reset ends every waiting launch (R393). -/
def Mod.endLaunches (m : Mod) : Mod :=
  m.time.sched.foldl (fun m l => m.final l.waiter eINTEGRITY (plain ++ le 8 0 ++ le 4 4))
    { m with time := { m.time with sched := [], queries := [], launched := [] } }

end Sys2Proof.Machine
end

