-- ==== Sys2Proof/Machine/Power.lean ====
section
/-! DEFINITION. Switchable power domains (R450 – R456): votes, timers, entries and wakes, the power commands (R464 – R466),
throttling, and FAULT_N (R457). -/

namespace Sys2Proof.Machine

/-! ### Domains -/

def isCourse (d : Nat) : Bool := decide (d < 16)
def isPair (d : Nat) : Bool := decide (0x10 ≤ d) && decide (d < 0x14)
def isLane (d : Nat) : Bool := d == 0x20 || d == 0x21

/-- The leaf whose second Zudin lane a code names. -/
def laneLeaf (d : Nat) : Side := if d = 0x20 then .a else .b

/-- The class of IDLE_TIMER_SET: 0 lane, 1 pair, 2 bank. -/
def timerClass (d : Nat) : Nat := if isLane d then 0 else if isPair d then 1 else 2

/-- The domain is fitted (R450). -/
def Variant.domain (v : Variant) (d : Nat) : Bool :=
  if isCourse d then v.courses.getLsbD d else if isBank d then v.windows else true

/-- The low state of an idle-timer domain (R452). -/
def lowState (d : Nat) : DState := if isPair d then .retention else .off

def DState.level : DState → Nat
  | .on => 2
  | .retention => 1
  | _ => 0

/-! ### Course votes (R451) -/

/-- VOTES of a course: thermal model, planner standing, planner solving, job, host ON, host RETENTION. -/
def Mod.courseVotes (m : Mod) (c : Nat) : List Bool :=
  let standing := m.enabled c && !m.jobCourses.contains c && !m.reservedCourse c
  let jobOn := m.mortar.jobs.any fun j => (j.2.state == .running || j.2.state == .pausing) && j.2.courses.contains c
  let vote := match m.domain c with
    | some d => d.vote
    | none => 0
  [ m.reservedCourse c && m.enabled c, standing && m.power.cfg % 4 != 2, standing && m.mortar.solving.isSome, jobOn
  , vote == 1, vote == 2 ]

/-- The level that a course's votes give it. -/
def Mod.courseGoal (m : Mod) (c : Nat) : DState :=
  let v := m.courseVotes c
  let on (k : Nat) : Bool := lget false v k
  if !m.enabled c then .off
  else if on 0 || (on 1 && m.power.cfg % 4 == 0) || on 2 || on 3 || on 4 then .on
  else if on 1 || on 5 then .retention else .off

/-! ### Holding conditions (R452) -/

/-- Frames that a link carried in a tick, in its busier direction. -/
def LinkSt.framesAt (l : LinkSt) (t : Nat) : Nat :=
  let n (k : Meter) : Nat := sumN ((k.samples.filter fun p => p.1 == t).map Prod.snd)
  max (n l.tx) (n l.rx)

/-- The rate of `f` link frames of 2,048 bits in one tick exceeds `g` Gbit/s. -/
def faster (g f : Nat) : Bool := decide (g * 10000 < f * 2048)

/-- A circuit uses a bank: it locks a window of it, or is a port circuit whose end lies on one of its ports. -/
def usesBank (d : Nat) (c : Circuit) : Bool := (c.windows ++ c.parked).any fun w => bankCode w == d

/-- A domain is held (05 of the power chapter's Table 5). -/
def Mod.held5 (m : Mod) (d : Nat) : Bool :=
  if isPair d then
    m.engine.run.isSome || (m.mortar.jobs.any fun j => j.2.state == .running) || m.mortar.solving.isSome
  else if isLane d then
    m.leaves.active == some (laneLeaf d) || faster 25 ((m.link (laneLeaf d)).framesAt m.tick.now)
  else if isBank d then
    (m.engine.members.any fun x => usesBank d x.circ) || (m.pipeline.any fun p => (planCircuits p).any (usesBank d)) ||
      ((bankWindows d).any fun w => (m.loop w).mode == .manual || (m.loop w).causes.getLsbD 0) || m.state == .safeHold
  else false

/-- A bank may begin its entry: every window PARKED (R454). -/
def Mod.entryReady (m : Mod) (d : Nat) : Bool := !isBank d || (bankWindows d).all fun w => m.wstate w == .parked

/-- Begin an entry: `deep` where it starts from RETENTION. -/
def Mod.beginEntry (m : Mod) (d : Nat) (goal : DState) : Mod :=
  m.setDomain d fun x => { x with deep := x.state == .retention, state := .entering, goal := goal }

/-! ### The boundary (R454) -/

/-- One course at a boundary: its votes decide. -/
def Mod.courseTick (m : Mod) (d : Domain) : Mod :=
  let goal := m.courseGoal d.code
  let wake (m : Mod) : Mod := m.setDomain d.code fun x => { x with state := .waking, goal := goal }
  match d.state with
  | .on => if goal = .on then m else if m.enabled d.code then m.beginEntry d.code goal
      else m.setDomain d.code fun x => { x with state := .off, goal := .off }
  | .retention => if goal = .on then wake m else if goal = .off then m.beginEntry d.code .off else m
  | .off => if goal = .off then m else wake m
  | _ => m.setDomain d.code fun x => { x with goal := goal }

/-- A wake event of a lane: its leaf is active, or more than 50 Gbit/s in 10 ticks in a row. -/
def Mod.laneWakes (m : Mod) (d : Nat) : Bool :=
  m.leaves.active == some (laneLeaf d) ||
    (decide (10 ≤ m.tick.now) && (List.range 10).all fun k => faster 50 ((m.link (laneLeaf d)).framesAt (m.tick.now - k)))

/-- Something reached the memory behind the channel pairs since the boundary `b`. -/
def Mod.memTouched (m b : Mod) : Bool :=
  m.recs.jSeq != b.recs.jSeq || m.engine.members != b.engine.members || m.keyhole.seq != b.keyhole.seq ||
    m.held != b.held || m.mortar.jobs.length != b.mortar.jobs.length

/-- One idle-timer domain at a boundary: its timer counts while it is not held, and a low state asked for begins. -/
def Mod.idleTick (m b : Mod) (d : Domain) : Mod :=
  let held := m.held5 d.code
  match d.state with
  | .on =>
    let timer := if isPair d.code && m.memTouched b then 0 else if held then d.timer else d.timer + 1
    let m := m.setDomain d.code fun x => { x with timer := timer }
    if d.goal = .on then m
    else if held then m.setDomain d.code fun x => { x with goal := .on }
    else if m.entryReady d.code then m.beginEntry d.code d.goal else m
  | .retention => if held || m.memTouched b then m.wake d.code else m
  | .off => if isLane d.code && m.laneWakes d.code then m.wake d.code else m
  | .entering =>
    if (isPair d.code && (held || m.memTouched b)) || (isLane d.code && m.laneWakes d.code) then
      m.setDomain d.code fun x => { x with goal := .on }
    else m
  | .waking => m

/-- Votes, timers and wake events at a tick boundary; `b` is the module at the boundary before. -/
def Mod.powerTick (m b : Mod) : Mod :=
  (m.power.domains.filter fun d => m.variant.domain d.code).foldl (fun m d =>
    if isCourse d.code then m.courseTick d else m.idleTick b d) m

/-! ### Entries and wakes (R452 – R454) -/

/-- TICKS of a domain's class; 0 disables the timer. -/
def Mod.idleTicks (m : Mod) (d : Nat) : Nat := lget 0 m.power.idle (timerClass d)

/-- IDLE_TIMER_EXPIRY (R452). -/
def execIdleTimerExpiry (domain : Nat) (s : State) : Host.Outcome State Fault Refusal :=
  happens
    (fun m => m.tick.running && !isCourse domain && m.variant.domain domain && !m.held5 domain &&
      decide (m.idleTicks domain ≠ 0) && m.entryReady domain && (match m.domain domain with
        | some d => d.state == .on && decide (m.idleTicks domain ≤ d.timer)
        | none => false))
    (fun m => m.beginEntry domain (lowState domain)) s

/-- What a completed entry does to the unit. -/
def Mod.lower (m : Mod) (d : Nat) (st : DState) : Mod :=
  if isCourse d then (if st = .off then m.cleanCourses [d] else m)
  else if isLane d then m.setLink (laneLeaf d) fun l => { l with oneLane := true }
  else if isBank d then
    let m := { m with trowel := { m.trowel with heater := m.trowel.heater.filter fun h => !(decide (h.1 < 7616) && decide (bankCode h.1 = d)) } }
    (bankWindows d).foldl (fun m w => m.setLoop w fun l => { l with wstate := .cold }) m
  else m

/-- The state an entry leads to: a course that is ON goes to RETENTION, and from there to OFF (10 Table 7). -/
def Domain.entryTo (x : Domain) : DState :=
  if isCourse x.code then (if x.deep then .off else .retention) else lowState x.code

/-- The end of an entry: abandoned before its abort point where a wake event came, else completed; a wake event that came after
it waits, and the domain then wakes. -/
def endEntry (d : Nat) (abandon : Bool) (m : Mod) : Mod :=
  match m.domain d with
  | none => m
  | some x =>
    if abandon then
      let m := m.setDomain d fun x => { x with state := .on, goal := .on, timer := 0 }
      { m with power := { m.power with aborts := m.power.aborts + 1 } }
    else
      let st := x.entryTo
      let m := (m.lower d st).setDomain d fun x => { x with state := st }
      let m := { m with power := { m.power with entries := m.power.entries + 1 } }
      if x.goal = .on then m.wake d else m.setDomain d fun x => { x with goal := x.state }

/-- DOMAIN_ENTRY (R454); `wake` says that a wake event came before an abort point. -/
def execDomainEntry (domain : Nat) (wake : Bool) (s : State) : Host.Outcome State Fault Refusal :=
  happens
    (fun m => match m.domain domain with
      | some d => d.state == .entering && (!wake || d.goal == .on)
      | none => false)
    (endEntry domain wake) s

/-- DOMAIN_WAKE (R453). -/
def execDomainWake (domain : Nat) (s : State) : Host.Outcome State Fault Refusal :=
  happens
    (fun m => match m.domain domain with
      | some d => d.state == .waking
      | none => false)
    (fun m =>
      let m := m.setDomain domain fun d =>
        { d with state := if d.goal = .retention then .retention else .on, goal := if d.goal = .retention then .retention else .on, timer := 0 }
      let m := if isLane domain then m.setLink (laneLeaf domain) fun l => { l with oneLane := false } else m
      { m with power := { m.power with wakes := m.power.wakes + 1 } }) s

/-! ### Throttling (R456) -/

/-- THROTTLE: one operating point down above 100 °C every 1,000 ticks, or up after 10,000 ticks below 95 °C. -/
def execThrottle (down : Bool) (s : State) : Host.Outcome State Fault Refusal :=
  happens
    (fun m => m.tick.running && decide (m.power.stepTick + 1000 ≤ m.tick.now) &&
      (if down then decide (100 < m.mortar.temp) && m.mortar.courses.any (fun c => decide (c.opp < 2))
        else decide (10000 ≤ m.mortar.coolRun) && m.mortar.courses.any fun c => decide (0 < c.opp)))
    (fun m =>
      let step (m : Mod) (c : Nat) : Mod :=
        m.setCourse c fun k => { k with opp := if down then min 2 (k.opp + 1) else k.opp - 1 }
      let m := ((List.range 16).filter fun c => !m.reservedCourse c && m.variant.courses.getLsbD c).foldl step m
      { m with power := { m.power with stepTick := m.tick.now } }) s

/-! ### FAULT_N (R457) -/

/-- FAULT_N_ASSERT: no leaf has held the lease for 150,000 ticks since a lease ended. -/
def execFaultNAssert (s : State) : Host.Outcome State Fault Refusal :=
  happens
    (fun m => m.tick.running && m.leaves.active.isNone && !m.sup.faultN && (match m.leaves.leaseEnded with
      | some t => decide (t + 150000 ≤ m.tick.now)
      | none => false))
    (fun m => { m with sup := { m.sup with faultN := true } }) s

/-! ### Power commands (R464 – R466) -/

/-- REQUEST values a domain's class takes. -/
def requestOk (d q : Nat) : Bool :=
  if isCourse d then decide (q ≤ 2) else if isPair d then q == 1 || q == 2 else q == 1 || q == 3

def runPowerRequest (r : Req) (m : Mod) : Mod :=
  let d := field r.payload 0 2
  let q := field r.payload 2 1
  if !sized r.payload 3 then malformed r m
  else if !domainCodes.contains d then refuse r ePARAM (badField 0) m
  else if !requestOk d q then refuse r ePARAM (badField 2) m
  else if !m.variant.domain d then refuse r eABSENT (badField 0) m
  else if isCourse d && (m.course d).failed then refuse r eCAPACITY plain m
  else if isBank d && m.state == .safeHold then refuse r eSAFETY plain m
  else if !isCourse d && decide (2 ≤ q) && m.held5 d then refuse r eCONFLICT plain m
  else later r (.powerRequest d q) m

def execPowerRequest (p : Packet) (s : State) : Host.Outcome State Fault Refusal := commandM 0x91 p runPowerRequest s

/-- POWER_REQUEST at its boundary. -/
def Mod.applyPower (m : Mod) (d q : Nat) : Mod :=
  if isCourse d then m.setDomain d fun x => { x with vote := q }
  else if q = 1 then m.wake d
  else m.setDomain d fun x => if x.state = .on then { x with goal := lowState d } else x

/-- TICKS is one that a class takes (R465). -/
def idleOk (cls ticks : Nat) : Bool :=
  ticks == 0 || decide ((if cls = 0 then 100000 else if cls = 1 then 10 else 10000) ≤ ticks)

def runIdleTimerSet (r : Req) (m : Mod) : Mod :=
  let cls := field r.payload 0 1
  let ticks := field r.payload 4 4
  if !sized r.payload 8 then malformed r m
  else if 2 < cls then refuse r ePARAM (badField 0) m
  else if !zeros r.payload 1 3 then refuse r ePARAM (badField 1) m
  else if !idleOk cls ticks then refuse r ePARAM (badField 4) m
  else if cls = 2 ∧ !m.variant.windows then refuse r eABSENT (badField 0) m
  else later r (.idleTimer cls ticks) m

def execIdleTimerSet (p : Packet) (s : State) : Host.Outcome State Fault Refusal := commandM 0x92 p runIdleTimerSet s

/-- A new idle time restarts the count of every domain of its class. -/
def Mod.applyIdle (m : Mod) (cls ticks : Nat) : Mod :=
  { m with power := { m.power with
      idle := lmod m.power.idle cls fun _ => ticks
      domains := m.power.domains.map fun d =>
        if isCourse d.code = false ∧ timerClass d.code = cls then { d with timer := 0 } else d } }

/-- The two channels of a pair (R450): lintel 0 channel p and lintel 1 channel (p + 2) mod 4. -/
def pairChannels (p : Nat) : List Nat := [p, 4 + (p + 2) % 4]

/-- PSTATE of a domain (R466). -/
def Mod.pstate (m : Mod) (d : Domain) : Nat :=
  if !m.variant.domain d.code then 7
  else if isCourse d.code && (m.course d.code).failed then 6
  else if isPair d.code && ((pairChannels (d.code - 0x10)).all fun c => lget 0 m.die.channels c == 2) then 6
  else match d.state with
    | .on => 0
    | .retention => 1
    | .off => 2
    | .entering => 3
    | .waking => 4

/-- VOTES of a domain (R466). -/
def Mod.votesByte (m : Mod) (d : Domain) : Nat :=
  if !m.variant.domain d.code ∨ (isCourse d.code ∧ (m.course d.code).failed) then 0
  else if isCourse d.code then sumN ((m.courseVotes d.code).zip [1, 2, 4, 8, 16, 32] |>.map fun p => if p.1 then p.2 else 0)
  else 128 * b2n (m.held5 d.code)

def runPowerQuery (v : Mod) (r : Req) (m : Mod) : Mod :=
  if r.payload ≠ [] then malformed r m
  else answer r stOK
    (le 2 260 ++ le 6 0 ++ v.power.domains.flatMap fun d => le 2 d.code ++ le 1 (v.pstate d) ++ le 1 (v.votesByte d)) m

def execPowerQuery (p : Packet) (s : State) : Host.Outcome State Fault Refusal := query 0x90 p runPowerQuery s

/-- Every entry and wake in progress ends with a reset (R454); after a power-on or warm reset every domain is ON. -/
def Mod.resetDomains (m : Mod) : Mod :=
  { m with power := { m.power with domains := m.power.domains.map fun d => Domain.init d.code } }

end Sys2Proof.Machine
end

