-- ==== Sys2Proof/Machine/Security.lean ====
section
/-! DEFINITION. Security and firmware (R476 – R510): attestation, keys, debug unlock, image staging, confirmation and
fallback, and what the security engine does at a boot. -/

namespace Sys2Proof.Machine

/-! ### Records -/

/-- Record type 0x0070: event, slot, the image, FW_COUNTER, the link of the staging session or 0xFF. -/
def Mod.imageRecord (m : Mod) (event slot : Nat) (img : Slot) (link : Nat) : Mod :=
  m.record 0x70 m.origin
    (le 1 event ++ le 1 slot ++ [0, 0] ++ le 4 img.version.toNat ++ le 4 m.sec.counter.toNat ++ slice img.digest 0 16 ++
      le 1 link)

/-! ### Attestation (R482, R483) -/

/-- FELSO_STATUS.UNLOCKED. -/
def Mod.unlockedBits (m : Mod) : Nat := maskOf 4 (m.felso.unlocked.map Prod.fst)

/-- Register CAP_VARIANT (R531). -/
def Variant.number : Variant → Nat
  | .l => 1
  | .lc => 2
  | .p => 3

/-- Register CAP_LASERS (R534): lasers fitted at manufacture as working and as spares. -/
def Variant.lasers : Variant → Word
  | .p => at_ 24 1 ||| at_ 16 2 ||| at_ 8 4 ||| at_ 0 16
  | _ => at_ 24 2 ||| at_ 16 4 ||| at_ 8 4 ||| at_ 0 16

/-- Register STEPPING (R535). -/
def stepping : Word := 0x4230

/-- Register DET_PROFILE (R288). -/
def Mod.detProfile (m : Mod) : Word :=
  at_ 8 1 ||| at_ 0 (b2n m.mortar.open_)

/-- Registers 0x0000_0004 – 0x0000_0018. -/
def Mod.caps (m : Mod) : List Word :=
  [ at_ 0 m.variant.number, m.variant.planes.zeroExtend 32, m.variant.courses.zeroExtend 32, m.variant.lasers, stepping
  , m.detProfile ]

/-- `n` bytes that the security engine computes with its secrets, in a report of one-time key `k`. -/
def secret (item k n : Nat) : List Byte := (List.range n).map (Config.securityByte item k)

/-- The bytes of the key table, entries in ascending KEY_ID: KEY_ID, purpose, public key, label (DESIGN CHOICE, log 72: R483 names no
layout for the digest). -/
def keyTableBytes (l : List Key) : List Byte :=
  (l.mergeSort fun a b => decide (a.id.toNat ≤ b.id.toNat)).flatMap fun k =>
    le 4 k.id.toNat ++ le 1 k.purpose ++ slice k.pub 0 32 ++ slice k.label 0 16

/-- The attestation report (11 Table 3). -/
def attestReport (m : Mod) (i : Side) (nonce : List Byte) : List Byte :=
  let leaf := 1024 - m.sec.keysLeft
  let k := m.sec.batch * 1024 + leaf
  [1] ++ le 1 i.num ++ le 1 m.sec.mode ++ le 1 m.unlockedBits ++ [0x30, 0x42, 0, 0] ++ serial ++ nonce ++
    le 8 m.tick.count ++ le 4 m.sec.primary.version.toNat ++ le 4 m.sec.counter.toNat ++ le 4 m.sec.ucode.toNat ++
    le 4 Config.romVersion.toNat ++ m.caps.flatMap (fun w => le 4 w.toNat) ++ secret 0 0 32 ++
    slice m.sec.primary.digest 0 32 ++ secret 1 m.sec.ucode.toNat 32 ++ sha256 (keyTableBytes m.sec.keys) ++
    List.replicate 24 0 ++ le 2 leaf ++ List.replicate 6 0 ++ le 8 m.sec.batch ++ secret 2 m.sec.batch 16 ++
    secret 3 m.sec.batch 16 ++ secret 4 k 560 ++ secret 5 k 160 ++ secret 6 m.sec.batch 7856 ++ secret 7 0 32 ++
    secret 8 0 4 ++ List.replicate 12 0 ++ secret 9 0 7856

/-- One key of the batch is used; the next batch, if it is prepared, follows the last. -/
def Sec.useKey (k : Sec) : Sec :=
  if k.keysLeft = 1 ∧ k.batchReady then { k with keysLeft := 1024, batch := k.batch + 1, batchReady := false }
  else { k with keysLeft := k.keysLeft - 1 }

def runAttest (r : Req) (m : Mod) : Mod :=
  if !sized r.payload 32 then malformed r m
  else if m.sec.keysLeft = 0 then refuse r eBUSY plain m
  else answer r stOK (attestReport m r.w.link (slice r.payload 0 32)) { m with sec := m.sec.useKey }

def execAttest (p : Packet) (s : State) : Host.Outcome State Fault Refusal := commandM 0x05 p runAttest s

/-- ATT_BATCH_PREPARE (R482): once 768 keys of the batch are used, the next is derived and signed. -/
def execAttBatchPrepare (s : State) : Host.Outcome State Fault Refusal :=
  happens (fun m => m.sup.rails && decide (m.sec.keysLeft ≤ 256) && !m.sec.batchReady)
    (fun m =>
      if m.sec.keysLeft = 0 then { m with sec := { m.sec with batch := m.sec.batch + 1, keysLeft := 1024 } }
      else { m with sec := { m.sec with batchReady := true } }) s

/-! ### Keys (R478 – R481) -/

/-- The key that proved a session. -/
def Mod.keyOf (m : Mod) (i : Side) (sid : Word) : Nat :=
  match (m.session i sid).bind Session.keyId with
  | some k => k.toNat
  | none => 0

/-- Record type 0x0080. -/
def Mod.keyRecord (m : Mod) (op : Nat) (k : Key) (by_ : Nat) (label : List Byte) : Mod :=
  m.record 0x80 m.origin
    (le 1 op ++ le 1 k.purpose ++ [0, 0] ++ le 4 k.id.toNat ++ le 4 by_ ++ slice label 0 16)

/-- The table with one more key; the first administrator key takes the place of key 0 (R479). -/
def withKey (l : List Key) (k : Key) : List Key :=
  (if k.purpose = 3 then l.filter fun x => x.id != 0 else l) ++ [k]

/-- The table without a key. -/
def withoutKey (l : List Key) (id : Word) : List Key := l.filter fun x => x.id != id

/-- An enrolment at its boundary (R480). -/
def Mod.applyEnrol (m : Mod) (k : Key) (by_ : Nat) : Mod :=
  ({ m with sec := { m.sec with keys := withKey m.sec.keys k } }).keyRecord 0 k by_ k.label

/-- A revocation at its boundary: the key goes, and sessions raised with it fall to the observer role (R480). -/
def Mod.applyRevoke (m : Mod) (id : Word) (by_ : Nat) (label : List Byte) : Mod :=
  match m.sec.keys.find? fun k => k.id == id with
  | none => m
  | some k =>
    let m := { m with sessions := m.sessions.map fun (s : Session) => if s.keyId = some id then { s with role := 0 } else s }
    ({ m with sec := { m.sec with keys := withoutKey m.sec.keys id } }).keyRecord 1 k by_ label

/-- The key table that the next boundary leaves: what KEY_ENROL is checked against. -/
def Mod.keysNext (m : Mod) : List Key :=
  m.inOrder.foldl (fun l d => match d.eff with
    | .enrolKey k _ => withKey l k
    | .revokeKey id _ _ => withoutKey l id
    | _ => l) m.sec.keys

/-- KEY_ENROL (R480). -/
def runKeyEnrol (r : Req) (m : Mod) : Mod :=
  let op := field r.payload 0 1
  let purpose := field r.payload 1 1
  let id := wordAt r.payload 4
  let label := slice r.payload 40 16
  let keys := m.keysNext
  let old := keys.find? fun k => k.id == id
  let by_ := m.keyOf r.w.link r.w.session
  if !sized r.payload 64 then malformed r m
  else if 1 < op then refuse r ePARAM (badField 0) m
  else if op = 0 ∧ purpose ∉ [1, 2, 3, 8, 9] then refuse r ePARAM (badField 1) m
  else if !zeros r.payload 2 2 then refuse r ePARAM (badField 2) m
  else if !zeros r.payload 56 8 then refuse r ePARAM (badField 56) m
  else if id = 0 ∨ 0xFFFF0000 ≤ id.toNat then refuse r ePARAM (badField 4) m
  else if op = 1 then
    match old with
    | none => refuse r ePARAM (badField 4) m
    | some k =>
      if k.purpose = 3 ∧ (keys.filter fun x => x.purpose == 3).length = 1 then refuse r eCONFLICT (badField 4) m
      else later r (.revokeKey id by_ label) m
  else if old.isSome then refuse r eCONFLICT (badField 4) m
  else if 32 ≤ keys.length then refuse r eCAPACITY plain m
  else later r (.enrolKey { id := id, purpose := purpose, pub := slice r.payload 8 32, label := label } by_) m

def execKeyEnrol (p : Packet) (s : State) : Host.Outcome State Fault Refusal := commandM 0x87 p runKeyEnrol s

/-! ### Debug unlock (R507 – R510) -/

/-- The debug target of a core code: leaf × 8 + core, or 0x10 + course. -/
def targetOfCore (c : Nat) : Nat := if c < 8 then 1 else if c < 16 then 2 else 3

/-- Record type 0x0081. -/
def Mod.unlockRecord (m : Mod) (event target key : Nat) : Mod :=
  m.record 0x81 m.origin (le 1 event ++ le 1 target ++ [0, 0] ++ le 4 key)

def Mod.isUnlocked (m : Mod) (t : Nat) : Bool := m.felso.unlocked.any fun (p : Nat × Nat) => p.1 == t

def Mod.unlockTarget (m : Mod) (t key : Nat) : Mod :=
  ({ m with felso := { m.felso with
      unlocked := (m.felso.unlocked.filter fun (p : Nat × Nat) => p.1 != t) ++ [(t, m.tick.now)] } }).unlockRecord 0 t key

/-- A target relocks: its halted cores resume and its breakpoints are cleared (R510). -/
def Mod.relockTarget (m : Mod) (t event : Nat) : Mod :=
  if !m.isUnlocked t then m
  else
    ({ m with felso := { m.felso with
        unlocked := m.felso.unlocked.filter fun (p : Nat × Nat) => p.1 != t
        halted := m.felso.halted.filter fun c => targetOfCore c != t
        steps := m.felso.steps.filter fun (c : Nat × Nat) => targetOfCore c.1 != t
        breaks := m.felso.breaks.filter fun (b : Nat × Word) => targetOfCore b.1 != t } }).unlockRecord event t 0

/-- UNLOCK_CHALLENGE (R507). -/
def runUnlockChallenge (r : Req) (m : Mod) : Mod :=
  let t := field r.payload 0 1
  if !sized r.payload 1 then malformed r m
  else if t = 0xFF then
    answer r stOK (List.replicate 32 0)
      (([0, 1, 2, 3].foldl (fun (m : Mod) t => m.relockTarget t 1) { m with sec := { m.sec with challenge := none } }))
  else if 3 < t then refuse r ePARAM (badField 0) m
  else
    let nonce := m.freeBytes 32
    let m := m.useFree 32
    answer r stOK nonce { m with sec := { m.sec with challenge := some (t, m.tick.now, nonce) } }

def execUnlockChallenge (p : Packet) (s : State) : Host.Outcome State Fault Refusal := commandM 0x85 p runUnlockChallenge s

/-- The key may sign an unlock: one of purpose 9, or a Kwefold key while VENDOR_EN is 1. -/
def Mod.mayUnlock (m : Mod) (key : Nat) : Bool :=
  if isKwefold key then m.sec.cfg.getLsbD 0 else m.sec.keys.any fun k => k.id.toNat == key && k.purpose == 9

/-- The leaf whose cores a target covers. -/
def targetLeaf (t : Nat) : Option Side := if t = 1 then some .a else if t = 2 then some .b else none

/-- UNLOCK_RESPONSE (R507, R508). -/
def runUnlockResponse (proof : Option Proven) (r : Req) (m : Mod) : Mod :=
  let key := field r.payload 0 4
  if !sized r.payload 7864 then malformed r m
  else if !zeros r.payload 4 4 then refuse r ePARAM (badField 4) m
  else
    match m.sec.challenge with
    | none => refuse r eAUTH (detail 0x0A noField noIndex) m
    | some (t, at1, nonce) =>
      if at1 + 100000 < m.tick.now ∨ !m.signed proof key (nonce ++ serial ++ le 1 t) (slice r.payload 8 7856) ∨ !m.mayUnlock key then refuse r eAUTH (detail 0x0A noField noIndex) m
      else
        let m := { m with sec := { m.sec with challenge := none } }
        match targetLeaf t with
        | some i =>
          if m.leaves.active = some i then
            if !m.eligible i.other then refuse r eCONFLICT plain m
            else if m.leaves.switchTo.isSome ∨ m.leaves.releasing.isSome ∨ m.sec.unlocking.isSome then refuse r eBUSY plain m
            else
              let m := pend r m
              { m with
                sec := { m.sec with unlocking := some (t, r.w, BitVec.ofNat 32 key) }
                deferred := m.deferred ++ [{ eff := .leafSwitch i.other r.w false, reply := none, pkt := none }] }
          else answer r stOK [] (m.unlockTarget t key)
        | none => answer r stOK [] (m.unlockTarget t key)

def execUnlockResponse (p : Packet) (proof : Option Proven) (s : State) : Host.Outcome State Fault Refusal :=
  commandM 0x86 p (runUnlockResponse proof) s

/-- The Switch that an unlock asked for has come (or has failed). -/
def Mod.endUnlock (m : Mod) (moved : Bool) : Mod :=
  match m.sec.unlocking with
  | none => m
  | some (t, w, key) =>
    let m := { m with sec := { m.sec with unlocking := none } }
    if moved then (m.unlockTarget t key.toNat).final w stOK [] else m.final w eCONFLICT plain

/-- FELSO_RELOCK (R510): 1 h after the unlock. -/
def execFelsoRelock (target : Nat) (s : State) : Host.Outcome State Fault Refusal :=
  happens (fun m => m.felso.unlocked.any fun p => p.1 == target && decide (p.2 + 360000000 ≤ m.tick.now))
    (fun m => m.relockTarget target 3) s

/-! ### Staging (R484 – R490) -/

/-- The detail block OWNED, naming the owner (R490). -/
def ownedDetail (l : Side) (sid : Word) : List Byte :=
  detail 0x11 noField noIndex ++ le 1 l.num ++ [0, 0, 0] ++ le 4 sid.toNat

/-- An owner other than the session, as the detail block OWNED names it. -/
def Mod.ownedByOther (m : Mod) (w : Waiter) : Option (List Byte) :=
  match m.sec.owner with
  | some (l, sid) => if l = w.link ∧ sid = w.session then none else some (ownedDetail l sid)
  | none => none

/-- An END of Zudin A comes before one of Zudin B that took ownership in the same tick (R166, R490): the latter then finds the slot
owned. -/
def Mod.yieldSlot (m : Mod) (w : Waiter) : Mod :=
  match m.sec.owner, m.sec.writing with
  | some (.b, _), some (_, v) =>
    if w.link = .a ∧ m.sec.ownTick = m.tick.now then
      ({ m with sec := { m.sec with owner := none, writing := none } }).final v eBUSY (ownedDetail w.link w.session)
    else m
  | _, _ => m

def Mod.bufferOf (m : Mod) (w : Waiter) : Option Buffer :=
  m.sec.buffers.find? fun b => b.link == w.link && b.session == w.session

def Mod.dropBuffer (m : Mod) (w : Waiter) : Mod :=
  { m with sec := { m.sec with buffers := m.sec.buffers.filter fun b => !(b.link == w.link && b.session == w.session) } }

/-- FW_STAGE_BEGIN (R488). -/
def runFwStageBegin (r : Req) (m : Mod) : Mod :=
  let len := field r.payload 0 4
  let hdr := slice r.payload 8 8112
  if !sized r.payload 8120 then malformed r m
  else if len ≠ 8128 + field hdr 12 4 then refuse r ePARAM (badField 0) m
  else if field r.payload 4 4 ≠ field hdr 8 4 then refuse r ePARAM (badField 4) m
  else if slice hdr 0 4 ≠ [0x4B, 0x57, 0x46, 0x57] then refuse r ePARAM (badField 8) m
  else if field hdr 4 2 ≠ 1 then refuse r ePARAM (badField 12) m
  else if field hdr 6 2 ≠ 256 then refuse r ePARAM (badField 14) m
  else if 67108864 < len ∨ 2 ≤ m.sec.buffers.length then refuse r eCAPACITY plain m
  else
    match m.ownedByOther r.w with
    | some d => refuse r eBUSY d m
    | none =>
      if (m.bufferOf r.w).isSome then refuse r eBUSY plain m
      else
        let b : Buffer := { link := r.w.link, session := r.w.session, header := hdr, len := len, got := 0, data := [] }
        answer r stOK [] { m with sec := { m.sec with buffers := m.sec.buffers ++ [b] } }

def execFwStageBegin (p : Packet) (s : State) : Host.Outcome State Fault Refusal := commandM 0x80 p runFwStageBegin s

/-- FW_STAGE_DATA (R489). -/
def runFwStageData (r : Req) (m : Mod) : Mod :=
  if r.payload.length < 8 then malformed r m
  else if !zeros r.payload 4 4 then refuse r ePARAM (badField 4) m
  else
    match m.bufferOf r.w with
    | none => refuse r ePARAM (badField 0) m
    | some b =>
      let data := r.payload.drop 8
      let left := b.len - 8112 - b.got
      if field r.payload 0 4 ≠ b.got then refuse r ePARAM (badField 0) m
      else if !(data.drop left).all (· == 0) then refuse r ePARAM (badField 8) m
      else
        let n := min data.length left
        answer r stOK [] { m with sec := { m.sec with buffers := m.sec.buffers.map fun x =>
          if x = b then { x with got := x.got + n, data := x.data ++ data.take n } else x } }

def execFwStageData (p : Packet) (s : State) : Host.Outcome State Fault Refusal := commandM 0x81 p runFwStageData s

/-- The module's stepping is one of the four that the header lists. -/
def steppingListed (hdr : List Byte) : Bool :=
  [16, 18, 20, 22].any fun o => slice hdr o 2 == [0x42, 0x30]

/-- FW_STAGE_END (R490). -/
def runFwStageEnd (proof : Option Proven) (r : Req) (m : Mod) : Mod :=
  if r.payload ≠ [] then malformed r m
  else
    match m.bufferOf r.w with
    | none => refuse r ePARAM plain m
    | some b =>
      let fails (st : Nat) (d : List Byte) : Mod := refuse r st d (m.dropBuffer r.w)
      let signer := field b.header 32 4
      if b.got + 8112 ≠ b.len then fails ePARAM plain
      else if !steppingListed b.header ∨ field b.header 8 4 < m.sec.counter.toNat then fails eCONFLICT (badField noField)
      else if !isKwefold signer ∨ !m.signed proof signer (slice b.header 0 256) (slice b.header 256 7856) then fails eINTEGRITY plain
      else
        let first := m.yieldSlot r.w
        match first.ownedByOther r.w with
        | some d => fails eBUSY d
        | none =>
          if first.sec.writing.isSome then fails eBUSY plain
          else
            let m := pend r (first.dropBuffer r.w)
            { m with sec := { m.sec with
                owner := some (r.w.link, r.w.session), writing := some (b, r.w)
                ownTick := if m.sec.owner.isSome then m.sec.ownTick else m.tick.now
                staged := { Slot.empty with sstate := 5 } } }

def execFwStageEnd (p : Packet) (proof : Option Proven) (s : State) : Host.Outcome State Fault Refusal :=
  commandM 0x82 p (runFwStageEnd proof) s

/-- The slot that a staged image makes: the image as received, with its content key rewrapped (R486). -/
def Buffer.slot (b : Buffer) : Slot :=
  let image := b.header ++ b.data
  { sstate := 1, version := wordAt b.header 8, len := b.len, digest := slice b.header 40 32, micro := wordAt b.header 28
    fits := steppingListed b.header && decide (field b.header 24 4 ≤ Config.romVersion.toNat), image := image
    cek := Config.rewrappedCek image }

/-- FW_STAGE_WRITE_DONE (R490). -/
def execFwStageWriteDone (s : State) : Host.Outcome State Fault Refusal :=
  happens (fun m => m.sec.writing.isSome)
    (fun m => match m.sec.writing with
      | none => m
      | some (b, w) =>
        let m := { m with sec := { m.sec with writing := none, staged := b.slot } }
        (m.imageRecord 0 1 m.sec.staged w.link.num).final w stOK []) s

/-! ### Confirmation and fallback (R492, R493) -/

/-- Steps 1 and 2 of a confirmation, and the start of the copy to golden. -/
def Mod.confirm (m : Mod) (link : Nat) : Mod :=
  let m := { m with sec := { m.sec with
    counter := m.sec.primary.version, primary := { m.sec.primary with sstate := 3 }, mode := 0, trialEnd := none
    trialBoots := 0, trialResets := 0, health := false, confirming := some none, golden := { m.sec.golden with sstate := 5 } } }
  m.imageRecord 3 0 m.sec.primary link

/-- Primary is a trial image that is not falling back. -/
def Mod.onTrial (m : Mod) : Bool := m.sec.primary.sstate == 2 && m.sec.mode == 1

/-- FW_CONFIRM (R492). -/
def runFwConfirm (r : Req) (m : Mod) : Mod :=
  if r.payload ≠ [] then malformed r m
  else if !m.onTrial then refuse r eCONFLICT plain m
  else if !m.sec.health then refuse r eBUSY plain m
  else answer r stOK [] (m.confirm r.w.link.num)

def execFwConfirm (p : Packet) (s : State) : Host.Outcome State Fault Refusal := commandM 0x83 p runFwConfirm s

/-- AUTO_CONFIRM (R492). -/
def execAutoConfirm (s : State) : Host.Outcome State Fault Refusal :=
  happens (fun m => m.sec.cfg.getLsbD 1 && m.onTrial && m.sec.health && m.running) (fun m => m.confirm 0xFF) s

/-- The copy of primary to golden is over, and the staged slot is emptied. -/
def Mod.goldenDone (m : Mod) : Mod :=
  { m with sec := { m.sec with confirming := none, golden := { m.sec.primary with sstate := 3 }, staged := .empty } }

/-- GOLDEN_COPY_DONE (R492). -/
def execGoldenCopyDone (s : State) : Host.Outcome State Fault Refusal :=
  happens (fun m => m.sec.confirming.isSome && m.sup.rails) Mod.goldenDone s

/-- Golden takes the place of a trial image, which is marked REJECTED, and the fallback is recorded. -/
def Mod.fallBack (m : Mod) : Mod :=
  let old := m.sec.primary
  let m := { m with sec := { m.sec with
    primary := { m.sec.golden with sstate := 3 }, trialBoots := 0, trialResets := 0, trialEnd := none, health := false
    staged := if m.sec.staged.sstate = 2 then { m.sec.staged with sstate := 4 } else m.sec.staged } }
  m.imageRecord 4 0 old 0xFF

/-- Everything that HEALTH_OK needs holds now (R492). -/
def Mod.healthy (m : Mod) : Bool :=
  m.onTrial && m.activeIn [.ready, .degraded] && m.leaves.exhausted == 0 &&
    !((List.range 16).any fun c => m.variant.courses.getLsbD c && (m.course c).failed) &&
    (match m.leaves.active with
     | some i => !m.serving i.other ||
         ((m.leaf i.other).state == .standby && m.leaves.reportClean && m.leaves.reportSeen)
     | none => false)

/-- HEALTH_OK and the start of the trial time, at a boundary (R492, R493). -/
def Mod.trialTick (m : Mod) : Mod :=
  { m with sec := { m.sec with
      health := m.sec.health || m.healthy
      trialEnd := if m.sec.mode = 1 ∧ m.sec.trialEnd = none ∧ m.running then some (m.tick.now + 60000000) else m.sec.trialEnd } }

/-- FW_QUERY (R496). -/
def slotBytes (m : Mod) (n : Nat) (k : Slot) : List Byte :=
  let own := if n = 1 then m.sec.owner else none
  let ownLink : Nat := if n ≠ 1 then 0 else match own with | some o => o.1.num | none => 0xFF
  le 1 n ++ le 1 k.sstate ++ le 2 0 ++ le 4 (if k.sstate = 0 then 0 else k.version.toNat) ++ le 4 k.len ++
    le 1 ownLink ++ le 3 0 ++ le 4 (match own with | some o => o.2.toNat | none => (0 : Nat)) ++ slice k.digest 0 16 ++ le 4 0

/-- TRIAL_LEFT (R513). -/
def Mod.trialLeft (m : Mod) : Nat :=
  match m.sec.trialEnd with
  | some t => t - m.tick.now
  | none => 0

def runFwQuery (v : Mod) (r : Req) (m : Mod) : Mod :=
  if r.payload ≠ [] then malformed r m
  else answer r stOK
    (le 4 v.sec.counter.toNat ++ le 4 v.trialLeft ++ le 1 v.sec.trialBoots ++ le 1 v.sec.mode ++ List.replicate 6 0 ++
      slotBytes v 0 v.sec.primary ++ slotBytes v 1 v.sec.staged ++ slotBytes v 2 v.sec.golden) m

def execFwQuery (p : Packet) (s : State) : Host.Outcome State Fault Refusal := query 0x84 p runFwQuery s

/-! ### Boot (R491, R493, R494) -/

/-- Step 1: slot operations that the reset left unfinished. -/
def Mod.finishSlots (m : Mod) : Mod :=
  let m := { m with sec := { m.sec with
    staged := if m.sec.writing.isSome then .empty else m.sec.staged, writing := none, owner := none, buffers := []
    challenge := none, unlocking := none, fallback := 0, trialResets := 0, trialEnd := none, health := false
    keysLeft := 0, batchReady := false, batch := m.sec.batch + b2n m.sec.batchReady } }
  if m.sec.confirming.isSome then m.goldenDone else m

/-- The checks of R491 that the header decides: R487, STEPPINGS and ROM_MIN. What HSIG, the GCM tag and PAYLOAD_DIGEST say comes with the
boot. -/
def Slot.bootable (k : Slot) (counter : Word) : Bool := k.fits && decide (counter.toNat ≤ k.version.toNat)

/-- Step 2: a staged image not yet tried is checked, and becomes the trial image or is rejected; else a trial image is booted
again, or falls back where this would be its fourth boot. -/
def Mod.activate (m : Mod) (b : BootIn) : Mod :=
  if m.sec.staged.sstate = 1 then
    if b.stagedOk ∧ m.sec.staged.bootable m.sec.counter then
      let m := { m with sec := { m.sec with
        primary := { m.sec.staged with sstate := 2 }, staged := { m.sec.staged with sstate := 2 }, trialBoots := 1, mode := 1 } }
      m.imageRecord 2 0 m.sec.primary 0xFF
    else
      let m := { m with sec := { m.sec with staged := { m.sec.staged with sstate := 4 } } }
      m.imageRecord 1 1 m.sec.staged 0xFF
  else if m.sec.primary.sstate = 2 then
    if 3 ≤ m.sec.trialBoots then ({ m with sec := { m.sec with mode := 0 } }).fallBack
    else { m with sec := { m.sec with trialBoots := m.sec.trialBoots + 1, mode := 1 } }
  else { m with sec := { m.sec with mode := 0 } }

/-- Step 3: primary boots where it passes, else golden, which is recopied; with neither the leaves enter RECOVERY. -/
def Mod.chooseImage (m : Mod) (b : BootIn) : Mod :=
  if b.primaryOk ∧ m.sec.primary.bootable m.sec.counter then m
  else if b.goldenOk ∧ m.sec.golden.bootable m.sec.counter then
    { m with sec := { m.sec with
        primary := { m.sec.golden with sstate := 3 }, mode := 0, trialBoots := 0
        staged := if m.sec.staged.sstate = 2 then { m.sec.staged with sstate := 4 } else m.sec.staged } }
  else
    let m := { m with sec := { m.sec with mode := 3 } }
    (m.setLeaf .a fun l => { l with toRecovery := true }).setLeaf .b fun l => { l with toRecovery := true }

/-- A leaf boots: the image of primary is decrypted into its memory, the only place that plaintext is in (R486); in RECOVERY the boot
ROM serves. -/
def Mod.loadImage (m : Mod) (i : Side) : Mod :=
  m.setLeaf i fun l => { l with plain := if l.inReset ∨ m.sec.mode = 3 then [] else Config.plaintext m.sec.primary.image }

/-- What the security engine does at a boot of the module. -/
def Mod.bootImages (m : Mod) (b : BootIn) : Mod :=
  let m := (m.finishSlots.activate b).chooseImage b
  { m with sec := { m.sec with ucode := if m.sec.mode = 3 then m.sec.ucode else m.sec.primary.micro } }

end Sys2Proof.Machine
end

