-- ==== Sys2Proof/Machine/Leaves.lean ====
section
/-! DEFINITION. Leaves, failover and recovery (R405 – R425): the lease, how control moves, self-diagnosis and reports, the
cross-link, the reset of one leaf, and function reinits. -/

namespace Sys2Proof.Machine

/-! ### Grants and renewals (R408 – R411) -/

/-- The leaf takes itself for the holder: it runs in one of the states of an active leaf and has seen no higher epoch. -/
def Mod.holds (m : Mod) (i : Side) : Bool :=
  m.serving i && !(m.leaf i).stopped &&
    ((m.leaf i).state == .ready || (m.leaf i).state == .degraded || (m.leaf i).state == .committing ||
      (m.leaf i).state == .safeHold)

/-- A sill accepts a grant: a higher epoch, and unless forced a lease that is not VALID. -/
def Sill.accepts (k : Sill) (epoch : Nat) (forced : Bool) : Bool :=
  decide (k.epoch < epoch) && (forced || k.lease != .valid) && (match k.grant with
    | some e => decide (e < epoch)
    | none => true)

/-- A GRANT or FORCED GRANT reaches a sill. -/
def Mod.grantAt (m : Mod) (k epoch : Nat) (forced : Bool) : Mod :=
  m.setSill k fun s => if s.accepts epoch forced then { s with grant := some epoch } else s

/-- The grants of a leaf are forced: those of a Lapse or a Forced takeover, repeated until every sill has accepted. -/
def Mod.grantsForced (m : Mod) (i : Side) : Bool :=
  match m.leaves.releasing with
  | some .lapse => true
  | some .forced => true
  | some _ => false
  | none => m.leaves.active == some i && m.leaves.lastTo == i.num + 1 && decide (4 ≤ m.leaves.lastKind)

/-- The grants of a Guard phase, to every sill the leaf reaches (R411). -/
def Mod.sendGrants (m : Mod) (i : Side) : Mod :=
  let l := m.leaf i
  if l.granting && !l.stopped && m.serving i then
    ((List.range 8).filter (m.reaches i)).foldl (fun m k => m.grantAt k l.epoch (m.grantsForced i)) m
  else m

/-- A leaf begins to grant a new epoch. -/
def Mod.startGrant (m : Mod) (i : Side) : Mod :=
  m.setLeaf i fun l => { l with epoch := m.nextEpoch i, granting := true }

/-- A RENEW reaches a sill (R408, R409, R413); any other epoch is discarded (R410). -/
def Mod.renewAt (m : Mod) (i : Side) (k : Nat) : Mod :=
  let l := m.leaf i
  m.setSill k fun s =>
    if s.epoch = l.epoch then
      { s with missed := 0, hold := l.state == .safeHold, renewed := s.renewed || s.lease == .lapsed }
    else s

/-- GRANT (R408): of the leaf in BOOT or STANDBY that grants this epoch, or its repeat. -/
def execGrant (leaf : Side) (sill epoch : Nat) (s : State) : Host.Outcome State Fault Refusal :=
  happens
    (fun m => m.inPhase .guard && decide (sill < 8) && m.reaches leaf sill && (m.leaf leaf).granting &&
      !(m.leaf leaf).stopped && m.serving leaf && (m.leaf leaf).epoch == epoch)
    (fun m => m.grantAt sill epoch false) s

/-- FORCED GRANT (R408): of a standby that takes over by lapse or force, or its repeat. -/
def execForcedGrant (leaf : Side) (sill epoch : Nat) (s : State) : Host.Outcome State Fault Refusal :=
  happens
    (fun m => m.inPhase .guard && decide (sill < 8) && m.reaches leaf sill && (m.leaf leaf).granting &&
      !(m.leaf leaf).stopped && m.serving leaf && (m.leaf leaf).epoch == epoch && m.grantsForced leaf)
    (fun m => m.grantAt sill epoch true) s

/-- RENEW (R408). -/
def execRenew (leaf : Side) (sill epoch : Nat) (s : State) : Host.Outcome State Fault Refusal :=
  happens (fun m => m.inPhase .commit && decide (sill < 8) && m.holds leaf && m.reaches leaf sill && (m.leaf leaf).epoch == epoch)
    (fun m => m.renewAt leaf sill) s

/-- RELEASE (R408, R414): at cycle 900 the sills reached become RELEASED and send release notices. -/
def execRelease (leaf : Side) (s : State) : Host.Outcome State Fault Refusal :=
  happens
    (fun m => m.afterCommit && m.leaves.active == some leaf && m.holds leaf && (match m.leaves.releasing with
      | some .release => true
      | some .switch => true
      | some .revert => true
      | _ => false))
    (fun m => ((List.range 8).filter (m.reaches leaf)).foldl (fun m k => m.setSill k fun s =>
      if s.epoch = (m.leaf leaf).epoch then { s with lease := .released, notice := true } else s) m) s

/-- LEASE_LAPSE (R409): three consecutive Commit steps without a RENEW. -/
def execLeaseLapse (sill : Nat) (s : State) : Host.Outcome State Fault Refusal :=
  happens (fun m => m.afterCommit && decide (sill < 8) && (m.sill sill).lease == .valid && decide (3 ≤ (m.sill sill).missed))
    (fun m => m.setSill sill fun k => { k with lease := .lapsed, notice := true }) s

/-- LAPSE_NOTICE (R414): a standby takes control on a release notice, or by force on a lapse notice while its own
self-diagnosis passes (and its cores are locked, R508). -/
def execLapseNotice (leaf : Side) (sill : Nat) (selfOk : Bool) (s : State) : Host.Outcome State Fault Refusal :=
  happens
    (fun m => m.afterCommit && decide (sill < 8) && m.serving leaf && (m.leaf leaf).state == .standby && !(m.leaf leaf).granting &&
      (m.sill sill).notice && m.reaches leaf sill && selfOk && !m.isUnlocked (1 + leaf.num))
    (fun m =>
      let m := if (m.sill sill).lease = .lapsed then { m with leaves := { m.leaves with releasing := some .lapse } } else m
      (m.startGrant leaf).sendGrants leaf) s

/-! ### The reset of one leaf (R461, R571) -/

/-- A link whose leaf is reset or stops: what it carried is gone; its counts stay, and the width that its lane domain gives it
(R141, R454). -/
def LinkSt.lose (l : LinkSt) : LinkSt :=
  { LinkSt.init with
    oneLane := l.oneLane
    downs := if l.state = 2 then l.downs + 1 else l.downs, discards := l.discards, replays := l.replays
    wire := l.wire, sent := l.sent, tx := l.tx, rx := l.rx }

/-- The leaf whose registers Felso reaches (R530): the active leaf, else Leaf A, else Leaf B while A is in reset. -/
def Mod.felsoLeaf (m : Mod) : Side :=
  match m.leaves.active with
  | some i => i
  | none => if m.serving .a then .a else .b

/-- The Felso port's selects and latches take their reset values when the leaf that answers it is reset (R527). -/
def Mod.resetFelso (m : Mod) (i : Side) : Mod :=
  if m.felsoLeaf = i then { m with felso := { m.felso with sel := .init, latch := .init } } else m

/-- What a leaf loses with a reset of its own: its link's work and sessions, its unlock, its trace. -/
def Mod.leafStops (m : Mod) (i : Side) (held : Bool) : Mod :=
  let m := m.resetFelso i
  let m := (m.closeSessions fun s => s.link == i).relockTarget (1 + i.num) 2
  let m := (m.setLink i LinkSt.lose).interruptTrace i
  let m := m.setLink i fun l => { l with state := b2n (!held && m.recs.jUp) }
  let tick := match i with
    | .a => { m.tick with coreA := false }
    | .b => { m.tick with coreB := false }
  { m with tick := tick }

/-- A leaf is in BOOT after a reset of the cause given. -/
def LeafSt.afterReset (l : LeafSt) (cause : Nat) (held : Bool) : LeafSt :=
  { l with
    state := .boot, inReset := held, resetDue := none, granting := false, stopped := false, failed := 0, degraded := false
    causePrev := l.causeLast, causeLast := cause, hasMirror := false, plain := [] }

/-- A leaf-local or watchdog reset at a boundary (R461): record, reset, and boot unless its rails or RESET_N hold the leaf. -/
def Mod.resetLeaf (m : Mod) (i : Side) (cause : Nat) : Mod :=
  let m := m.resetRecord 0 cause i.num 0xFF 0 (m.byteOf i)
  let held := (m.leaf i).railsDown || m.sup.resetN
  let m := ((m.leafStops i held).setLeaf i fun l => l.afterReset cause held).loadImage i
  let m := if m.leaves.active = some i then
      { m with leaves := { m.leaves with exhausted := 0 } } else m
  let m := { m with trowel := { m.trowel with use := m.trowel.use.set i .init } }
  { m with sec := { m.sec with trialResets := if m.sec.mode = 1 then m.sec.trialResets + 1 else m.sec.trialResets } }

/-- A reset of one leaf between two boundaries: the leaf stops at once, and is in BOOT from the next boundary on (R35). -/
def Mod.askLeafReset (m : Mod) (i : Side) (cause : Nat) : Mod :=
  (m.leafStops i true).setLeaf i fun l => { l with inReset := true, granting := false, resetDue := some cause, plain := [] }

/-- The resets of single leaves that are due at a boundary. -/
def Mod.leafResets (m : Mod) : Mod :=
  [Side.a, Side.b].foldl (fun (m : Mod) i => match (m.leaf i).resetDue with
    | some c => m.resetLeaf i c
    | none => m) m

/-- WATCHDOG (R416). -/
def execWatchdog (leaf : Side) (s : State) : Host.Outcome State Fault Refusal :=
  happens (fun m => m.tick.running && m.serving leaf) (fun m => m.askLeafReset leaf 7) s

/-- LEAF_RAIL_COLLAPSE (R416): the leaf stops at once and is held in reset. -/
def execLeafRailCollapse (leaf : Side) (s : State) : Host.Outcome State Fault Refusal :=
  happens (fun m => m.sup.rails && !(m.leaf leaf).railsDown && (m.leaf leaf).state != .off)
    (fun m => (m.leafStops leaf true).setLeaf leaf fun l =>
      { l with inReset := true, railsDown := true, granting := false, plain := [] }) s

/-- LEAF_RAIL_RETURN (R461): a leaf-local reset, cause 0x06. -/
def execLeafRailReturn (leaf : Side) (s : State) : Host.Outcome State Fault Refusal :=
  happens (fun m => m.sup.rails && (m.leaf leaf).railsDown)
    (fun m => (m.setLeaf leaf fun l => { l with railsDown := false }).askLeafReset leaf 6) s

/-! ### Takeover (R414, R418) -/

def Move.code : Move → Nat
  | .release => 1
  | .switch => 2
  | .revert => 3
  | .lapse => 4
  | .forced => 5

/-- The leaf that holds by the sills' records: some sill VALID with its epoch; the higher epoch where both have one (R41). -/
def Mod.holderNow (m : Mod) : Option Side :=
  let top (i : Side) : Bool := decide (0 < (m.leaf i).epoch) && m.sills.any fun k =>
    k.lease == .valid && k.epoch == (m.leaf i).epoch
  match top .a, top .b with
  | true, true => if (m.leaf .a).epoch < (m.leaf .b).epoch then some .b else some .a
  | true, false => some .a
  | false, true => some .b
  | false, false => none

/-- The new holder has the old one's step state: it comes from STANDBY with a mirror, not by force, and the cross-link was up
(R418). -/
def Mod.hasSteps (m : Mod) (i : Side) : Bool :=
  (m.leaf i).state == .standby && (m.leaf i).hasMirror && !m.xlinkDown && m.leaves.releasing != some .forced

/-- PLAN_ID of the host commit that runs, or 0. -/
def Mod.runPlanId (m : Mod) : Word :=
  match m.engine.run with
  | some r => r.planId
  | none => 0

/-- FAILOVER_COUNT and LAST_FAILOVER after a move (R437, R438). -/
def Leaves.count (l : Leaves) (k : Move) (j : Side) (gap : Nat) : Leaves :=
  { l with
    foLapse := if k = .lapse then l.foLapse + 1 else l.foLapse
    foRelease := if k = .release ∨ k = .switch then l.foRelease + 1 else l.foRelease
    foForced := if k = .forced then l.foForced + 1 else l.foForced
    foRevert := if k = .revert then l.foRevert + 1 else l.foRevert
    lastGap := gap, lastItem := if k = .release then l.lastItem else 0, lastKind := k.code, lastTo := j.num + 1 }

/-- The running commit at a takeover: with step state it goes on, FAILOVER set; without, it ends (R121, R418). -/
def Mod.carryRun (m : Mod) (steps : Bool) : Mod :=
  match m.engine.run with
  | none => m
  | some r =>
    let m := m.setRun { r with record := { r.record with flags := r.record.flags ||| 0x20 } }
    if steps then m else m.stopRun .takeover

/-- READY, or DEGRADED while the condition is set (R42). -/
def Mod.idleState (m : Mod) : LeafState := if m.causes = 0 then .ready else .degraded

/-- The state of a leaf that may be COMMITTING: it is while a host commit is in progress (R41, R43). -/
def Mod.normalState (m : Mod) : LeafState :=
  if m.engine.run.any fun r => !r.engine then .committing else m.idleState

/-- The active leaf enters SAFE_HOLD (R45, R124). -/
def Mod.enterHold (m : Mod) (i : Side) : Mod :=
  ((m.setLeaf i fun l => { l with state := .safeHold }).holdEngine).fire 4

/-- The replies that waited for a Switch. -/
def Mod.endSwitch (m : Mod) (ok : Bool) : Mod :=
  match m.leaves.switchTo with
  | some (_, w, _) =>
    let m := { m with leaves := { m.leaves with switchTo := none } }
    if ok then m.final w stOK [] else m.final w eCONFLICT plain
  | none => m

/-- The steps of a firmware fallback (R493): after the Switch the other leaf makes a leaf-local reset. -/
def Mod.fallbackMoved (m : Mod) (j : Side) : Mod :=
  if m.sec.fallback = 2 then
    ({ m with sec := { m.sec with fallback := 0, mode := 0 } }).resetLeaf j.other 6
  else m

/-- Loops that come back from hold are preset, and windows that come back to automatic each take a start (R204, R210): those that
anything has touched since the windows were last parked as a whole. -/
def Mod.returnStarts (m : Mod) : Mod :=
  let m : Mod := { m with trowel := { m.trowel with loops := m.trowel.loops.map fun p => (p.1, { p.2 with preset := true }) } }
  ((m.trowel.loops.filter fun p => decide (p.1 < 7616) && p.2.mode == .auto && p.2.wstate != .cold && !m.inHold p.1).map
    Prod.fst).foldl (fun m w => m.requestStart { window := w, target := (m.loop w).target, mode := .auto, out := none }) m

/-- A loop that a new Trowel starts from a drive value. -/
def Loop.fromDrive (l : Loop) (u : Int) : Loop :=
  { l with preset := true, u := u, uPrev := u, swap := none, mism := 0, calm := 0, evaluated := false }

/-- A new Trowel without a mirror of the last Guard phase presets each loop from the drive values that the sills and the laser bank
last latched (R189). -/
def Mod.presetLoops (m : Mod) : Mod :=
  { m with trowel := { m.trowel with loops := m.trowel.loops.map fun p =>
      (p.1, if loopClass p.1 = some .monitor then p.2
        else p.2.fromDrive (quant (m.expOf p.1 stOut) (unitOf (aget 0 m.trowel.heater p.1))).1) } }

/-- Leaf `j` wins the lease (R412 – R418). -/
def Mod.takeOver (m : Mod) (j : Side) : Mod :=
  let l := m.leaf j
  let booted := l.state == .boot
  let back := !booted && l.state != .standby
  let kind := m.leaves.releasing.getD .lapse
  let gap := min 3 m.leaves.noDrive
  let plan := m.runPlanId
  let steps := m.hasSteps j
  let undriven := m.leaseGone
  let mirrored := m.leaves.mirrorTick == some (m.tick.now - 1)
  let m := { m with leaves := { m.leaves with
    active := some j, everHeld := true, leaseEnded := none, noDrive := 0, releasing := none, loopsOut := none }
                    sup := { m.sup with faultN := m.sup.seqHold } }
  let m := if back || mirrored then m else m.presetLoops
  let m := if undriven then m.returnStarts else m
  if back then m
  else
    let m := if booted then m
      else
        ({ m with leaves := m.leaves.count kind j gap }).record 0x21 (j.num + 1)
          (le 1 kind.code ++ le 1 (j.num + 1) ++ le 1 gap ++ [0] ++ le 4 l.epoch ++ le 4 plan.toNat)
    let m := (m.carryRun steps).interruptTrace j.other
    let held := decide (m.holdNow ≠ 0) || m.leaves.wantHold || m.sills.any fun k =>
      k.lease == .valid && k.epoch == l.epoch && k.hold
    let m := if held then m.enterHold j
      else m.setLeaf j fun l => { l with state := if booted then m.idleState else m.normalState }
    let m := (m.fire 5).endSwitch (match m.leaves.switchTo with | some (t, _, _) => t == j | none => true)
    let m := m.endUnlock (match m.sec.unlocking with | some (t, _, _) => targetLeaf t == some j.other | none => false)
    let m := if kind = .release ∧ !booted then m.resetLeaf j.other 6 else m
    m.fallbackMoved j

/-- The sills' lease records at a boundary: grants accepted in the Guard apply, renewed leases return to VALID (R408, R409). -/
def Sill.atBoundary (k : Sill) : Sill :=
  match k.grant with
  | some e => { k with epoch := e, lease := .valid, missed := 0, grant := none, renewed := false, notice := false }
  | none =>
    { k with
      lease := if k.renewed ∧ k.lease = .lapsed then .valid else k.lease
      missed := if k.renewed then 0 else k.missed, renewed := false, notice := false }

/-- A leaf that saw a higher epoch, or a boot that found the lease held, enters STANDBY (R410, R412). -/
def Mod.standDown (m : Mod) (i : Side) : Mod :=
  let l := m.leaf i
  if l.stopped && m.serving i && l.state != .recovery then
    let m := (m.setLeaf i fun l => { l with state := .standby, stopped := false, granting := false }).interruptTrace i
    if m.leaves.active = some i then m
    else { m with leaves := { m.leaves with
      reportClean := false, reportSeen := false, reportTick := m.tick.now, cleanTicks := 0 } }
  else m

/-- Leaf `j` has won the lease: it takes over, unless it is in BOOT and has lost REFCLK since; it then stays in BOOT, and its
grants end (R31). -/
def Mod.claim (m : Mod) (j : Side) : Mod :=
  if (m.leaf j).state = .boot ∧ m.tick.src then m.setLeaf j fun l => { l with granting := false } else m.takeOver j

/-- The lease at a tick boundary, once the sills' own records are settled. -/
def Mod.leaseTick (m : Mod) : Mod :=
  let h := m.holderNow
  let m := match h, m.leaves.active with
    | some j, some i => if i = j then m else m.claim j
    | some j, none => m.claim j
    | none, some i =>
      let m := { m with leaves := { m.leaves with
        active := none, leaseEnded := if m.leaves.everHeld then some m.tick.now else none } }
      if m.leaves.releasing = some Move.release then m.resetLeaf i 6 else m
    | none, none => m
  (m.standDown .a).standDown .b

/-! ### BOOT and STANDBY (R31, R412) -/

/-- A leaf's boot may end: it runs, both moves to REFCLK are made (R31, R458), no violation holds it (R445), the fabric has
been read back (R71) and every window that has drive parked (R206), the journal has restarted (R497) and every channel has trained (R543). -/
def Mod.bootReady (m : Mod) (i : Side) : Bool :=
  m.serving i && (m.leaf i).state == .boot && !m.sup.seqHold && !m.tick.src && (match i with
    | .a => m.tick.coreA
    | .b => m.tick.coreB) &&
    (m.leaf i).bootReads && (m.trowel.parking.all fun w => (m.sill (sillOfWindow w)).away || m.bankOff w) && m.recs.jUp && m.die.channels.all (· != 3) && !(m.leaf i).toRecovery

/-- BOOT_COMPLETE (R412). -/
def execBootComplete (leaf : Side) (s : State) : Host.Outcome State Fault Refusal :=
  happens (fun m => m.bootReady leaf && !(m.leaf leaf).granting)
    (fun m =>
      let seen := (List.range 8).filter (m.reaches leaf)
      if seen.all fun k => (m.sill k).lease != .valid then
        (m.setLeaf leaf fun l =>
          { l with highest := (seen.map fun k => (m.sill k).epoch).foldl max l.highest }).startGrant leaf
      else if m.leaves.active = some leaf.other then m.setLeaf leaf fun l => { l with stopped := true }
      else m) s

/-! ### Switch and Revert (R415, R417) -/

/-- LEAF_SWITCH (R415). -/
def runLeafSwitch (r : Req) (m : Mod) : Mod :=
  let t := field r.payload 0 1
  if !sized r.payload 1 then malformed r m
  else if 1 < t then refuse r ePARAM (badField 0) m
  else
    let j : Side := if t = 0 then .a else .b
    if m.leaves.active = some j then answer r stOK [] m
    else if m.leaves.switchTo.isSome ∨ m.sec.unlocking.isSome then refuse r eBUSY plain m
    else
      let forced := m.xlinkDown
      let may := if forced then r.w.link == j && (m.leaf j).state == .standby else m.eligible j
      if !may then refuse r eCONFLICT plain m
      else
        let m := pend r m
        { m with
          leaves := { m.leaves with switchTo := some (j, r.w, forced) }
          deferred := m.deferred ++ [{ eff := .leafSwitch j r.w forced, reply := none, pkt := none }] }

def execLeafSwitch (p : Packet) (s : State) : Host.Outcome State Fault Refusal := commandM 0xA5 p runLeafSwitch s

/-- A Switch or Forced takeover at the boundary at which it is due: its case is judged again (R415). -/
def Mod.applySwitch (m : Mod) (j : Side) (w : Waiter) (forced : Bool) : Mod :=
  let ours := (match m.leaves.switchTo with | some (_, v, _) => v == w | none => false) ||
    (match m.sec.unlocking with | some (_, v, _) => v == w | none => false)
  if !ours then m
  else
    let may := if forced then m.xlinkDown && (m.leaf j).state == .standby else m.eligible j && !m.xlinkDown
    if !may ∨ m.leaves.releasing.isSome then (m.endSwitch false).endUnlock false
    else if forced then ({ m with leaves := { m.leaves with releasing := some .forced } }).startGrant j
    else { m with leaves := { m.leaves with releasing := some .switch } }

/-- REVERT (R417): at an idle boundary after 6,000,000 ticks of clean eligibility. -/
def execRevert (s : State) : Host.Outcome State Fault Refusal :=
  atEdge
    (fun m => m.leaves.cfg.getLsbD 0 && m.standby == some m.pref && m.eligible m.pref && m.leaves.active == some m.pref.other &&
      decide (6000000 ≤ m.leaves.cleanTicks) && m.engine.run.isNone && !m.launchable && m.leaves.releasing.isNone)
    (fun m => { m with leaves := { m.leaves with releasing := some .revert } }) s

/-! ### Self-diagnosis and reports (R416, R419, R420) -/

/-- Items that run on a leaf: bit 3 only on the standby, bit 2 only on the active leaf. -/
def Mod.itemsOf (m : Mod) (i : Side) (items : BitVec 8) : BitVec 8 :=
  if m.leaves.active = some i then items &&& 0xF7 else items &&& 0xFB

/-- A leaf fails items of its self-diagnosis: the active leaf releases the lease where the standby is eligible and records the
failure; the standby's next report is unclean (R416, R419). -/
def Mod.selfFails (m : Mod) (leaf : Side) (items : BitVec 8) : Mod :=
  let it := m.itemsOf leaf items
  if m.leaves.active = some leaf then
    let go := m.eligible leaf.other && m.leaves.releasing.isNone
    let m := if go then { m with leaves := { m.leaves with releasing := some .release, lastItem := it } } else m
    m.record 0x20 (leaf.num + 1)
      (le 1 leaf.num ++ le 1 it.toNat ++ le 1 (b2n go) ++ le 5 0 ++ le 4 (m.leaf leaf).epoch)
  else m.setLeaf leaf fun l => { l with failed := l.failed ||| it }

/-- SELF_DIAGNOSIS_FAILURE (R416). -/
def execSelfDiagnosisFailure (leaf : Side) (items : BitVec 8) (s : State) : Host.Outcome State Fault Refusal :=
  happens (fun m => m.serving leaf && decide (m.itemsOf leaf items ≠ 0)) (fun m => m.selfFails leaf items) s

/-- Items of 09 Table 3 that the state shows, checked on the active leaf every tick: item 2, a sill link of it is down while the
other leaf's is up, and item 6, a function is exhausted (R425). A failure is recorded once; the lease is released as soon as the
standby is eligible. -/
def Mod.checkItems (m : Mod) : Mod :=
  match m.leaves.active with
  | none => m
  | some i =>
    let links := (List.range 8).any fun k => !(m.sill k).linkTo i && (m.sill k).linkTo i.other
    let bad : BitVec 8 := if m.serving i then (if links then 4 else 0) ||| (if m.leaves.exhausted = 0 then 0 else 0x40) else 0
    let new := bad &&& ~~~m.leaves.faults
    let act := decide (new ≠ 0) || (decide (bad ≠ 0) && m.eligible i.other && m.leaves.releasing.isNone)
    let m := { m with leaves := { m.leaves with faults := bad } }
    if act then m.selfFails i bad else m

/-- Links of a leaf to the sills that are up. -/
def Mod.sillLinks (m : Mod) (i : Side) : Nat := maskOf 8 ((List.range 8).filter fun k => (m.sill k).linkTo i)

/-- STANDBY_REPORT (R420, Table 4); unlocked cores fail item 6 (R508). The active leaf receives it while the cross-link is
up. -/
def execStandbyReport (items : BitVec 8) (s : State) : Host.Outcome State Fault Refusal :=
  happens (fun m => m.standby.isSome && decide (m.leaves.reportTick + 10000 ≤ m.tick.now))
    (fun m => match m.standby with
      | none => m
      | some i =>
        let it := m.itemsOf i items ||| (m.leaf i).failed ||| (if m.isUnlocked (1 + i.num) then 0x40 else 0)
        let clean := decide (it = 0)
        let m := if m.leaves.xlinkUp then
            { m with leaves := { m.leaves with
              reportClean := clean, reportSeen := true, reportItems := it, reportTick := m.tick.now
              cleanTicks := if clean then m.leaves.cleanTicks else 0 } }
          else m
        let m := (m.setLeaf i fun l => { l with failed := 0 }).eventIf (fun s => s.link == i) 4
          (le 1 i.num ++ le 1 (b2n clean) ++ le 1 it.toNat ++ le 1 (m.sillLinks i) ++ le 4 (m.leaf i).highest ++
            le 8 m.leaves.cleanTicks)
        if m.sec.fallback = 1 ∧ clean ∧ m.eligible i ∧ m.leaves.releasing.isNone then
          { m with
            sec := { m.sec with fallback := 2 }, leaves := { m.leaves with releasing := some .switch } }
        else m) s

/-- REPORT_MISSING (R420): no report for 2 periods. -/
def execReportMissing (s : State) : Host.Outcome State Fault Refusal :=
  happens (fun m => m.running && m.leaves.reportSeen && decide (m.leaves.reportTick + 20000 ≤ m.tick.now))
    (fun m => { m with leaves := { m.leaves with reportSeen := false, cleanTicks := 0 } }) s

/-! ### The cross-link (R421, R422) -/

/-- The class 5 event of the standby, on its own link. -/
def Mod.crossEvent (m : Mod) (x : Nat) : Mod :=
  match m.standby with
  | some i => m.eventIf (fun s => s.link == i) 5 (le 1 i.num ++ le 1 x ++ le 6 0 ++ le 8 m.tick.count)
  | none => m

/-- CROSS_LINK_DOWN (R421): 4 Guard phases without a valid mirror message. -/
def execCrossLinkDown (s : State) : Host.Outcome State Fault Refusal :=
  happens (fun m => decide (4 ≤ m.leaves.xlinkMiss) && !m.xlinkDown)
    (fun m =>
      { m with leaves := { m.leaves with
        xlinkUp := false, xlinkGood := 0, cleanTicks := 0, causes := m.leaves.causes ||| 8 } }.crossEvent 0) s

/-- CROSS_LINK_UP (R421, R422): after 100 valid messages; `cycles` is the difference that the realignment found. -/
def execCrossLinkUp (cycles : Int) (s : State) : Host.Outcome State Fault Refusal :=
  happens (fun m => m.xlinkDown && decide (100 ≤ m.leaves.xlinkGood))
    (fun m =>
      let m := { m with leaves := { m.leaves with
        xlinkUp := true, xlinkMiss := 0, causes := m.leaves.causes &&& ~~~8 } }
      let m := m.crossEvent 1
      if cycles = 0 then m
      else m.record 0x22 m.origin (le 1 m.worker.other.num ++ le 3 0 ++ le 4 (wrapInt 4 cycles))) s

/-- One Guard phase of the cross-link: a message counts only while both leaves run and neither boots (R421). -/
def Mod.crossTick (m : Mod) (ok : Bool) : Mod :=
  let both := m.serving .a && m.serving .b && m.leaves.active.isSome && m.standby.isSome
  if !both then { m with leaves := { m.leaves with xlinkMiss := 0 } }
  else if ok then
    { m with leaves := { m.leaves with
      xlinkMiss := 0, xlinkGood := m.leaves.xlinkGood + 1, xlinkUp := !m.xlinkDown } }
  else { m with leaves := { m.leaves with xlinkMiss := m.leaves.xlinkMiss + 1, xlinkGood := 0 } }

/-! ### Function reinits (R424, R425) -/

/-- Bounds of 09 Table 7, in ticks. -/
def reinitBound (f : Nat) : Nat := lget 1000 [1000, 20000, 1000, 10000, 1000, 1000] f

/-- Reinits of a function in the last hour. -/
def Mod.reinitsOf (m : Mod) (f : Nat) : Nat :=
  (m.leaves.reinitLog.filter fun (r : Nat × Nat) => r.1 == f && decide (m.tick.now < r.2 + 360000000)).length

/-- Every lane member through held windows is AT_RISK (R128). -/
def Mod.riskLanes (m : Mod) : Mod :=
  (m.engine.members.filter fun x => x.circ.kind == .lane && x.state == .active).foldl
    (fun m x => m.impair x .atRisk 0 (dropWindow x.circ.src x.circ.lane)) m

/-- What a function's work does when it is reinitialised (09 Table 7). -/
def Mod.stopFunction (m : Mod) (f : Nat) : Mod :=
  match f with
  | 0 => m.endRun .reinit
  | 1 => (({ m with trowel := { m.trowel with reinit := true } }).clearTrowel).riskLanes
  | 2 =>
    let m := { m with cal := { m.cal with tests := [], swaps := [], sweeps := [] } }
    match m.cal.waiter with
    | some (w, _, _) => ({ m with cal := { m.cal with waiter := none } }).final w eINTEGRITY plain
    | none => m
  | 3 =>
    match m.mortar.solving with
    | some v => (m.solveOver v).final v.waiter eINTEGRITY plain
    | none => m
  | _ => m

/-- A reinit begins: recorded, counted, and the function's work stops. A third within the hour exhausts the function. -/
def Mod.startReinit (m : Mod) (f : Nat) (w : Option Waiter) : Mod :=
  let m := m.resetRecord m.origin 8 m.worker.num f 0 (m.byteOf m.worker)
  let m := { m with leaves := { m.leaves with
    reinit := m.leaves.reinit ++ [(f, m.tick.now, w)]
    reinitLog := (m.leaves.reinitLog.filter fun (r : Nat × Nat) => decide (m.tick.now < r.2 + 360000000)) ++ [(f, m.tick.now)]
    reinits := m.leaves.reinits + 1 } }
  let m := if 3 ≤ m.reinitsOf f then
      { m with leaves := { m.leaves with exhausted := m.leaves.exhausted ||| BitVec.ofNat 8 (2 ^ f) } } else m
  m.stopFunction f

/-- A reinit of the function is accepted and waits for its boundary. -/
def Mod.reinitDue (m : Mod) (f : Nat) : Bool :=
  m.deferred.any fun d => match d.eff with
    | .reinit g _ => g == f
    | _ => false

/-- FUNCTION_REINIT (R424): it begins at the next boundary (R155). -/
def runFunctionReinit (r : Req) (m : Mod) : Mod :=
  let f := field r.payload 0 1
  if !sized r.payload 1 then malformed r m
  else if 5 < f then refuse r ePARAM (badField 0) m
  else if f = 4 ∧ !m.variant.windows then refuse r eABSENT (badField 0) m
  else if m.reinitOn f ∨ m.reinitDue f then refuse r eBUSY plain m
  else
    let m := pend r m
    { m with deferred := m.deferred ++ [{ eff := .reinit f r.w, reply := none, pkt := none }] }

def execFunctionReinit (p : Packet) (s : State) : Host.Outcome State Fault Refusal := commandM 0xA2 p runFunctionReinit s

/-- FIRMWARE_REINIT (R425): a function's self-check has failed. -/
def execFirmwareReinit (function : Nat) (s : State) : Host.Outcome State Fault Refusal :=
  happens
    (fun m => m.running && decide (function ≤ 5) && (function != 4 || m.variant.windows) && !m.reinitOn function)
    (fun m => m.startReinit function none) s

/-- The end of a reinit. -/
def endReinit (f : Nat) (back : Bool) (m : Mod) : Mod :=
  let w := match m.leaves.reinit.find? fun r => r.1 == f with
    | some r => r.2.2
    | none => none
  let ex := if back then m.leaves.exhausted else m.leaves.exhausted ||| BitVec.ofNat 8 (2 ^ f)
  let m := { m with
    leaves := { m.leaves with
      reinit := m.leaves.reinit.filter fun r => r.1 != f, exhausted := ex
      reinitFails := if back then m.leaves.reinitFails else m.leaves.reinitFails + 1 }
    trowel := if f = 1 then { m.trowel with reinit := false } else m.trowel }
  let m := if f = 1 then m.returnStarts else m
  match w with
  | some w => if back then m.final w stOK [] else m.final w eTIMEOUT plain
  | none =>
    m.record 0x23 m.origin
      (le 1 f ++ le 1 (b2n (!back)) ++ le 1 (sat 0xFF (m.reinitsOf f)) ++ le 1 (b2n (ex.getLsbD f)))

/-- FUNCTION_REINIT_DONE (R424): the function is back within its bound, or the bound has passed. -/
def execFunctionReinitDone (function : Nat) (back : Bool) (s : State) : Host.Outcome State Fault Refusal :=
  happens
    (fun m => match m.leaves.reinit.find? fun r => r.1 == function with
      | some r => if back then decide (m.tick.now ≤ r.2.1 + reinitBound function)
          else decide (r.2.1 + reinitBound function ≤ m.tick.now)
      | none => false)
    (endReinit function back) s

/-! ### SAFE_HOLD (R44) -/

/-- HOLD_RELEASE (R44). -/
def runHoldRelease (r : Req) (m : Mod) : Mod :=
  if r.payload ≠ [] then malformed r m
  else if m.holdNow ≠ 0 ∨ m.leaves.wantHold then refuse r eSAFETY plain m
  else later r .holdRelease m

def execHoldRelease (p : Packet) (s : State) : Host.Outcome State Fault Refusal := commandM 0xA4 p runHoldRelease s

/-- The active leaf's state at a boundary, SAFE_HOLD before everything but a reset (R45, R46). -/
def Mod.stateTick (m : Mod) : Mod :=
  let want := decide (m.holdNow ≠ 0) || m.leaves.wantHold
  let free := m.leaves.holdRelease && !want
  let m := { m with leaves := { m.leaves with wantHold := false, holdRelease := false } }
  match m.leaves.active with
  | none => m
  | some i =>
    let st := (m.leaf i).state
    if !m.serving i then m
    else if st = .safeHold then (if free then (m.setLeaf i fun l => { l with state := m.idleState }).returnStarts else m)
    else if st.isReady ∨ st = .committing then
      if want then m.enterHold i
      else m.setLeaf i fun l => { l with state := if st = .committing then m.normalState else m.idleState }
    else m

/-- DEGRADED_CAUSE at a boundary: a change sends an event of class 1; the active leaf's degraded condition follows (R42,
R435). -/
def Mod.causeTick (m : Mod) : Mod :=
  let c := m.causes
  let old := m.leaves.causesSent
  let m := match m.leaves.active with
    | some i => m.setLeaf i fun l => { l with degraded := decide (c ≠ 0) }
    | none => m
  if c = old then m
  else
    (({ m with leaves := { m.leaves with causesSent := c } }).event 1
      (le 4 c.toNat ++ le 4 (c ^^^ old).toNat)).fire 1

/-- FW_TRIAL_EXPIRY (R493): a fallback while running, on the end of the trial time or the third leaf reset of a trial boot. -/
def fallBackRunning (m : Mod) : Mod :=
  let m := ({ m with sec := { m.sec with mode := 2 } }).fallBack
  match m.leaves.active, m.standby with
  | some i, some j =>
    if j = i.other then (({ m with sec := { m.sec with fallback := 1 } }).askLeafReset j 6) else m
  | some i, none => ({ m with sec := { m.sec with fallback := 0, mode := 0 } }).askLeafReset i 6
  | none, _ => m

def execFwTrialExpiry (s : State) : Host.Outcome State Fault Refusal :=
  happens
    (fun m => m.onTrial && m.leaves.active.isSome && (decide (3 ≤ m.sec.trialResets) || (match m.sec.trialEnd with
      | some t => decide (t ≤ m.tick.now)
      | none => false)))
    fallBackRunning s

end Sys2Proof.Machine
end

