-- ==== Sys2Proof/Machine/Reset.lean ====
section
/-! DEFINITION. Supplies, clocks and resets (R442 – R449, R458 – R463): the inputs and their sequence, loss of VIN54, the
power-on reset, the warm reset, RESET_N and REFCLK, and the steps of a boot. -/

namespace Sys2Proof.Machine

/-! ### Records of the power controller (R445, R446) -/

/-- An interval that could not be timed. -/
def noInterval : Nat := 0xFFFFFFFF

/-- A sequencing violation is recorded; one of the way up holds the module in BOOT. -/
def Mod.violation (m : Mod) (row interval : Nat) (up : Bool) : Mod :=
  ({ m with sup := { m.sup with seq := true, seqHold := m.sup.seqHold || up } }).record 2 0
    (le 1 row ++ le 3 0 ++ le 4 interval)

/-- Loss of VIN54 (R446): the power-loss record, and OFF; what lies in LPDDR6, the lease and the windows are lost. COMMIT_GEN then
reads 0 until the rebuild of R129 sets it: R131 gives it no other reset (DESIGN CHOICE, log 95). -/
def Mod.lossOf (m : Mod) (cause : Nat) : Mod :=
  let m := m.record 1 0
    (le 1 cause ++ [0] ++ le 2 m.sup.volts ++ le 4 0 ++ le 1 m.byte ++ le 7 0 ++ le 4 m.engine.gen.toNat)
  let off (l : LeafSt) : LeafSt := { l with state := .off, resetDue := none, granting := false, stopped := false, epoch := 0, highest := 0 }
  let m := (m.setLeaf .a off).setLeaf .b off
  let m := (m.setLink .a LinkSt.lose).setLink .b LinkSt.lose
  { m with
    sup := { m.sup with rails := false, faultN := true }
    tick := { m.tick with running := false }
    leaves := { m.leaves with resetAt := none, resetNow := false, active := none, everHeld := false, leaseEnded := none, moduleByte := { a := 0, b := 0 } }
    sills := m.sills.map fun _ => Sill.init
    sessions := [], held := [], deferred := []
    engine := .init
    trowel := { m.trowel with loops := [], base := .cold, starts := [], startsNow := [], heater := [] }
    mortar := { m.mortar with jobs := [], solving := none, solves := [] }
    osc := { m.osc with shutters := [], blink := none, frames := [], bodies := [] }
    time := { m.time with sched := [], stopVal := m.aux }
    recs := { m.recs with journal := [], jUp := false }
    keyhole := { m.keyhole with ring := [], seq := 0 } }

/-! ### Rebase (R390, R396) -/

/-- Aux periods per 100,000 ticks: measured, or the nominal 32,768. -/
def Mod.auxRatio (m : Mod) : Int := if 0 < m.time.ratio then m.time.ratio else 32768

/-- The counters that stopped with VIN54 are rebased by the aux time since. -/
def Mod.rebaseTime (m : Mod) : Mod :=
  let gone : Int := m.aux - m.time.stopVal
  let ticks := gone * 100000 / m.auxRatio
  let units := gone * 100000 * tickUnits * ppb9 / m.auxRatio
  let had := m.time.fstate != 0
  { m with
    tick := { m.tick with count := m.tick.count + ticks.toNat, running := true, rebased := m.tick.rebased.put 2 }
    time := { m.time with
      fabric := if had then m.time.fabric + units else m.time.fabric, fstate := 0, everLocked := false, stepFree := true
      host := if m.time.hostSet then m.time.host + units else m.time.host, stopVal := m.aux
      ratioFrom := m.tick.now
      rebased := (m.time.rebased.put (if had then wbit 10 else 0)).put (if m.time.hostSet then wbit 11 else 0) } }

/-! ### Boot of the module -/

/-- The Mortar self-test of a boot: a FAILED course that passes returns, an enabled one that does not leaves (R254); the two lowest
enabled courses are the thermal model's (R260). -/
def Mod.selfTest (m : Mod) (ok : BitVec 16) : Mod :=
  let back := (List.range 16).filter fun c => (m.course c).failed && ok.getLsbD c
  let m := back.foldl (fun m c => m.setCourse c fun k => { k with failed := false }) m
  let m := ((List.range 16).filter fun c => m.enabled c && !ok.getLsbD c).foldl (fun m c => leavesSet c 2 m) m
  m.setReserved (if m.variant.windows then ((List.range 16).filter m.enabled).take 2 else [])

/-- The leaves leave reset and boot: images, self-test, links that may train (R491, R137). -/
def Mod.bootModule (m : Mod) (b : BootIn) : Mod :=
  let go (l : LeafSt) : LeafSt := { l with inReset := l.railsDown }
  let m := (m.bootImages b).selfTest b.coursesOk
  let m := (((m.setLeaf .a go).setLeaf .b go).loadImage .a).loadImage .b
  let train (i : Side) (m : Mod) : Mod :=
    m.setLink i fun l => { l with state := if m.serving i && m.recs.jUp then 1 else 0 }
  train .b (train .a m)

/-- The tick sequencers start, the counters are rebased, and both leaves are in BOOT. -/
def Mod.startLeaves (m : Mod) (b : BootIn) : Mod :=
  let boot (l : LeafSt) : LeafSt := l.afterReset 1 false
  let m := m.rebaseTime
  let m := ((m.setLeaf .a boot).setLeaf .b boot).bootModule b
  { m with leaves := { m.leaves with moduleByte := { a := m.byteOf .a, b := m.byteOf .b } } }

/-! ### Power-on reset (R461) -/

/-- A link at its reset values; what was sent over it has been sent. -/
def LinkSt.cut (l : LinkSt) : LinkSt := { LinkSt.init with wire := l.wire, sent := l.sent }

/-- Calibration after a warm reset: the values and the record of each class's last runs stay. -/
def CalClass.afterReset (c : CalClass) : CalClass :=
  { CalClass.init with
    temps := c.temps, runs := c.runs, rejects := c.rejects, lastAux := c.lastAux, lastTick := c.lastTick, lastTemp := c.lastTemp
    trigger := c.trigger }

/-- Every VIN54 domain at its reset values; the Cornerstone, the flash, the latched elements and the always-on domain keep
theirs. -/
def Mod.wiped (m : Mod) : Mod :=
  { Mod.init with
    variant := m.variant
    tick := { Tick.init with count := m.tick.count, now := m.tick.now, running := false, rebased := m.tick.rebased }
    aux := m.aux, sup := m.sup, nextSid := m.nextSid
    leaves := { Leaves.init with leaf := {
      a := { LeafSt.init with state := .off, causeLast := m.leaves.leaf.a.causeLast, causePrev := m.leaves.leaf.a.causePrev
                              railsDown := m.leaves.leaf.a.railsDown }
      b := { LeafSt.init with state := .off, causeLast := m.leaves.leaf.b.causeLast, causePrev := m.leaves.leaf.b.causePrev
                              railsDown := m.leaves.leaf.b.railsDown } } }
    links := { a := m.links.a.cut, b := m.links.b.cut }
    fabric := { Fabric.init with
      set := m.fabric.set, stuck := m.fabric.stuck, failed := m.fabric.failed, classes := m.fabric.classes }
    mortar := { Mortar.init with
      courses := m.mortar.courses.map fun c => { Course.init with failed := c.failed || c.failing.isSome }
      reserved := if m.variant.windows then (m.mortar.reserved) else [] }
    cal := { Cal.init with
      classes := m.cal.classes.map CalClass.afterReset, taps := m.cal.taps, laneShift := m.cal.laneShift, trim := m.cal.trim
      dacOffset := m.cal.dacOffset, trimTemp := m.cal.trimTemp, chan := m.cal.chan, spare := m.cal.spare }
    osc := { Osc.init with
      lasers := m.osc.lasers.map fun p => (p.1, { p.2 with bias := .empty, monitor := 0 })
      eol := m.osc.eol, fabricId := m.recs.csFabric
      neigh := m.osc.neigh.map fun p => (p.1, { Neigh.init with recorded := p.2.recorded, prev := p.2.prev }) }
    time := { TimeSt.init with
      fabric := m.time.fabric, fstate := m.time.fstate, host := m.time.host, hostSet := m.time.hostSet
      rebased := m.time.rebased, stopVal := m.time.stopVal, ratio := m.time.ratio }
    power := { Power.init with domains := m.power.domains.map fun d => Domain.init d.code }
    sec := { m.sec with cfg := 0 }
    recs := m.recs
    keyhole := { Keyhole.init with seq := m.keyhole.seq }
    felso := Felso.init
    die := { Die.init with quarant := m.die.quarant }
    freeCtr := m.freeCtr }

/-- The power-on reset completes: straps sampled, record written, and where RESET_N is high the leaves start (R461, R462,
R558). -/
def Mod.powerOn (m : Mod) (volts : Nat) (refclk : Bool) (b : BootIn) : Mod :=
  let m := [0, 1, 2, 3].foldl (fun (m : Mod) t => m.relockTarget t 2) m
  let m := m.wiped
  let m := { m with
    sup := { m.sup with
      rails := true, armed := false, volts := volts, slotId := b.slotId
      memsOk := false, memsBad := 0, faultN := m.sup.seqHold }
    leaves := { m.leaves with prefStrap := b.leafPref }
    tick := { m.tick with refclkValid := refclk }
    die := { m.die with channels := (List.range 8).map fun c => if b.channelsOk.getLsbD c then 3 else 2 }
    mortar := { m.mortar with poolMib := 3072 * ((List.range 8).filter b.channelsOk.getLsbD).length } }
  let rcd (m : Mod) : Mod := m.resetRecord 0 1 0xFF 0xFF (b.slotId.toNat + 16 * b2n b.leafPref) 0
  if m.sup.resetN then rcd m
  else
    let m := m.startLeaves b
    rcd m

/-! ### Supply rows (R444 – R447) -/

/-- VAUX_RISE (R461): the always-on reset; inputs that came before are found now (R445). -/
def execVauxRise (dt : Nat) (s : State) : Host.Outcome State Fault Refusal :=
  happens (fun m => !m.sup.vaux)
    (fun m =>
      let us := m.sup.us + dt
      let m := { m with
        aux := 0, tick := { m.tick with count := 0 }
        time := { m.time with stopVal := 0, fstate := 0, hostSet := false, rebased := .clear }
        sup := { m.sup with us := us, vaux := true, vauxAt := us, faultN := true }
        recs := { m.recs with queue := m.recs.queue } }
      let m := m.resetRecord 0 2 0xFF 0xFF 0 0
      let set (l : LeafSt) : LeafSt := { l with causePrev := l.causeLast, causeLast := 2 }
      let m := (m.setLeaf .a set).setLeaf .b set
      let m := if m.sup.vana then m.violation 0 noInterval true else m
      if m.sup.vin54 then m.violation 1 noInterval true else m) s

/-- VAUX_FALL (R445, R447): checked against the hold of R444, and a loss of VIN54 where VIN54 is present. -/
def execVauxFall (dt : Nat) (s : State) : Host.Outcome State Fault Refusal :=
  happens (fun m => m.sup.vaux)
    (fun m =>
      let us := m.sup.us + dt
      let m := { m with sup := { m.sup with us := us } }
      let m := if m.sup.vana ∨ m.sup.vin54 then m.violation 3 noInterval false
        else match m.sup.vanaFellAt with
          | some t => if us < t + 1000 then m.violation 3 (us - t) false else m
          | none => m
      let m := if m.sup.rails then { m.lossOf 2 with sup := { (m.lossOf 2).sup with armed := false } } else m
      { m with sup := { m.sup with vaux := false, faultN := true } }) s

/-- VANA_RISE (R444): timed against VAUX. -/
def execVanaRise (dt : Nat) (s : State) : Host.Outcome State Fault Refusal :=
  happens (fun m => !m.sup.vana)
    (fun m =>
      let us := m.sup.us + dt
      let m := { m with sup := { m.sup with us := us, vana := true, vanaAt := us, vanaFellAt := none } }
      if m.sup.vaux ∧ us < m.sup.vauxAt + 1000 then m.violation 0 (us - m.sup.vauxAt) true else m) s

/-- VANA_FALL (R445). -/
def execVanaFall (dt : Nat) (s : State) : Host.Outcome State Fault Refusal :=
  happens (fun m => m.sup.vana)
    (fun m =>
      let us := m.sup.us + dt
      let m := { m with sup := { m.sup with us := us, vana := false, vanaFellAt := some us } }
      if !m.sup.vaux then m
      else if m.sup.vin54 then
        let m := m.violation 2 noInterval false
        if m.sup.rails then { m.lossOf 1 with sup := { (m.lossOf 1).sup with armed := false } } else m
      else match m.sup.vin54FellAt with
        | some t => if us < t + 1000 then m.violation 2 (us - t) false else m
        | none => m) s

/-- The converters may start at instant `us`: VAUX good, VIN54 above 43.0 V since it last fell below 41.0 V, VANA good for 1.1 ms
(R444). -/
def Mod.mayConvert (m : Mod) (us : Nat) : Bool :=
  m.sup.vaux && m.sup.vana && decide (m.sup.vanaAt + 1100 ≤ us) && m.sup.vin54 && m.sup.armed && !m.sup.rails

/-- VIN54_RISE (R444): VIN54 crosses 43.0 V, or the last of the other conditions has come since; at regulation the power-on
reset completes. `aux` is the aux time that has passed. -/
def execVin54Rise (dt aux volts : Nat) (refclk : Bool) (b : BootIn) (s : State) : Host.Outcome State Fault Refusal :=
  happens (fun m => !m.sup.vin54 || m.mayConvert (m.sup.us + dt))
    (fun m =>
      let early := !m.sup.vin54 && m.sup.vaux && !m.sup.vana
      let m := { m with
        aux := m.aux + aux
        sup := { m.sup with us := m.sup.us + dt, vin54 := true, volts := volts, vin54FellAt := none } }
      let m := if early then m.violation 1 noInterval true else m
      if m.mayConvert m.sup.us then m.powerOn volts refclk b else m) s

/-- VIN54_LOSS (R446): VIN54 below 41.0 V; a later rise may start the converters again. -/
def execVin54Loss (dt volts : Nat) (s : State) : Host.Outcome State Fault Refusal :=
  happens (fun m => m.sup.vin54)
    (fun m =>
      let us := m.sup.us + dt
      let m := { m with sup := { m.sup with us := us, vin54 := false, vin54FellAt := some us, volts := volts } }
      let m := if m.sup.rails then
          let m := { m with sup := { m.sup with seq := false } }
          m.lossOf 0
        else m
      { m with sup := { m.sup with armed := true, seqHold := false } }) s

/-- VIN54_OVERVOLTAGE (R443): every rail off, as loss of VIN54, until VIN54 has fallen below 41.0 V. -/
def execVin54Overvoltage (dt volts : Nat) (s : State) : Host.Outcome State Fault Refusal :=
  happens (fun m => m.sup.vin54 && decide (1200 < volts))
    (fun m =>
      let m := { m with sup := { m.sup with us := m.sup.us + dt, volts := volts } }
      let m := if m.sup.vaux then m.violation 4 noInterval false else m
      let m := if m.sup.rails then m.lossOf 3 else m
      { m with sup := { m.sup with armed := false } }) s

/-! ### Warm reset (R158, R461, R462, R571) -/

/-- A warm reset asked for, to begin at the next boundary. RECOVERY_ENTER prevails over the other causes (R172). -/
def Mod.askReset (m : Mod) (cause : Nat) : Mod :=
  { m with leaves := { m.leaves with resetAt := some (match m.leaves.resetAt with
      | some c => max c cause
      | none => cause) } }

/-- Every command that awaits a final receives one (R158). -/
def Mod.endCommands (m : Mod) : Mod :=
  let m := (m.endNow .reset).dropQueue eINTEGRITY
  let m := m.endLaunches.closeBlink eINTEGRITY plain
  let m := (m.mortar.jobs.filter fun j => j.2.state == .running || j.2.state == .pausing).foldl
    (fun m j => m.endJob j.1 9 0) m
  (m.held.filter fun h => h.final.isNone).foldl (fun m h =>
    m.final { link := h.link, session := h.session, tag := h.tag, opcode := h.opcode, role := h.role } eINTEGRITY plain) m

/-- What a warm reset leaves (R571): each block at its reset values but for what its own rules keep. -/
def Mod.warm (m : Mod) : Mod :=
  let leaves := { Leaves.init with
    leaf := m.leaves.leaf, active := m.leaves.active, cfg := m.leaves.cfg, prefStrap := m.leaves.prefStrap
    causes := m.leaves.causes &&& 2, loopsOut := some m.tick.now, rebuildDue := m.leaves.rebuildDue
    resetAt := none, resetNow := false, moduleByte := m.leaves.moduleByte }
  { m with
    tick := { m.tick with
      ovrSense := 0, ovrCompute := 0, ovrActuate := 0, ovrCommit := 0
      coreA := false, coreB := false }
    leaves := leaves
    links := { a := m.links.a.cut, b := m.links.b.cut }
    sessions := [], deferred := []
    engine := { m.engine with
      plans := m.engine.plans.filter fun p => p.state != .checking, run := none, queue := [], fired := [], retryQ := []
      lastTicks := 0, peakTicks := .zero, lastLaunch := 0, tried := none }
    fabric := { m.fabric with reserve := 0, budget := 1024, stagger := 0, peak := .zero }
    trowel := { Trowel.init with
      loops := m.resetLoops, base := m.trowel.base, bankTemp := m.trowel.bankTemp, heater := m.trowel.heater
      trace := { a := m.trowel.trace.a, b := m.trowel.trace.b } }
    mortar := { Mortar.init with
      courses := m.mortar.courses.map fun c => { Course.init with failed := c.failed || c.failing.isSome }
      jobs := m.mortar.jobs.filter fun j => j.2.state != .verifying
      reserved := m.mortar.reserved, mode := m.mortar.mode, poolMib := m.mortar.poolMib, temp := m.mortar.temp }
    cal := { Cal.init with
      classes := m.cal.classes.map CalClass.afterReset, taps := m.cal.taps, laneShift := m.cal.laneShift
      trim := m.cal.trim, dacOffset := m.cal.dacOffset, trimTemp := m.cal.trimTemp, chan := m.cal.chan, spare := m.cal.spare }
    osc := { m.osc with
      spareAt := 0x55, pulses := 0, failed := 0, corrected := 0, bodies := [], frames := [], blink := none
      neigh := m.osc.neigh.map fun p => (p.1, { Neigh.init with recorded := p.2.recorded, prev := p.2.prev }) }
    power := { Power.init with
      domains := m.power.domains.map fun d => Domain.init d.code, cfg := m.power.cfg, meter := m.power.meter }
    keyhole := { Keyhole.init with ring := m.keyhole.ring, seq := m.keyhole.seq }
    felso := Felso.init
    die := { m.die with downs := 0, checkFails := 0, media := 0, quarCount := 0, corrected := 0, chErr := [], jobs := .empty } }

/-- WARM_RESET_START (R461): the replies that are ready leave (R172), pending commands end as in the last tick before the reset, their finals held since every session closes
(R151, R158, R570), the record is written, and the leaves, Mortar and the lintel controllers
reset; the leaves boot at once unless RESET_N holds them. -/
def warmReset (cause : Nat) (b : BootIn) (m : Mod) : Mod :=
  let n := m.tick.count
  let m := (m.pump .a).pump .b
  let m := ({ m with sessions := [], tick := { m.tick with count := n - 1 } }).endCommands
  let m := ({ m with tick := { m.tick with count := n } }).resetRecord 0 cause 0xFF 0xFF 0 m.byte
  let m := [0, 1, 2, 3].foldl (fun (m : Mod) t => m.relockTarget t 2) m
  let m := (m.interruptTrace .a).interruptTrace .b
  let m := m.warm
  let boot (l : LeafSt) : LeafSt :=
    { l.afterReset cause true with toRecovery := decide (cause = 5), bootReads := false }
  let m := (m.setLeaf .a boot).setLeaf .b boot
  let m := if m.sup.resetN then m else m.bootModule b
  { m with leaves := { m.leaves with moduleByte := { a := m.byteOf .a, b := m.byteOf .b } } }

def execWarmResetStart (b : BootIn) (s : State) : Host.Outcome State Fault Refusal :=
  match s.cur.leaves.resetAt with
  | some c =>
    if s.cur.tick.running ∧ s.cur.leaves.resetNow then
      let m := warmReset c b s.cur
      .next { s with cur := m, snap := m, mirror := m }
    else .next s
  | none => .next s

/-- The OK reply of WARM_RESET and RECOVERY_ENTER leaves before the reset (R172). -/
def runReset (confirm cause : Nat) (r : Req) (m : Mod) : Mod :=
  if !sized r.payload 4 then malformed r m
  else if field r.payload 0 4 ≠ confirm then refuse r ePARAM (badField 0) m
  else
    let m := answer r stOK [] m
    { m with deferred := m.deferred ++ [{ eff := .warmReset cause, reply := none, pkt := none }] }

def execWarmReset (p : Packet) (s : State) : Host.Outcome State Fault Refusal := commandM 0xA3 p (runReset 0x5741524D 4) s

def execRecoveryEnter (p : Packet) (s : State) : Host.Outcome State Fault Refusal :=
  commandM 0xA6 p (runReset 0x52454356 5) s

/-- RESET_N_ASSERT (R462): a low pulse of 2 µs or more is a warm reset, and RESET_N is held until its release; one of 1 µs to
2 µs is taken or not (`taken`). -/
def execResetNAssert (lowNs : Nat) (taken : Bool) (s : State) : Host.Outcome State Fault Refusal :=
  happens (fun m => m.sup.vaux && !m.sup.resetN && decide (1000 ≤ lowNs) && (taken || decide (2000 ≤ lowNs)))
    (fun m =>
      let m := { m with sup := { m.sup with resetN := decide (2000 ≤ lowNs) } }
      if m.tick.running then m.askReset 3 else m) s

/-- RESET_N_RELEASE (R462): boot starts; where the rails came up with RESET_N low the tick sequencers start and TICK_COUNT is
rebased. -/
def execResetNRelease (aux : Nat) (b : BootIn) (s : State) : Host.Outcome State Fault Refusal :=
  happens (fun m => m.sup.resetN)
    (fun m =>
      let m := { m with sup := { m.sup with resetN := false } }
      if m.leaves.resetAt.isSome ∨ !m.sup.rails then m
      else if !m.tick.running then ({ m with aux := m.aux + aux }).startLeaves b
      else
        let m := m.bootModule b
        { m with leaves := { m.leaves with moduleByte := { a := m.byteOf .a, b := m.byteOf .b } } }) s

/-! ### Steps of a boot -/

/-- JOURNAL_RESTART (R497): the channels have trained, the SEQ mark is read; then the links may train. -/
def execJournalRestart (s : State) : Host.Outcome State Fault Refusal :=
  happens (fun m => m.tick.running && !m.recs.jUp)
    (fun m =>
      let ch := m.die.channels.map fun c => if c = 3 then 0 else c
      let seq := m.recs.jMark + 65536
      let m := { m with
        die := { m.die with channels := ch, rate := if ch.any (· == 0) then 10667 else 0 }
        recs := { m.recs with jSeq := seq, jMark := seq, jUp := true } }
      let m := m.journalInternal 4 0 0 none
      let train (i : Side) (m : Mod) : Mod := m.setLink i fun l => { l with state := b2n (m.serving i) }
      train .b (train .a m)) s

/-- BOOT_READBACK (R71, R129, R206): the fabric is read back and every loop restarts; after loss of VIN54 the committed set is
rebuilt and the windows start toward their park points, 32 a tick on each tile. -/
def execBootReadback (s : State) : Host.Outcome State Fault Refusal :=
  happens
    (fun m => m.tick.running && [Side.a, Side.b].any fun i => m.serving i && (m.leaf i).state == .boot && !(m.leaf i).bootReads)
    (fun m =>
      let m := if m.leaves.rebuildDue then m.rebuild.restartLoops.parkAll else m.restartLoops
      let read (l : LeafSt) : LeafSt := { l with bootReads := true }
      let m := (m.setLeaf .a read).setLeaf .b read
      { m with
        leaves := { m.leaves with rebuildDue := false }, trowel := { m.trowel with calibrated := true } }) s

/-! ### REFCLK (R31, R458) -/

/-- CLOCK_MOVE (R458): REFCLK has been valid for 1,000 consecutive ticks; the cores move to it, and at this boundary the tick. -/
def execClockMove (s : State) : Host.Outcome State Fault Refusal :=
  atEdge
    (fun m => decide (1000 ≤ m.tick.refRun) && !m.leaves.causes.getLsbD 1 &&
      ((m.serving .a && !m.tick.coreA) || (m.serving .b && !m.tick.coreB)))
    (fun m => { m with tick := { m.tick with
      src := false, refclkValid := true, coreA := m.serving .a, coreB := m.serving .b } }) s

/-- A leaf has left BOOT since the last module reset. -/
def Mod.leftBoot (m : Mod) : Bool :=
  [Side.a, Side.b].any fun i => m.serving i && (m.leaf i).state != .boot && (m.leaf i).state != .recovery

/-- REFCLK_LOSS (R31): REFCLK is not valid in this tick, so its run of valid ticks starts anew; after BOOT the tick holds over on
the internal oscillator. -/
def execRefclkLoss (s : State) : Host.Outcome State Fault Refusal :=
  happens (fun m => m.tick.running)
    (fun m =>
      let m := { m with tick := { m.tick with refclkValid := false, src := true, refRun := 0 } }
      if m.leftBoot then { m with leaves := { m.leaves with causes := m.leaves.causes ||| 2 } }
      else { m with tick := { m.tick with coreA := false, coreB := false } }) s

/-- REFCLK_RETURN (R31): at a boundary, once REFCLK has been valid for 1,000 consecutive ticks. -/
def execRefclkReturn (s : State) : Host.Outcome State Fault Refusal :=
  atEdge (fun m => decide (1000 ≤ m.tick.refRun) && m.leaves.causes.getLsbD 1)
    (fun m => { m with
      tick := { m.tick with refclkValid := true, src := false, coreA := m.serving .a, coreB := m.serving .b }
      leaves := { m.leaves with causes := m.leaves.causes &&& ~~~2 } }) s

end Sys2Proof.Machine
end

