-- ==== Sys2Proof/Machine/Fabric.lean ====
section
/-! DEFINITION. Sills, the MEMS rail, tile temperature and the safety interlock (R83, R90, R127, R346, R449, R563, R569): what
their failure and return do. -/

namespace Sys2Proof.Machine

/-! ### Sill links (R90) -/

def Sill.setLink (k : Sill) (i : Side) (up : Bool) : Sill :=
  match i with
  | .a => { k with linkA := up }
  | .b => { k with linkB := up }

/-- SILL_LINK_DOWN (R90). -/
def execSillLinkDown (sill : Nat) (leaf : Side) (s : State) : Host.Outcome State Fault Refusal :=
  happens (fun m => m.tick.running && decide (sill < 8) && (m.sill sill).linkTo leaf)
    (fun m => m.setSill sill fun k => k.setLink leaf false) s

/-- SILL_LINK_RESTORED (R90). -/
def execSillLinkRestored (sill : Nat) (leaf : Side) (s : State) : Host.Outcome State Fault Refusal :=
  happens (fun m => m.tick.running && decide (sill < 8) && !(m.sill sill).linkTo leaf)
    (fun m => m.setSill sill fun k => k.setLink leaf true) s

/-! ### Moves that a lost sill will not report (R569) -/

/-- An element of the sill whose move has not been read back. -/
def Mod.unread (m : Mod) (sill : Nat) (e : Elem) : Bool := decide (sillOfBrick e.brick = sill) && m.inFlight e

/-- What becomes of one item whose moves on the sill are not read back, or cannot fire any more. -/
def Mod.settleItem (m : Mod) (sill : Nat) (i : Item) : Mod × Item :=
  let here (e : Elem) : Bool :=
    m.unread sill e || (!i.done.isEmpty && !i.done.contains e && decide (sillOfBrick e.brick = sill))
  let outer (e : Elem) : Bool := !isMiddleTile (tileOfBrick e.brick)
  let atWork := match i.prog with
    | .fired _ => true
    | .waiting => !i.done.isEmpty
    | _ => false
  if !atWork then (m, i)
  else match i.change with
    | .remove =>
      if i.clears.any fun e => here e && outer e then (m.turnBack i, { i with prog := .notCleared })
      else (m, { i with clears := i.clears.filter fun e => !here e })
    | .add => if (i.clears ++ i.sets).any here then m.notMade i else (m, i)
    | .move =>
      if i.sets.any here || (i.clears.any fun e => here e && outer e) then m.notMade i
      else (m, { i with clears := i.clears.filter fun e => !here e })

/-- The engine sends a lost sill nothing further, and settles what it had sent. -/
def Mod.settleMoves (m : Mod) (sill : Nat) : Mod :=
  let away (e : Elem) : Bool := decide (sillOfBrick e.brick = sill)
  let m := match m.engine.run with
    | none => m
    | some r =>
      let p := r.items.foldl (fun (p : Mod × Running) i =>
        let q := p.1.settleItem sill i
        (q.1, p.2.put q.2)) (m, r)
      p.1.setRun { p.2 with
        batchMoves := p.2.batchMoves.filter fun x => !away x.1
        batchRetry := p.2.batchRetry.filter fun x => !away x.1 }
  { m with engine := { m.engine with
      fired := m.engine.fired.filter fun f => !away f.elem
      retryQ := m.engine.retryQ.filter fun x => !away x.1 } }

/-! ### Loss and return of a sill -/

/-- Every lane member through a window of the sill is impaired. -/
def Mod.impairSill (m : Mod) (sill : Nat) (st : CState) (cause : Nat) : Mod :=
  m.engine.members.foldl (fun m x =>
    match x.circ.windows.find? fun w => sillOfWindow w == sill with
    | some w => m.impair x st cause w
    | none => m) m

/-- SILL_LOST (R569): its Sense sets failed on both links for 3 ticks. -/
def execSillLost (sill : Nat) (s : State) : Host.Outcome State Fault Refusal :=
  happens (fun m => m.running && decide (sill < 8) && !(m.sill sill).away && decide (3 ≤ (m.sill sill).silent))
    (fun m => ((m.setSill sill fun k => { k with lost := true }).settleMoves sill).impairSill sill .atRisk 0) s

/-- SILL_POWER_LOSS (R83): its windows relax to COLD, and the lane circuits through them are lost. -/
def execSillPowerLoss (sill : Nat) (s : State) : Host.Outcome State Fault Refusal :=
  happens (fun m => m.tick.running && decide (sill < 8) && (m.sill sill).powered)
    (fun m =>
      let m := { m with trowel := { m.trowel with heater := m.trowel.heater.filter fun h => !(decide (h.1 < 7616) && decide (sillOfWindow h.1 = sill)) } }
      ((m.setSill sill fun k => { k with powered := false }).settleMoves sill).impairSill sill .lost 3) s

/-- The fitted windows of a sill. -/
def Mod.sillWindows (m : Mod) (sill : Nat) : List Nat :=
  (List.range m.variant.windowCount).filter fun w => decide (sillOfWindow w = sill)

/-- The target of a window whose sill returns with its power held: what a running plan gives it, else the committed set (R83). -/
def Mod.heldTarget (m : Mod) (w : Nat) : Int :=
  if m.engine.plans.any fun p => p.state == .running && (planCircuits p).any fun c => c.windows.contains w then lockTarget
  else m.homeTarget w

/-- The windows of a sill that returns: parked from COLD where it had lost power, back to automatic from HOLD where not (R83,
R204); a window of a bank that is OFF stays COLD. -/
def Mod.returnWindows (m : Mod) (sill : Nat) (cold : Bool) : Mod :=
  let ws := (m.sillWindows sill).filter fun w => !m.bankOff w
  if cold then m.fromCold ws
  else (ws.filter fun w => (m.loop w).mode == .auto && (m.loop w).wstate != .cold).foldl
    (fun m w => (m.setLoop w fun l => { l with preset := true }).requestStart
      { window := w, target := m.heldTarget w, mode := .auto, out := none }) m

/-- Members whose path is found incomplete on the bricks of the sill are LOST, cause 4 (R569). -/
def Mod.breakPaths (m : Mod) (sill : Nat) : Mod :=
  (m.engine.members.filter fun x => x.state != .making && x.state != .breaking &&
      x.path.any fun e => decide (sillOfBrick e.brick = sill) && !m.fabric.set.contains e).foldl
    (fun m x => m.impair x .lost 4 0xFFFFFFFF) m

/-- SILL_RETURN (R83, R127): read back, its members and orphans settled, its windows parked or relocked. -/
def execSillReturn (sill : Nat) (s : State) : Host.Outcome State Fault Refusal :=
  happens
    (fun m => m.running && decide (sill < 8) && (m.sill sill).away && ((m.sill sill).linkA || (m.sill sill).linkB))
    (fun m =>
      let cold := !(m.sill sill).powered
      let m := m.setSill sill fun k => { k with lost := false, powered := true, silent := 0 }
      let m := (m.breakPaths sill).returnWindows sill cold
      { m with fabric := { m.fabric with
          owed := m.orphans.filter fun e => decide (sillOfBrick e.brick = sill) || m.fabric.owed.contains e } }) s

/-! ### Causes of SAFE_HOLD (R43, R436) -/

/-- The live causes of SAFE_HOLD set their sticky copies. -/
def Mod.seeHold (m : Mod) : Mod :=
  { m with leaves := { m.leaves with holdSeen := m.leaves.holdSeen.put (m.holdNow.zeroExtend 32) } }

/-- A cause of SAFE_HOLD has come: the state is entered at the next boundary (R45). -/
def Mod.wantSafe (m : Mod) : Mod := { m with leaves := { m.leaves with wantHold := true } }.seeHold

/-- MEMS_RAIL_FAULT (R449). -/
def execMemsRailFault (s : State) : Host.Outcome State Fault Refusal :=
  happens (fun m => m.tick.running && decide (2 ≤ m.sup.memsBad)) Mod.wantSafe s

/-- TILE_OVER_TEMPERATURE (R563). -/
def execTileOverTemperature (tile : Nat) (s : State) : Host.Outcome State Fault Refusal :=
  happens (fun m => m.tick.running && decide (tile < 68) && decide (2 ≤ aget 0 m.fabric.tileHot tile))
    (fun m => { m with fabric := { m.fabric with tileOver := insertNew tile m.fabric.tileOver } }.wantSafe) s

/-- SAFETY_INTERLOCK_ASSERT (R346): every shutter closes, and the module enters SAFE_HOLD. -/
def execSafetyInterlockAssert (s : State) : Host.Outcome State Fault Refusal :=
  happens (fun m => !m.sup.interlock)
    (fun m => ({ m with sup := { m.sup with interlock := true } }.closeAll).wantSafe) s

/-- SAFETY_INTERLOCK_RELEASE (R346). -/
def execSafetyInterlockRelease (s : State) : Host.Outcome State Fault Refusal :=
  happens (fun m => m.sup.interlock) (fun m => { m with sup := { m.sup with interlock := false } }) s

end Sys2Proof.Machine
end

