-- ==== Sys2Proof/Machine/Links.lean ====
section
/-! DEFINITION. The Zudin links (R137 – R144, R151, R160, R164): frames, replay, going down and retraining, credit, and what
runs out with time. -/

namespace Sys2Proof

/-! ### The fields of a link frame (04 Table 1) -/

def LinkFrame.at_ (f : LinkFrame) (off n : Nat) : Nat := Machine.field f.bytes off n
def LinkFrame.ftype (f : LinkFrame) : Nat := f.at_ 0 1
def LinkFrame.sop (f : LinkFrame) : Bool := (f.at_ 1 1).testBit 0
def LinkFrame.eop (f : LinkFrame) : Bool := (f.at_ 1 1).testBit 1
def LinkFrame.nak (f : LinkFrame) : Bool := (f.at_ 1 1).testBit 2
def LinkFrame.seq (f : LinkFrame) : BitVec 12 := BitVec.ofNat 12 (f.at_ 2 2)
def LinkFrame.ack (f : LinkFrame) : BitVec 12 := BitVec.ofNat 12 (f.at_ 4 2)
def LinkFrame.pktCredit (f : LinkFrame) : Nat := f.at_ 6 1
def LinkFrame.byteCredit (f : LinkFrame) : Nat := f.at_ 8 2
def LinkFrame.data (f : LinkFrame) : List Byte := Machine.slice f.bytes 12 240

/-- The FCRC passes: CRC-32C over bytes 0 – 251. -/
def LinkFrame.fcrcOk (f : LinkFrame) : Bool := f.at_ 252 4 == (Machine.crc32c (f.bytes.take 252)).toNat

end Sys2Proof

namespace Sys2Proof.Machine

/-- Packet and payload credit that each end grants the other (R163). -/
def pktGrant : Nat := 64
def byteGrant : Nat := 262144

/-- DOWN (R140): what was not acknowledged and what was partly received is gone, and retraining begins. -/
def LinkSt.goDown (l : LinkSt) (now : Nat) : LinkSt :=
  { l with
    state := 1, downs := l.downs + 1, unacked := [], partialRx := [], nakDue := false, failReplay := 0
    idleTicks := 0, downTick := some now, pktCredit := 0, byteCredit := 0, owedPkts := 0, owedBytes := 0 }

/-- The module finds that the link must retrain, and sends a retrain request (04 Table 1) as the link goes DOWN (DEDUCED, log 98). -/
def LinkSt.retrain (l : LinkSt) (now : Nat) : LinkSt :=
  ({ l with wire := l.wire ++ [frameBytes 3 0 0 l.rxAck.toNat 0 0 []] }).goDown now

/-- The link comes UP: each end has its full credit, and data frames number from 1 (DESIGN CHOICE, log 16). -/
def LinkSt.goUp (l : LinkSt) : LinkSt :=
  { l with
    state := 2, downTick := none, idleTicks := 0, txSeq := 1, rxAck := 0, unacked := [], partialRx := []
    pktCredit := pktGrant, byteCredit := byteGrant, owedPkts := 0, owedBytes := 0 }

/-- Data frames up to and with ACK are acknowledged. -/
def LinkSt.takeAck (l : LinkSt) (ack : BitVec 12) : LinkSt :=
  match l.unacked.findIdx? fun f => f.seq == ack with
  | some k => { l with unacked := l.unacked.drop (k + 1), failReplay := 0 }
  | none => l

/-- A NAK: every data frame after the one acknowledged is sent again (R139); where the first of them has failed 8 replays the link
goes DOWN (R140). -/
def LinkSt.replay (l : LinkSt) (now : Nat) : LinkSt :=
  let n := l.unacked.length
  if n = 0 then l
  else if 8 ≤ l.failReplay then l.retrain now
  else { l with
    replays := l.replays + n, failReplay := l.failReplay + 1, tx := l.tx.add now n
    wire := l.wire ++ l.unacked.map fun x => x.bytes l.rxAck }

/-- Credit returned by host software. -/
def LinkSt.takeCredit (l : LinkSt) (pkts bytes8 : Nat) : LinkSt :=
  { l with pktCredit := min pktGrant (l.pktCredit + pkts), byteCredit := min byteGrant (l.byteCredit + 8 * bytes8) }

/-- A packet as its header's LEN8 bounds it: the bytes after it in its last frame are padding. -/
def wholePacket (bs : List Byte) : List Byte := bs.take (32 + 8 * field bs 12 2)

/-- A data frame: taken in order and acknowledged, a packet being whole at EOP; one already taken is acknowledged again; one ahead
of its turn is answered with NAK once (log 98). -/
def LinkSt.takeData (l : LinkSt) (now : Nat) (f : LinkFrame) : LinkSt :=
  if f.seq = l.rxAck + 1 then
    let bs := if f.sop then f.data else l.partialRx ++ f.data
    ({ l with
      rxAck := f.seq, nakDue := false, rx := l.rx.add now 1, partialRx := if f.eop then [] else bs
      received := if f.eop then l.received ++ [wholePacket bs] else l.received } : LinkSt).control false 0 0
  else if (l.rxAck - f.seq).toNat < 2048 then l.control false 0 0
  else if l.nakDue then l
  else ({ l with nakDue := true } : LinkSt).control true 0 0

/-- LINK_FRAME_RX (R138 – R140): a frame whose FCRC fails is dropped and answered with NAK; reserved frame types carry nothing. -/
def LinkSt.frame (l : LinkSt) (now : Nat) (f : LinkFrame) : LinkSt :=
  if !f.fcrcOk then ({ l with nakDue := true } : LinkSt).control true 0 0
  else if 4 ≤ f.ftype then { l with idleTicks := 0 }
  else
    let l := ({ l with idleTicks := 0 }.takeAck f.ack).takeCredit f.pktCredit f.byteCredit
    if f.ftype = 3 then l.goDown now
    else
      let l := if f.nak then l.replay now else l
      if l.state = 2 ∧ f.ftype = 1 then l.takeData now f else l

/-- A link is UP with its leaf running. -/
def Mod.linkUp (m : Mod) (i : Side) : Bool := m.serving i && decide ((m.link i).state = 2)

def execLinkFrameRx (link : Side) (f : LinkFrame) (s : State) : Host.Outcome State Fault Refusal :=
  happens (fun m => m.linkUp link)
    (fun m =>
      let l := m.link link
      let n := l.frame m.tick.now f
      { m.setLink link fun _ => n with leaves := { m.leaves with retries := m.leaves.retries + (n.replays - l.replays) } }) s

/-- The CRC of a packet received passes: CRC-32C over bytes 0 – 27 and the payload (04 Table 2). -/
def packetCrcOk (bs : List Byte) : Bool :=
  field bs 28 4 == (crc32c (bs.take 28 ++ bs.drop 32)).toNat && decide (bs.length = 32 + 8 * field bs 12 2)

/-- The packet at the front of the receive buffer is to be discarded; with none there, the row is of a packet whose frames are not
shown (log 98). -/
def LinkSt.mustDiscard (l : LinkSt) : Bool :=
  match l.received with
  | [] => true
  | b :: _ => !packetCrcOk b || l.noCredit (b.length - 32)

/-- PACKET_DISCARD (R144, R165): without a reply, and counted. -/
def execPacketDiscard (link : Side) (s : State) : Host.Outcome State Fault Refusal :=
  happens (fun m => m.linkUp link && (m.link link).mustDiscard)
    (fun m => (m.discard link).setLink link fun l => { l with received := l.received.tail }) s

/-- LINK_DOWN_TIMEOUT (R140): no valid frame for 10 ticks. -/
def execLinkDownTimeout (link : Side) (s : State) : Host.Outcome State Fault Refusal :=
  happens (fun m => m.linkUp link && decide (10 ≤ (m.link link).idleTicks))
    (fun m => m.setLink link fun l => l.retrain m.tick.now) s

/-- RETRAIN_COMPLETE (R140). -/
def execRetrainComplete (link : Side) (s : State) : Host.Outcome State Fault Refusal :=
  happens (fun m => m.serving link && decide ((m.link link).state = 1)) (fun m => m.setLink link LinkSt.goUp) s

/-- SESSION_LINK_TIMEOUT (R151): its link has been DOWN for 1 s. -/
def execSessionLinkTimeout (link : Side) (session : Word) (s : State) : Host.Outcome State Fault Refusal :=
  happens
    (fun m => m.isOpen link session && decide ((m.link link).state ≠ 2) && (match (m.link link).downTick with
      | some t => decide (t + 100000 ≤ m.tick.now)
      | none => false))
    (fun m => m.closeSessions fun t => t.link == link && t.id == session) s

/-- AUTH_BACKOFF_END (R149). -/
def execAuthBackoffEnd (link : Side) (s : State) : Host.Outcome State Fault Refusal :=
  happens
    (fun m => match (m.link link).backoff with
      | some t => decide (t ≤ m.tick.now)
      | none => false)
    (fun m => m.setLink link fun l => { l with backoff := none }) s

/-- The packet that waits first can leave. -/
def Mod.creditWaits (m : Mod) (i : Side) : Bool :=
  m.serving i && !m.settling && (match (m.link i).waiting with
    | p :: _ => (m.link i).canSend p.payload.length
    | [] => false)

/-- Withheld command credit goes back (R163, R164). -/
def LinkSt.giveBack (l : LinkSt) : LinkSt :=
  if l.owedPkts = 0 ∧ l.owedBytes = 0 then l
  else ({ l with owedPkts := 0, owedBytes := 0 } : LinkSt).control false l.owedPkts l.owedBytes

/-- Send the packet that waits first; withheld command credit returns once fewer than 1,024 wait. -/
def Mod.sendWaiting (m : Mod) (i : Side) : Mod :=
  match (m.link i).waiting with
  | [] => m
  | p :: t =>
    ((m.setLink i fun l => { l with waiting := t }).sendNow i p).setLink i fun l =>
      if l.waiting.length < 1024 then l.giveBack else l

/-- CREDITED_SEND (R164). -/
def execCreditedSend (link : Side) (s : State) : Host.Outcome State Fault Refusal :=
  happens (fun m => m.creditWaits link) (fun m => m.sendWaiting link) s

/-- RESULT_EXPIRY (R160): 10 s after the result became ready. -/
def execResultExpiry (link : Side) (session : Word) (tag : BitVec 16) (s : State) : Host.Outcome State Fault Refusal :=
  happens
    (fun m => m.held.any fun h =>
      h.link == link && h.session == session && h.tag == tag && h.final.isSome && decide (h.ready + 1000000 ≤ m.tick.now))
    (fun m => m.forget link session tag) s

end Sys2Proof.Machine
end

