-- ==== Sys2Proof/Machine/Die.lean ====
section
/-! DEFINITION. Die-to-die links, the scrub of the context store and LPDDR6 channels (R427 – R429, R539 – R543). -/

namespace Sys2Proof.Machine

/-! ### Die-to-die links (R539 – R541) -/

/-- DIE_LINK_DOWN: its retries failed on 3 consecutive ticks; it is retrained at once. -/
def execDieLinkDown (link checkFails : Nat) (s : State) : Host.Outcome State Fault Refusal :=
  happens (fun m => m.tick.running && decide (link < 12) && m.die.up.getLsbD link)
    (fun m => { m with
      leaves := { m.leaves with retries := m.leaves.retries + checkFails }
      die := { m.die with
        up := m.die.up &&& ~~~(BitVec.ofNat 12 (2 ^ link)), downs := m.die.downs + 1
        checkFails := m.die.checkFails + checkFails, retrain := insertNew link m.die.retrain } }) s

/-- DIE_LINK_UP. -/
def execDieLinkUp (link : Nat) (s : State) : Host.Outcome State Fault Refusal :=
  happens (fun m => m.tick.running && m.die.retrain.contains link)
    (fun m => { m with die := { m.die with
      up := m.die.up ||| BitVec.ofNat 12 (2 ^ link), retrain := m.die.retrain.filter fun k => k != link } }) s

/-! ### The context store (R94, R427, R428) -/

/-- The channel of a copy of a context: copy A (0) on lintel 0, copy B on lintel 1. -/
def copyChannel (ctx copy : Nat) : Nat := if copy = 0 then ctx % 4 else 4 + (ctx + 2) % 4

/-- A channel that serves. -/
def Mod.channelOk (m : Mod) (ch : Nat) : Bool := lget 0 m.die.channels ch != 2

/-- The context is held by a member or a plan. -/
def Mod.contextUsed (m : Mod) (ctx : Nat) : Bool :=
  (m.engine.members.any fun x => x.ctx == ctx) || m.engine.plans.any fun p => p.ctxs.contains ctx

/-- Both copies of a record are bad: a member is rebuilt from readback, a plan that holds it is damaged (R428). -/
def Mod.rebuildRecord (m : Mod) (ctx : Nat) : Mod :=
  { m with engine := { m.engine with
      members := m.engine.members.map fun x =>
        if x.ctx = ctx then { x with recovered := true, planId := 0, jobTag := 0 } else x
      plans := m.engine.plans.map fun p =>
        if (p.state = .staged ∨ p.state = .queued) ∧ p.ctxs.contains ctx then { p with damaged := true } else p } }

/-- A bad copy found by the scrub: its location enters the channel's quarantine map and a record is written; the copy is
derived again from the other, where that is good. -/
def Mod.badCopy (m : Mod) (other : Bool) (ctx copy : Nat) : Mod :=
  let ch := copyChannel ctx copy
  let n := min 1024 (aget 0 m.die.quarant ch + 1)
  let m := { m with die := { m.die with
    quarant := aput m.die.quarant ch n, quarCount := m.die.quarCount + 1
    corrected := if other then m.die.corrected else m.die.corrected + 1
    chErr := amod (0, 0) m.die.chErr ch fun e => (e.1, e.2 + 1) } }
  let m := m.record 0x50 m.origin
    (le 1 ch ++ [1, 0, 0] ++ le 8 (Config.openReading 0x50 (2 * ctx + copy)) ++
      le 4 (if m.contextUsed ctx then ctx else 0xFFFFFFFF) ++ le 2 n ++ le 1 (b2n other))
  if other then m.rebuildRecord ctx else m

/-- The copies that a scrub finds bad, on channels that serve and that a leaf reaches over a memory port (R25). -/
def Mod.scrubAll (m : Mod) (bad : List (Nat × Nat)) : Mod :=
  let l := bad.filter fun p => decide (p.1 < 1048576) && decide (p.2 < 2) && m.channelOk (copyChannel p.1 p.2) &&
    m.memPort (copyChannel p.1 p.2 / 4)
  l.foldl (fun m p => m.badCopy (l.contains (p.1, 1 - p.2) || !m.channelOk (copyChannel p.1 (1 - p.2))) p.1 p.2) m

/-- SCRUB (R427): `bad` lists context and copy. -/
def execScrub (bad : List (Nat × Nat)) (s : State) : Host.Outcome State Fault Refusal :=
  happens (fun m => m.tick.running && m.recs.jUp) (fun m => m.scrubAll bad) s

/-- A job that has data in LPDDR6. Where its region lies is not stated: the free value says whether it reaches a channel's
share. -/
def Mod.inShare (m : Mod) (slot : Nat) (j : Job) : Bool :=
  (j.state == .running || j.state == .pausing || j.state == .paused) && decide (0 < j.lpddrMib) &&
    decide (Config.freeNat (m.freeCtr + slot) % 2 = 1)

/-- CHANNEL_FAILURE (R429): the store runs on one copy, and the job pool loses the channel's share; records whose other copy lay on
a FAILED channel have none left (R428). -/
def execChannelFailure (channel : Nat) (s : State) : Host.Outcome State Fault Refusal :=
  happens (fun m => m.tick.running && decide (channel < 8) && m.channelOk channel)
    (fun m =>
      let hit := m.mortar.jobs.filter fun j => m.inShare j.1 j.2
      let ctxs := (m.engine.members.map fun x => x.ctx) ++ m.engine.plans.flatMap fun p => p.ctxs
      let m := { m.useFree 8 with
        die := { m.die with channels := lmod m.die.channels channel fun _ => 2 }
        mortar := { m.mortar with poolMib := m.mortar.poolMib - 3072 } }
      let gone := ctxs.dedup.filter fun c => !m.channelOk (copyChannel c 0) && !m.channelOk (copyChannel c 1)
      hit.foldl (fun m j => (m.endJob j.1 7 0)) (gone.foldl Mod.rebuildRecord m)) s

end Sys2Proof.Machine
end

