-- ==== Sys2Proof/Machine/Registers.lean ====
section
/-! DEFINITION. The register file (R17 – R24, R523 – R530): what every register reads, what a write may set and does, the
groups and their latches, RC fields, and the commands REG_READ and REG_WRITE with the rows of the single registers. -/

namespace Sys2Proof.Machine

/-! ### What registers read, block by block -/

/-- Bits [31:0] and [63:32] of a 64-bit value. -/
def loWord (n : Nat) : Word := BitVec.ofNat 32 n
def hiWord (n : Nat) : Word := BitVec.ofNat 32 (n / 4294967296)

/-- A signed value that saturates at 32 bits. -/
def satWord (x : Int) : Word := BitVec.ofInt 32 (clampI (-2147483648) 2147483647 x)

/-- Word `w` of the `n` words that stand from `base` upward. -/
def arrayAt (base n off : Nat) : Option Nat :=
  if base ≤ off ∧ off < base + 4 * n then some ((off - base) / 4) else none

/-- BLOCK_ID of the block at a base address (R48). -/
def blockId (base : Nat) : Word :=
  if base = 0x28000 then 0x00030101 else at_ 16 (base / 65536 + 1) ||| 1

/-- Tick and time (R37, R40, R398 – R401). -/
def Mod.regTick (v : Mod) (off : Nat) : Option Word :=
  let t := v.tick
  match off with
  | 0x04 => some (loWord t.count)
  | 0x08 => some (hiWord t.count)
  | 0x0C => some (at_ 24 (sat 0xFF t.ovrCommit) ||| at_ 16 (sat 0xFF t.ovrActuate) ||| at_ 8 (sat 0xFF t.ovrCompute) |||
      at_ 0 (sat 0xFF t.ovrSense))
  | 0x10 => some (at_ 8 (sat 0xFF t.carryRun) ||| (t.rebased.bits &&& 2) ||| at_ 0 (b2n t.src))
  | 0x14 => some v.time.cfg
  | 0x18 => some v.timeStatus
  | 0x1C => some (satWord (v.time.offset / 4096))
  | 0x20 => some (loWord v.aux)
  | 0x24 => some (hiWord v.aux)
  | _ => none

/-- Data frames of the last second in units of 0.01 Gbit/s; a frame is 2,048 bits (R537). -/
def trafficOf (frames : Nat) : Nat := sat 20000 (frames * 2048 / 10000000)

/-- A Zudin link (R180, R181, R536, R537). -/
def Mod.regLink (v : Mod) (k : Side) (off : Nat) : Option Word :=
  let l := v.link k
  let up := decide (l.state = 2)
  match off with
  | 0x04 => some (at_ 20 (v.awaiting k) ||| at_ 16 (v.sessions.filter fun s => s.link == k).length |||
      at_ 8 (if up then l.pktCredit else 0) ||| at_ 2 (b2n l.oneLane) ||| at_ 0 l.state)
  | 0x08 => some (at_ 24 (sat 0xFF l.downs) ||| at_ 16 (sat 0xFF l.discards) ||| at_ 0 (sat 0xFFFF l.replays))
  | 0x0C => some (at_ 16 (sat 1024 l.waiting.length) ||| at_ 0 (if up then l.byteCredit / 1024 else 0))
  | 0x10 => some (at_ 16 (trafficOf (l.tx.sum v.tick.now)) ||| at_ 0 (trafficOf (l.rx.sum v.tick.now)))
  | _ => none

/-- Plans in a state. -/
def Mod.plansIn (v : Mod) (st : PState) : Nat := (v.engine.plans.filter fun p => p.state == st).length

/-- ENGINE_STATUS.ACTIVITY (R132). -/
def Mod.activity (v : Mod) : Nat :=
  if v.state = .safeHold then 3 else match v.engine.run with
    | some r => if r.engine then 2 else 1
    | none => 0

/-- The plan/commit engine (R131 – R136). -/
def Mod.regEngine (v : Mod) (off : Nat) : Option Word :=
  let e := v.engine
  match off with
  | 0x04 => some e.gen
  | 0x08 => some (at_ 24 (sat 0xFF (v.plansIn .staged)) ||| at_ 16 (v.plansIn .queued) ||| at_ 0 v.activity)
  | 0x0C => some (at_ 0 v.freeContexts)
  | 0x10 => some (at_ 16 v.impaired ||| at_ 0 e.members.length)
  | 0x14 => some (at_ 8 (sat 0xFF e.peakTicks.val) ||| at_ 0 (sat 0xFF e.lastTicks))
  | 0x18 => some (loWord e.lastLaunch)
  | 0x1C => some (hiWord e.lastLaunch)
  | _ => none

/-- BRICK_STATUS of a brick (R88); 0 where its plane is not fitted (R12). -/
def Mod.brickStatus (v : Mod) (b : Nat) : Word :=
  if !v.variant.plane (planeOfBrick b) then 0
  else wbit 31 ||| at_ 28 (v.brickState b) ||| at_ 16 (sat 0xFF (v.stuckOn b)) ||| at_ 8 (v.linesUsed b) |||
    at_ 0 (sillOfBrick b)

/-- TILE_TEMP (R538). -/
def Mod.tileWord (v : Mod) (k : Nat) : Word :=
  at_ 31 (b2n (v.fabric.tileOver.contains k)) ||| BitVec.ofNat 32 (wrapInt 2 (v.tileTemp k))

/-- The fabric (R84 – R90, R538). -/
def Mod.regFabric (v : Mod) (sel : Selects) (off : Nat) : Option Word :=
  match off with
  | 0x04 => some (v.fabric.reserve.zeroExtend 32)
  | 0x08 => some (at_ 0 v.fabric.budget)
  | 0x0C => some (at_ 16 (sat 0xFFFF v.fabric.stagger) ||| at_ 0 v.fabric.peak.val)
  | 0x10 => some (at_ 0 sel.brick)
  | 0x14 => some (v.brickStatus sel.brick)
  | _ =>
    match arrayAt 0x100 8 off, arrayAt 0x200 8 off, arrayAt 0x300 68 off with
    | some n, _, _ => some (v.planeStatus n)
    | _, some s, _ =>
      let k := v.sill s
      some (at_ 2 k.status ||| at_ 1 (b2n k.linkB) ||| at_ 0 (b2n k.linkA))
    | _, _, some k => some (v.tileWord k)
    | none, none, none => none

/-- LOOP_STATUS of a loop (R225). -/
def Mod.loopStatus (v : Mod) (k : Nat) : Word :=
  if !v.variant.loop k then 0
  else
    let l := v.loop k
    let mon := loopClass k == some .monitor
    let h := if mon then 0 else v.holdCauses k
    let cause := (List.range 4).find? fun n => h.getLsbD n
    wbit 31 ||| at_ 28 (if k < 7616 then (v.wstate k).code else 7) ||| at_ 26 (v.modeCode k) ||| at_ 24 (cause.getD 0) |||
      at_ 20 (if mon then 0 else l.set % 16) ||| at_ 19 (b2n l.ramping) |||
      at_ 14 (sat 3 (l.releasesAt v.tick.now).length) ||| (l.sticky.bits &&& 0x17E) ||| at_ 7 (b2n l.outLim)

/-- A node's value in the class unit × 2^16 (R226). -/
def Mod.nodeWord (v : Mod) (k stage : Nat) : Word :=
  let n := v.nodeValue k stage
  satWord (roundNE (valOf n.1 n.2 * 65536))

/-- LOOP_PV, LOOP_OUT and LOOP_TARGET (R226): index 1 – 3 of the loop group; OUT is what Actuate latched last. -/
def Mod.loopWord (v : Mod) (k n : Nat) : Word :=
  if !v.variant.loop k then 0
  else
    let mon := loopClass k == some .monitor
    match n with
    | 0 => v.loopStatus k
    | 1 => v.nodeWord k 0
    | 2 => if mon then v.nodeWord k 1 else satWord (aget 0 v.trowel.heater k)
    | _ => if mon then 0 else satWord (v.loop k).target

/-- A parameter in the format of PARAM_DATA (R230). -/
def paramWord (p : Param) : Word :=
  at_ 16 ((p.exp % 64).toNat) ||| BitVec.ofNat 32 (wrapInt 2 p.mant)

/-- The fields of PARAM_SELECT (R229): view, class, set, code. -/
def selView (w : Word) : Bool := w.getLsbD 31
def selClass (w : Word) : Nat := bits w.toNat 17 16
def selSet (w : Word) : Nat := bits w.toNat 11 8
def selCode (w : Word) : Nat := bits w.toNat 4 0

/-- PARAM_DATA (R230): the shadow copy or the values in use; the window's MODEL_GAIN reads 0 (05 Table 3). -/
def Mod.paramData (v : Mod) (w : Word) : Word :=
  if selClass w = 0 ∧ selCode w = 22 then 0
  else paramWord (v.param (if selView w then v.trowel.params else v.trowel.shadow) (selClass w) (selSet w) (selCode w))

/-- EXP_DATA (R233): the stage exponents of a group, SENSE lowest. -/
def Mod.expWord (v : Mod) (g : Nat) : Word :=
  let e := v.exps g
  (List.range 5).foldl (fun (w : Word) n => w ||| at_ (6 * n) ((lget 0 e n % 64).toNat)) 0

/-- TROWEL_STATUS of a leaf (R221, R524). -/
def Mod.trowelStatus (v : Mod) (own : Side) : Word :=
  let run := if v.leaves.active = some own then (if v.trowel.reinit then 2 else if v.running then 1 else 0)
    else if (v.leaf own).state = .standby then 3 else 0
  at_ 16 v.holdLoops ||| at_ 4 (if v.variant.windows then v.trowel.ffState else 3) ||| at_ 0 run

/-- An accepted PARAM_APPLY waits for the boundary (R231). -/
def Mod.applyWaits (m : Mod) : Bool :=
  m.deferred.any fun d =>
    match d.eff with
    | .regWrite _ _ a v k => a == 0x50038 && (v &&& k).getLsbD 0
    | _ => false

/-- Trowel (R221 – R234). `t` is the trace of the leaf that answers; COMPUTE_USE and the window counts are the view's. -/
def Mod.regTrowel (v m : Mod) (own : Side) (sel : Selects) (off : Nat) : Option Word :=
  let t := if v.leaves.active = some own then v.trowel.trace.get own else m.trowel.trace.get own
  let pair (h l : WState) : Word := if v.variant.windows then at_ 16 (v.windowsIn h) ||| at_ 0 (v.windowsIn l) else 0
  match off with
  | 0x04 => some (v.trowelStatus own)
  | 0x08 => some (if v.leaves.active = some own then at_ 16 (v.trowel.use.get own).peak.val ||| at_ 0 (v.trowel.use.get own).last else 0)
  | 0x10 => some (at_ 0 sel.loop)
  | 0x14 => some (v.loopWord sel.loop 0)
  | 0x18 => some (v.loopWord sel.loop 1)
  | 0x1C => some (v.loopWord sel.loop 2)
  | 0x20 => some (v.loopWord sel.loop 3)
  | 0x24 => some (v.trowel.stageSat.bits &&& 0xFFC7F)
  | 0x28 => some (pair .hold .locked)
  | 0x2C => some (pair .cold .tuning)
  | 0x30 => some sel.param
  | 0x34 => some (v.paramData sel.param)
  | 0x38 => some (at_ 1 (b2n m.applyWaits))
  | 0x3C => some (at_ 0 sel.exp)
  | 0x40 => some (v.expWord sel.exp)
  | 0x44 => some (at_ 16 (sat 0xFFF t.samples.length) ||| at_ 2 (b2n t.interrupted) ||| at_ 0 t.state.code)
  | _ => none

/-- C × 10 of R269: 10 for each planner course that is not reserved, 8 for each reserved one. -/
def Mod.c10 (v : Mod) : Nat := sumN (v.plannerCourses.map fun c => if v.reservedCourse c then 8 else 10)

/-- The Mortar block (R289 – R300). -/
def Mod.regMortar (v : Mod) (off : Nat) : Option Word :=
  let x := v.mortar
  let cs := List.range 16
  match off with
  | 0x04 => some (at_ 16 (maskOf 16 (cs.filter fun c => v.variant.courses.getLsbD c && (v.course c).failed)) |||
      at_ 0 (maskOf 16 (cs.filter v.enabled)))
  | 0x08 => some (at_ 8 (b2n x.detPend) ||| at_ 0 (b2n x.detReq))
  | 0x0C => some (at_ 16 (maskOf 16 (cs.filter v.reservedCourse)) ||| at_ 0 (maskOf 16 v.jobCourses))
  | 0x10 => some (at_ 24 x.solves.length ||| at_ 16 v.c10 ||| at_ 0 (match x.solving with
      | some s => if s.rerun then 2 else 1
      | none => 0))
  | 0x14 => some (at_ 16 (sat 0xFFFF x.solvePeak.val) ||| at_ 0 (sat 0xFFFF x.solveLast))
  | 0x18 => some x.guardCfg
  | 0x1C => some x.flags.bits
  | 0x20 => some (x.range.bits &&& 0xFFFF)
  | 0x24 => some (at_ 16 (sat 0xFFFF x.mismatches) ||| at_ 0 (sat 0xFFFF x.rangeEvents))
  | 0x28 => some (at_ 16 (sat 0xFF x.compareFails) ||| at_ 8 (sat 0xFF x.misses) |||
      at_ 0 (if v.variant.windows then x.mode else 3))
  | 0x2C => some (at_ 16 (sat 0xFFFF x.sramUnc) ||| at_ 0 (sat 0xFFFF x.sramCor))
  | 0x30 => some (at_ 16 (v.poolFree / 1048576) ||| at_ 0 x.poolMib)
  | _ => none

/-- CAL_CFG.AUTO holds no window class on RX512-P (R348). -/
def Mod.calAuto (v : Mod) : Nat := (if v.variant.windows then v.cal.auto else v.cal.auto &&& 0x33).toNat

/-- Calibration (R348 – R353). -/
def Mod.regCal (v : Mod) (off : Nat) : Option Word :=
  let c := v.cal
  let mask (g : CalClass → Bool) : Nat := maskOf 6 ((List.range 6).filter fun n => g (v.calClass n))
  match off with
  | 0x04 => some (at_ 24 v.calAuto ||| at_ 0 c.dt)
  | 0x08 => some (at_ 24 (maskOf 6 ((List.range 6).filter v.calPending)) ||| at_ 16 (maskOf 6 ((List.range 6).filter v.calRunning)) |||
      at_ 0 (mask CalClass.causing))
  | 0x0C => some ((List.range 6).foldl (fun (w : Word) n => w ||| at_ (4 * n) (sat 0xF (v.calClass n).rc)) 0)
  | 0x10 => some (at_ 16 (sat 0xFFFF c.worst) ||| c.suspect.zeroExtend 32)
  | 0x14 => some (if v.variant.windows then
      at_ 24 (sat 0xFF c.confirmed) ||| at_ 16 (sat 0xFF c.falses) ||| at_ 0 c.flagged.length else 0)
  | 0x18 => some (at_ 0 c.wlLast)
  | _ => none

/-- LASER_STATUS (R356); 0 where the laser is not fitted (R12). -/
def Mod.laserStatus (v : Mod) (k : Nat) : Word :=
  if !v.variant.laser k then 0
  else
    let l := v.laser k
    wbit 31 ||| at_ 28 l.role ||| at_ 16 l.partner ||| at_ 8 (sat 0xFF (v.laserAge k)) ||| at_ 0 (sat 0xFF (v.biasMean k / 100))

/-- The bits of 32 ports for which `g` holds. -/
def Mod.portWord (v : Mod) (w : Nat) (g : Shutter → Bool) : Word :=
  at_ 0 (maskOf 32 ((List.range 32).filter fun b => g (v.shutter (32 * w + b))))

/-- Lasers, OSC and shutters (R354 – R360, R402 – R404). -/
def Mod.regOsc (v : Mod) (sel : Selects) (off : Nat) : Option Word :=
  let o := v.osc
  let count (g : Nat → Bool) : Nat := ((List.range 512).filter g).length
  match off with
  | 0x04 => some (at_ 0 o.spareAt)
  | 0x08 => some (at_ 0 sel.laser)
  | 0x0C => some (v.laserStatus sel.laser)
  | 0x10 => some (at_ 16 (sat 0xFFFF o.pulses) ||| at_ 0 (count fun p => (v.shutter p).isOpen))
  | 0x14 => some o.fabricId
  | 0x18 => some (at_ 16 (sat 0xFFFF o.failed) ||| at_ 0 (sat 0xFFFF o.corrected))
  | 0x1C => some (at_ 16 (count fun p => v.isTrunk p && (v.neigh p).nstate == .up) ||| at_ 0 (count fun p => (v.neigh p).alert))
  | _ =>
    match arrayAt 0x100 16 off, arrayAt 0x140 16 off, arrayAt 0x180 16 off with
    | some w, _, _ => some (v.portWord w Shutter.isOpen)
    | _, some w, _ => some (v.portWord w Shutter.los)
    | _, _, some w => some (v.portWord w Shutter.force)
    | none, none, none => none

/-- The state of a course as COURSE_POWER codes it (R472). -/
def Mod.coursePower (v : Mod) (c : Nat) : Nat :=
  match v.domain c with
  | some d =>
    if !v.variant.courses.getLsbD c then 2 else match d.state with
      | .on => 0
      | .retention => 1
      | .off => 2
      | .entering => 3
      | .waking => 3
  | none => 2

/-- Mean input power of the last second (R468). -/
def Mod.meanPower (v : Mod) : Nat :=
  let l := v.power.meter.samples.filter fun p => decide (v.tick.now < p.1 + 100000)
  if l.isEmpty then 0 else sumN (l.map Prod.snd) / l.length

/-- Power and clocks (R467 – R475); RESET_CAUSE is that of the leaf that answers. -/
def Mod.regPower (v m : Mod) (own : Side) (off : Nat) : Option Word :=
  let p := v.power
  let s := v.sup
  let banks := p.domains.filter fun d => isBank d.code && v.variant.domain d.code
  let opp := (v.mortar.courses.map Course.opp).foldl max 0
  match off with
  | 0x04 => some (at_ 20 (sat 0xFFF s.volts) ||| at_ 5 (b2n s.seqHold) ||| at_ 4 (b2n s.memsOk) ||| at_ 2 (b2n s.vin54) |||
      at_ 1 (b2n s.vana) ||| at_ 0 (b2n s.vaux))
  | 0x08 => some (at_ 16 (sat 0xFFFF p.peak.val) ||| at_ 0 (sat 0xFFFF v.meanPower))
  | 0x0C => some (at_ 16 (b2n m.sup.seq) ||| at_ 8 (m.leaf own).causePrev ||| at_ 0 (m.leaf own).causeLast)
  | 0x10 => some (at_ 0 p.cfg)
  | 0x14 => some (at_ 0 (lget 0 p.idle 0))
  | 0x18 => some (at_ 0 (lget 0 p.idle 1))
  | 0x1C => some (if v.variant.windows then at_ 0 (lget 0 p.idle 2) else 0)
  | 0x20 => some ((List.range 16).foldl (fun (w : Word) c => w ||| at_ (2 * c) (v.coursePower c)) 0)
  | 0x24 => some (at_ 16 (banks.filter fun d => d.state == .off).length ||| at_ 8 (banks.filter fun d => v.held5 d.code).length |||
      at_ 0 (banks.filter fun d => d.state == .on).length)
  | 0x28 => some (at_ 24 (sat 0xFF v.mortar.temp) ||| at_ 4 opp ||| at_ 3 (b2n (decide (0 < opp))) |||
      at_ 2 (b2n v.tick.refclkValid) ||| at_ 1 (b2n v.tick.coreB) ||| at_ 0 (b2n v.tick.coreA))
  | 0x2C => some (at_ 24 (sat 0xFF p.aborts) ||| at_ 12 (sat 0xFFF p.wakes) ||| at_ 0 (sat 0xFFF p.entries))
  | _ => none

/-- MODULE_STATE (R431): the answering leaf's own byte, and the other's where the cross-link brings it. -/
def Mod.moduleState (v m : Mod) (own : Side) : Word :=
  let byte (k : Side) : Nat :=
    if k = own then m.leaves.moduleByte.get k else if m.xlinkDown then 0xFF else v.leaves.moduleByte.get k
  at_ 24 (byte .a) ||| at_ 16 (byte .b) ||| at_ 8 v.pref.num ||| at_ 0 (sideCode v.leaves.active)

/-- The links of DIE_LINK_STATUS that end at each leaf (R540). -/
def dieLinksOf : Side → Word
  | .a => 0xD5
  | .b => 0x32A

/-- Leaves and reliability (R431 – R441, R540, R541). -/
def Mod.regLeaves (v m : Mod) (own : Side) (off : Nat) : Option Word :=
  let l := v.leaves
  let c8 (n : Nat) : Nat := sat 0xFF n
  match off with
  | 0x04 => some (v.moduleState m own)
  | 0x08 => some (at_ 0 v.topEpoch)
  | 0x0C => some l.cfg
  | 0x10 => some (at_ 16 (sat 0xFFFF (l.cleanTicks / 100000)) ||| at_ 8 l.reportItems.toNat |||
      at_ 3 (b2n (match v.standby with | some j => v.eligible j | none => false)) ||| at_ 2 (b2n l.xlinkUp) |||
      at_ 1 (b2n l.reportClean) ||| at_ 0 (b2n v.standby.isSome))
  | 0x14 => some l.causesSent
  | 0x18 => some ((l.holdSeen.bits &&& 7) <<< 8 ||| v.holdNow.zeroExtend 32)
  | 0x1C => some (at_ 24 (c8 l.foLapse) ||| at_ 16 (c8 l.foRelease) ||| at_ 8 (c8 l.foForced) ||| at_ 0 (c8 l.foRevert))
  | 0x20 => some (at_ 16 l.lastGap ||| at_ 8 l.lastItem.toNat ||| at_ 2 l.lastKind ||| at_ 0 l.lastTo)
  | 0x24 => some (at_ 24 (c8 v.die.media) ||| at_ 16 (c8 v.die.quarCount) ||| at_ 0 (sat 0xFFFF v.die.corrected))
  | 0x28 => some ((List.range 8).foldl (fun (w : Word) c => w ||| at_ (4 * c) (sat 0xF (aget 0 v.die.quarant c / 64))) 0)
  | 0x2C => some (at_ 24 (c8 l.reinitFails) ||| at_ 16 (c8 l.reinits) ||| at_ 0 (sat 0xFFFF l.retries))
  | 0x30 => some (v.die.up.zeroExtend 32 &&& ~~~((if (v.leaf .a).inReset then dieLinksOf .a else 0) |||
      (if (v.leaf .b).inReset then dieLinksOf .b else 0)))
  | 0x34 => some (at_ 24 (c8 v.die.downs) ||| at_ 0 (sat 0xFFFF v.die.checkFails))
  | _ => none

/-- Security and update (R511 – R515). -/
def Mod.regSec (v : Mod) (off : Nat) : Option Word :=
  let k := v.sec
  match off with
  | 0x04 => some (at_ 24 k.primary.sstate ||| at_ 20 k.staged.sstate ||| at_ 16 k.golden.sstate ||| at_ 6 k.trialBoots |||
      at_ 5 (b2n k.health) ||| at_ 0 k.mode)
  | 0x08 => some k.counter
  | 0x0C => some (at_ 0 v.trialLeft)
  | 0x10 => some k.cfg
  | 0x14 =>
    let transport := k.keys.any fun x => x.id == 0
    some (at_ 16 k.keysLeft ||| at_ 8 k.keys.length ||| at_ 1 (b2n !transport) ||| at_ 0 (b2n transport))
  | _ => none

/-- Records (R516 – R521). -/
def Mod.regRecords (v : Mod) (sel : Selects) (off : Nat) : Option Word :=
  let r := v.recs
  let k := v.keyhole
  match off with
  | 0x04 => some (at_ 16 (sat 4096 r.queue.length) ||| at_ 1 (b2n r.wrapped) ||| at_ 0 (b2n (decide (0 < r.dropped))))
  | 0x08 => some (loWord r.csSeq)
  | 0x0C => some (hiWord r.csSeq)
  | 0x10 => some (loWord r.jSeq)
  | 0x14 => some (hiWord r.jSeq)
  | 0x18 => some k.cfg
  | 0x1C => some (at_ 0 sel.keyhole)
  | 0x20 => some (match k.slots.find? fun s => s.1 == sel.keyhole with
      | some s => s.2.addr
      | none => 0xFFFFFFFF)
  | 0x24 => some (at_ 16 (sat 0xFFFF k.missed) ||| at_ 15 (b2n k.frozen.isSome) ||| at_ 0 k.ring.length)
  | 0x28 => some 0
  | _ => none

/-- Lintels and LPDDR6 (R543 – R549). Bandwidths and the devices' temperatures come from nothing that the model holds; the first
read 0, their reset value, until a leaf is active. -/
def Mod.regLintels (v : Mod) (sel : Selects) (off : Nat) : Option Word :=
  let open_ (mask : Word) : Word := BitVec.ofNat 32 (Config.openReading (0xD0000 + off) v.tick.now) &&& mask
  let used (mask : Word) : Word := if v.leaves.active.isNone then 0 else open_ mask
  let chan (c : Nat) : Nat :=
    let st := lget 0 v.die.channels c
    let low := (List.range 4).any fun p => (pairChannels p).contains c &&
      (match v.domain (0x10 + p) with | some d => d.state == .retention | none => false)
    if st = 0 ∧ low then 1 else st
  match off with
  | 0x04 => some ((List.range 8).foldl (fun (w : Word) c => w ||| at_ (4 * c) (chan c)) 0)
  | 0x08 => some (at_ 0 v.die.rate)
  | 0x0C => some (used 0xFFFFFFFF)
  | 0x10 => some (used 0xFFFFFFFF)
  | 0x14 => some (used 0xFF00FFFF)
  | 0x18 => some (at_ 16 (sat 0xFFFF v.die.stalls) ||| at_ 0 (sat 0xFF v.die.util.val))
  | 0x1C => some (at_ 0 sel.channel)
  | 0x20 => some (open_ 0xFF010000 ||| at_ 0 (sat 1024 (aget 0 v.die.quarant sel.channel)))
  | 0x24 =>
    let e := aget (0, 0) v.die.chErr sel.channel
    some (at_ 16 (sat 0xFFFF e.1) ||| at_ 0 (sat 0xFFFF e.2))
  | _ => none

/-- FELSO_STATUS (R522). -/
def Mod.felsoStatus (v : Mod) : Word :=
  let left := v.felso.unlocked.map fun p => (p.2 + 360000000 - v.tick.now) / 100000
  let h := v.felso.halted
  at_ 16 (match left with
      | [] => 0
      | t :: ts => ts.foldl min t) |||
    at_ 10 (b2n (h.any fun c => decide (16 ≤ c))) ||| at_ 9 (b2n (h.any fun c => decide (8 ≤ c) && decide (c < 16))) |||
    at_ 8 (b2n (h.any fun c => decide (c < 8))) ||| at_ 0 v.unlockedBits

/-- The block that an address lies in: its base and the offset within it. -/
def blockOf (a : Nat) : Nat × Nat :=
  if 0x28000 ≤ a ∧ a < 0x30000 then (0x28000, a - 0x28000) else (a / 65536 * 65536, a % 65536)

/-- What a register reads (R523): `v` is the state reported, `m` the live module, `own` the leaf that answers; none where the
address holds no register. -/
def Mod.regAt (v m : Mod) (own : Side) (sel : Selects) (a : Nat) : Option Word :=
  let b := blockOf a
  if a % 4 ≠ 0 ∨ 0xF0000 ≤ a then none
  else if b.2 = 0 then some (blockId b.1)
  else match b.1 with
    | 0x00000 => if b.2 ≤ 0x18 then v.caps[b.2 / 4 - 1]? else none
    | 0x10000 => v.regTick b.2
    | 0x20000 => v.regLink .a b.2
    | 0x28000 => v.regLink .b b.2
    | 0x30000 => v.regEngine b.2
    | 0x40000 => v.regFabric sel b.2
    | 0x50000 => v.regTrowel m own sel b.2
    | 0x60000 => v.regMortar b.2
    | 0x70000 => v.regCal b.2
    | 0x80000 => v.regOsc sel b.2
    | 0x90000 => v.regPower m own b.2
    | 0xA0000 => v.regLeaves m own b.2
    | 0xB0000 => v.regSec b.2
    | 0xC0000 => v.regRecords sel b.2
    | 0xD0000 => v.regLintels sel b.2
    | 0xE0000 => if b.2 = 4 then some v.felsoStatus else none
    | _ => none

/-! ### What a leaf answers (R524, R526) -/

/-- A module of the same ordering code whose functions have not started. -/
def Mod.unstarted (m : Mod) : Mod :=
  { Mod.init with
    variant := m.variant
    mortar := { Mortar.init with reserved := if m.variant.windows then [0, 1] else [], poolMib := m.mortar.poolMib } }

/-- Registers of the blocks 0x0003 – 0x0008 that report what a reset kept (R526). -/
def keptReg (a : Nat) : Bool :=
  a ∈ [0x30004, 0x30008, 0x3000C, 0x30010, 0x40014, 0x60004, 0x8000C, 0x80014] ||
    (decide (0x40100 ≤ a) && decide (a < 0x40410)) || (decide (0x80180 ≤ a) && decide (a < 0x801C0))

/-- The address belongs to a function that has not started on this leaf (R526). -/
def State.notStarted (s : State) (i : Side) (a : Nat) : Bool :=
  let st := (s.cur.leaf i).state
  (st == .boot || st == .recovery) && decide (0x30000 ≤ a) && decide (a < 0x90000) && !keptReg a

/-- The state that a leaf reports for an address: in BOOT and RECOVERY the functions of the blocks 0x0003 – 0x0008 have not
started (R526). -/
def State.regView (s : State) (i : Side) (a : Nat) : Mod :=
  if s.notStarted i a then (s.view i).unstarted else s.view i

/-- What a leaf answers for an address, but for latched words. WINDOW_COUNT_B resets to 0, although every window is COLD
then (R228). -/
def State.regValue (s : State) (i : Side) (sel : Selects) (a : Nat) : Option Word :=
  if a = 0x5002C ∧ s.notStarted i a then some 0 else (s.regView i a).regAt s.cur i sel a

/-! ### Accessors: selects and latches (R18, R527, R528) -/

def Mod.selOf (m : Mod) : Accessor → Selects
  | .session i sid => match m.session i sid with
    | some t => t.sel
    | none => .init
  | .felso => m.felso.sel

def Mod.latchOf (m : Mod) : Accessor → Latch
  | .session i sid => match m.session i sid with
    | some t => t.latch
    | none => .init
  | .felso => m.felso.latch

def Mod.setSel (m : Mod) (f : Selects → Selects) : Accessor → Mod
  | .session i sid => m.setSession i sid fun t => { t with sel := f t.sel }
  | .felso => { m with felso := { m.felso with sel := f m.felso.sel } }

def Mod.setLatch (m : Mod) (f : Latch → Latch) : Accessor → Mod
  | .session i sid => m.setSession i sid fun t => { t with latch := f t.latch }
  | .felso => { m with felso := { m.felso with latch := f m.felso.latch } }

/-- The multi-word groups: lowest address and number of words (R18). -/
def regGroups : List (Nat × Nat) :=
  [(0x10004, 2), (0x10020, 2), (0x30018, 2), (0x50014, 4), (0xC0008, 2), (0xC0010, 2)]

/-- The later words of the group that begins at an address. -/
def laterWords (a : Nat) : List Nat :=
  match regGroups.find? fun g => g.1 == a with
  | some g => (List.range (g.2 - 1)).map fun n => a + 4 * (n + 1)
  | none => []

/-- The word is a later word of a group. -/
def isLater (a : Nat) : Bool := regGroups.any fun g => decide (g.1 < a) && decide (a < g.1 + 4 * g.2)

/-- What a later word reads before its accessor has latched it: the group's reset value, which for the SEQ groups is the
log's (R517, R528). -/
def State.unlatched (s : State) (i : Side) (sel : Selects) (a : Nat) : Word :=
  if a = 0xC000C ∨ a = 0xC0014 then (s.regValue i sel a).getD 0 else 0

/-! ### RC fields (R19 – R21, R525) -/

/-- What RC fields of a register hold once the counts that `ref` shows are cleared: events that came later stay counted. A clear
through the standby's mirror clears the peaks up to that mirror. -/
def Mod.clearRc (m ref : Mod) (mirror : Bool) (sel : Selects) (a : Nat) : Mod :=
  let link (i : Side) (m : Mod) : Mod :=
    let r := ref.link i
    m.setLink i fun l => { l with downs := l.downs - r.downs, discards := l.discards - r.discards, replays := l.replays - r.replays }
  match a with
  | 0x1000C =>
    let t := ref.tick
    { m with tick := { m.tick with
        ovrSense := m.tick.ovrSense - t.ovrSense, ovrCompute := m.tick.ovrCompute - t.ovrCompute
        ovrActuate := m.tick.ovrActuate - t.ovrActuate, ovrCommit := m.tick.ovrCommit - t.ovrCommit } }
  | 0x20008 => link .a m
  | 0x28008 => link .b m
  | 0x30014 => { m with engine := { m.engine with peakTicks := m.engine.peakTicks.clear mirror } }
  | 0x4000C =>
    { m with fabric := { m.fabric with
        stagger := m.fabric.stagger - ref.fabric.stagger, peak := m.fabric.peak.clear mirror } }
  | 0x50008 => { m with trowel := { m.trowel with use := m.trowel.use.modify m.worker fun u => { u with peak := u.peak.clear mirror } } }
  | 0x60014 => { m with mortar := { m.mortar with solvePeak := m.mortar.solvePeak.clear mirror } }
  | 0x60024 =>
    { m with mortar := { m.mortar with
        mismatches := m.mortar.mismatches - ref.mortar.mismatches, rangeEvents := m.mortar.rangeEvents - ref.mortar.rangeEvents } }
  | 0x60028 =>
    { m with mortar := { m.mortar with
        compareFails := m.mortar.compareFails - ref.mortar.compareFails, misses := m.mortar.misses - ref.mortar.misses } }
  | 0x6002C =>
    { m with mortar := { m.mortar with
        sramUnc := m.mortar.sramUnc - ref.mortar.sramUnc, sramCor := m.mortar.sramCor - ref.mortar.sramCor } }
  | 0x7000C =>
    (List.range 6).foldl (fun m c => m.setCalClass c fun k => { k with rc := k.rc - (ref.calClass c).rc }) m
  | 0x70014 =>
    { m with cal := { m.cal with confirmed := m.cal.confirmed - ref.cal.confirmed, falses := m.cal.falses - ref.cal.falses } }
  | 0x80010 => { m with osc := { m.osc with pulses := m.osc.pulses - ref.osc.pulses } }
  | 0x80018 =>
    { m with osc := { m.osc with failed := m.osc.failed - ref.osc.failed, corrected := m.osc.corrected - ref.osc.corrected } }
  | 0x90008 => { m with power := { m.power with peak := m.power.peak.clear mirror } }
  | 0x9002C =>
    let p := ref.power
    { m with power := { m.power with
        aborts := m.power.aborts - p.aborts, wakes := m.power.wakes - p.wakes, entries := m.power.entries - p.entries } }
  | 0xA001C =>
    let l := ref.leaves
    { m with leaves := { m.leaves with
        foLapse := m.leaves.foLapse - l.foLapse, foRelease := m.leaves.foRelease - l.foRelease
        foForced := m.leaves.foForced - l.foForced, foRevert := m.leaves.foRevert - l.foRevert } }
  | 0xA0024 =>
    let d := ref.die
    { m with die := { m.die with
        media := m.die.media - d.media, quarCount := m.die.quarCount - d.quarCount, corrected := m.die.corrected - d.corrected } }
  | 0xA002C =>
    let l := ref.leaves
    { m with leaves := { m.leaves with
        reinitFails := m.leaves.reinitFails - l.reinitFails, reinits := m.leaves.reinits - l.reinits
        retries := m.leaves.retries - l.retries } }
  | 0xA0034 =>
    { m with die := { m.die with downs := m.die.downs - ref.die.downs, checkFails := m.die.checkFails - ref.die.checkFails } }
  | 0xC0024 => { m with keyhole := { m.keyhole with missed := m.keyhole.missed - ref.keyhole.missed } }
  | 0xD0018 =>
    { m with die := { m.die with stalls := m.die.stalls - ref.die.stalls, util := m.die.util.clear mirror } }
  | 0xD0024 =>
    let r := aget (0, 0) ref.die.chErr sel.channel
    { m with die := { m.die with chErr := amod (0, 0) m.die.chErr sel.channel fun e => (e.1 - r.1, e.2 - r.2) } }
  | _ => m

/-- Registers with an RC field. -/
def rcRegs : List Nat :=
  [0x1000C, 0x20008, 0x28008, 0x30014, 0x4000C, 0x50008, 0x60014, 0x60024, 0x60028, 0x6002C] ++
  [0x7000C, 0x70014, 0x80010, 0x80018, 0x90008, 0x9002C, 0xA001C, 0xA0024, 0xA002C, 0xA0034, 0xC0024, 0xD0018, 0xD0024]

/-- The clear that a read brings. Through the active leaf, or while none is active, it acts on what was read; the mirror's
clear of the same register is then settled (marked by the address + 1). Through the standby it is passed over the cross-link
for the next Guard phase, but not while that is down, and not for the standby's own COMPUTE_USE (R524, R525). -/
def State.readClears (s : State) (i : Side) (sel : Selects) (a : Nat) : State :=
  if !rcRegs.contains a then s
  else
    match s.cur.leaves.active with
    | some j =>
      if j = i then
        let m := s.cur.clearRc s.snap false sel a
        { s with
          cur := { m with leaves := { m.leaves with rcDue := insertNew (a + 1 + 4294967296 * sel.channel) m.leaves.rcDue } }
          snap := s.snap.clearRc s.snap false sel a }
      else if s.cur.xlinkDown ∨ a = 0x50008 then s
      else onCur (fun m => { m with leaves := { m.leaves with rcDue := insertNew (a + 4294967296 * sel.channel) m.leaves.rcDue } }) s
    | none => { s with cur := s.cur.clearRc s.snap false sel a, snap := s.snap.clearRc s.snap false sel a }

/-- The clears passed over the cross-link, in the Guard phase: `ref` is what the standby read. -/
def Mod.mirrorClears (m ref : Mod) : Mod :=
  let due := m.leaves.rcDue
  let m := due.foldl (fun (m : Mod) k =>
    if k % 4 = 0 ∧ !due.contains (k + 1) then
      m.clearRc ref true { Selects.init with channel := k / 4294967296 } (k % 4294967296) else m) m
  { m with leaves := { m.leaves with rcDue := [] } }

/-! ### Reading -/

/-- One register read: the lowest word of a group latches the others, a later word reads as latched, an RC field clears. -/
def State.readReg (s : State) (acc : Accessor) (i : Side) (a : Nat) : Word × State :=
  let sel := s.cur.selOf acc
  if isLater a then
    let l := (s.cur.latchOf acc).words
    ((match l.find? fun p => p.1 == a with
      | some p => p.2
      | none => s.unlatched i sel a), s)
  else
    let w := (s.regValue i sel a).getD 0
    let words := (laterWords a).map fun b => (b, (s.regValue i sel b).getD 0)
    let s' := onCur (fun m => m.setLatch (fun l =>
      { words := words ++ l.words.filter fun p => !(words.any fun q => q.1 == p.1) }) acc) s
    (w, s'.readClears i sel a)

/-- Consecutive registers, in address order (R170). -/
def State.readRegs (s : State) (acc : Accessor) (i : Side) : List Nat → List Word × State
  | [] => ([], s)
  | a :: l =>
    let p := s.readReg acc i a
    let q := p.2.readRegs acc i l
    (p.1 :: q.1, q.2)

/-- UNDEFINED_ADDRESS (R157). -/
def badAddress (a : Nat) : List Byte := detail 4 noField a

/-- REG_READ (R170). -/
def runRegRead (r : Req) (s : State) : State :=
  let a := field r.payload 0 4
  let n := field r.payload 4 2
  let acc : Accessor := .session r.w.link r.w.session
  let as_ := (List.range n).map fun k => a + 4 * k
  if !sized r.payload 6 then onCur (malformed r) s
  else if a % 4 ≠ 0 then onCur (refuse r ePARAM (badField 0)) s
  else if n < 1 ∨ 256 < n then onCur (refuse r ePARAM (badField 4)) s
  else match as_.find? fun b => (s.regValue r.w.link (s.cur.selOf acc) b).isNone with
    | some b => onCur (refuse r ePARAM (badAddress b)) s
    | none =>
      let p := s.readRegs acc r.w.link as_
      onCur (answer r stOK (p.1.flatMap fun w => le 4 w.toNat)) p.2

def execRegRead (p : Packet) (s : State) : Host.Outcome State Fault Refusal := command 0xA0 p runRegRead s

/-! ### Writing -/

/-- Registers with a field that is not RO: address, the bits that are no reserved bits, those that a write sets (RW, RWS, WO),
and those that a 1 clears (W1C). SHUTTER_FORCE stands for its 16 words. -/
def regMasks : List (Nat × Word × Word × Word) :=
  [ (0x1000C, 0xFFFFFFFF, 0, 0), (0x10010, 0xFF03, 0, 2), (0x10014, 0xFF00000F, 0xFF00000F, 0)
  , (0x10018, 0xFFFF0F7B, 0, 0xC00), (0x20008, 0xFFFFFFFF, 0, 0), (0x28008, 0xFFFFFFFF, 0, 0), (0x30014, 0xFFFF, 0, 0) ] ++
  [ (0x40004, 0xFF, 0xFF, 0), (0x40008, 0x7FF, 0x7FF, 0), (0x4000C, 0xFFFF07FF, 0, 0), (0x40010, 0x3FF, 0x3FF, 0)
  , (0x50008, 0x01FF01FF, 0, 0), (0x50010, 0x3FFF, 0x3FFF, 0), (0x50014, 0xFFF8C1FE, 0, 0x17E) ] ++
  [ (0x50024, 0xFFC7F, 0, 0xFFC7F), (0x50030, 0x80030F1F, 0x80030F1F, 0), (0x50034, 0x3FFFFF, 0x3FFFFF, 0)
  , (0x50038, 3, 1, 0), (0x5003C, 0x1FF, 0x1FF, 0), (0x50040, 0x3FFFFFFF, 0x3FFFFFFF, 0) ] ++
  [ (0x60008, 0x101, 1, 0), (0x60014, 0xFFFFFFFF, 0, 0), (0x60018, 0xFFFF0F, 0xFFFF0F, 0), (0x6001C, 0xFFFFFFFF, 0, 0xFFFFFFFF)
  , (0x60020, 0xFFFF, 0, 0xFFFF), (0x60024, 0xFFFFFFFF, 0, 0), (0x60028, 0xFFFF03, 0, 0), (0x6002C, 0xFFFFFFFF, 0, 0) ] ++
  [ (0x70004, 0x3F0000FF, 0x3F0000FF, 0), (0x7000C, 0xFFFFFF, 0, 0), (0x70014, 0xFFFF1FFF, 0, 0), (0x80004, 0x7F, 0x7F, 0)
  , (0x80008, 0x1F, 0x1F, 0), (0x80010, 0xFFFF03FF, 0, 0), (0x80014, 0xFFFFFFFF, 0xFFFFFFFF, 0), (0x80018, 0xFFFFFFFF, 0, 0)
  , (0x80180, 0xFFFFFFFF, 0xFFFFFFFF, 0) ] ++
  [ (0x90008, 0xFFFFFFFF, 0, 0), (0x90010, 3, 3, 0), (0x90014, 0xFFFFFFFF, 0xFFFFFFFF, 0), (0x90018, 0xFFFFFFFF, 0xFFFFFFFF, 0)
  , (0x9001C, 0xFFFFFFFF, 0xFFFFFFFF, 0), (0x9002C, 0xFFFFFFFF, 0, 0), (0xA000C, 0x301, 0x301, 0), (0xA0018, 0x707, 0, 0x700) ] ++
  [ (0xA001C, 0xFFFFFFFF, 0, 0), (0xA0024, 0xFFFFFFFF, 0, 0), (0xA002C, 0xFFFFFFFF, 0, 0), (0xA0034, 0xFF00FFFF, 0, 0)
  , (0xB0010, 3, 3, 0), (0xC0018, 0xFFFF81FF, 0xFFFF81FF, 0), (0xC001C, 0x3F, 0x3F, 0), (0xC0020, 0xFFFFFFFF, 0xFFFFFFFF, 0) ] ++
  [ (0xC0024, 0xFFFF9FFF, 0, 0), (0xC0028, 1, 1, 0), (0xD0018, 0xFFFF00FF, 0, 0), (0xD001C, 7, 7, 0), (0xD0024, 0xFFFFFFFF, 0, 0) ]

/-- The exponent group of port monitors: 238 – 254 (R183). -/
def monitorGroup (g : Nat) : Bool := decide (238 ≤ g) && decide (g < 255)

/-- The masks of a register, where some field of it is not RO. -/
def masksOf (sel : Selects) (a : Nat) : Option (Word × Word × Word) :=
  if a = 0x50040 ∧ monitorGroup sel.exp then some (0xFFF, 0xFFF, 0)
  else
    let key := if 0x80180 ≤ a ∧ a < 0x801C0 then 0x80180 else a
    (regMasks.find? fun r => r.1 == key).map Prod.snd

/-- The parameter that a PARAM_DATA value spells. -/
def wordParam (w : Word) : Param :=
  { mant := signed 16 (bits w.toNat 15 0), exp := signed 6 (bits w.toNat 21 16) }

/-- A value of OUT_MIN or OUT_MAX inside the ceilings of its class (05 Table 3): 0 – 12 mW, 0 – 150 mA, ±1,000 mA. -/
def limitOk (w : Word) (v : Word) : Bool :=
  let x := valOf (wordParam v).exp (wordParam v).mant
  let top : Rat := if selClass w = 0 then 12 else if selClass w = 2 then 150 else 1000
  let low : Rat := if selClass w = 3 then -1000 else 0
  if selCode w = 18 then decide (low ≤ x) else if selCode w = 19 then decide (x ≤ top) else true

/-- An address that KEYHOLE_ADDR takes (R519): unused, or a register. -/
def Mod.slotOk (m : Mod) (w : Word) : Bool :=
  w == 0xFFFFFFFF || (m.regAt m .a .init w.toNat).isSome

/-- The status with which a new value of a register is refused (R84 – R88, R223 – R233, R294, R348 – R355, R433, R470, R471,
R519); none where it is taken. -/
def Mod.valueBad (m : Mod) (sel : Selects) (a : Nat) (w : Word) : Option Nat :=
  let n := w.toNat
  let v := m.variant
  let param (bad : Bool) : Option Nat := if bad then some ePARAM else none
  match a with
  | 0x40004 => if w &&& ~~~(v.planes.zeroExtend 32) ≠ 0 then some eABSENT else none
  | 0x40008 => param (decide (n < 64) || decide (1024 < n))
  | 0x40010 => if 544 ≤ n then some ePARAM else if !v.plane (planeOfBrick n) then some eABSENT else none
  | 0x50010 => if (loopClass n).isNone then some ePARAM else if !v.loop n then some eABSENT else none
  | 0x50030 => param (selClass w == 1 || !paramCode (selCode w))
  | 0x50034 =>
    param (selView sel.param || (selClass sel.param == 0 && selCode sel.param == 22) || !limitOk sel.param w)
  | 0x5003C => if 256 < n then some ePARAM else if n < 238 ∧ !v.windows then some eABSENT else none
  | 0x60018 => param (decide (bits n 23 16 < bits n 15 8))
  | 0x70004 =>
    if bits n 7 0 < 8 then some ePARAM else if !v.windows ∧ (n.testBit 26 ∨ n.testBit 27) then some eABSENT else none
  | 0x80004 => param (decide (n < 70) || decide (95 < n))
  | 0x80008 => if !laserNamed n then some ePARAM else if !v.laser n then some eABSENT else none
  | 0x90010 => param (n == 3)
  | 0x90014 => param (!idleOk 0 n)
  | 0x90018 => param (!idleOk 1 n)
  | 0x9001C => if !idleOk 2 n then some ePARAM else if !v.windows then some eABSENT else none
  | 0xA000C => param (bits n 9 8 == 3)
  | 0xC0020 => param (!m.slotOk w)
  | _ => none

/-- A select register (R527). -/
def isSelect (a : Nat) : Bool := [0x40010, 0x50010, 0x50030, 0x5003C, 0x80008, 0xC001C, 0xD001C].contains a

/-- A select of one accessor takes a value. -/
def Selects.put (k : Selects) (a : Nat) (w : Word) : Selects :=
  let n := w.toNat
  match a with
  | 0x40010 => { k with brick := n }
  | 0x50010 => { k with loop := n }
  | 0x50030 => { k with param := w }
  | 0x5003C => { k with exp := n }
  | 0x80008 => { k with laser := n }
  | 0xC001C => { k with keyhole := n }
  | 0xD001C => { k with channel := n }
  | _ => k

/-- SHUTTER_FORCE for 32 ports (R360). -/
def Mod.putForce (m : Mod) (w : Nat) (v : Word) : Mod :=
  (List.range 32).foldl (fun (m : Mod) b => m.setShutter (32 * w + b) fun s => { s with force := v.getLsbD b }) m

/-- MORTAR_CFG.DET_REQ: it waits under R257 where it differs from the profile in force. -/
def Mod.putDet (m : Mod) (on : Bool) : Mod :=
  { m with mortar := { m.mortar with detReq := on, detPend := on != m.mortar.open_ } }

/-- SEC_CFG: clearing VENDOR_EN closes every vendor-service session (R481). -/
def Mod.putSecCfg (m : Mod) (w : Word) : Mod :=
  let m := { m with sec := { m.sec with cfg := w } }
  if w.getLsbD 0 then m else m.closeSessions fun s => s.role == 4

/-- EXP_DATA: the exponents that a value names. -/
def wordExps (g : Nat) (w : Word) : List Int :=
  (List.range (if monitorGroup g then 2 else 5)).map fun n => signed 6 (bits w.toNat (6 * n + 5) (6 * n))

/-- A register takes a value. -/
def Mod.putReg (m : Mod) (sel : Selects) (a : Nat) (w : Word) : Mod :=
  let n := w.toNat
  match a with
  | 0x10014 => { m with time := { m.time with cfg := w } }
  | 0x40004 => { m with fabric := { m.fabric with reserve := w.setWidth 8 } }
  | 0x40008 => { m with fabric := { m.fabric with budget := n } }
  | 0x50034 =>
    { m with trowel := { m.trowel with
        shadow := aput m.trowel.shadow (paramKey (selClass sel.param) (selSet sel.param) (selCode sel.param)) (wordParam w) } }
  | 0x50038 => if w.getLsbD 0 then m.applyParams else m
  | 0x50040 => m.setExps sel.exp (wordExps sel.exp w)
  | 0x60008 => m.putDet (w.getLsbD 0)
  | 0x60018 => { m with mortar := { m.mortar with guardCfg := w } }
  | 0x70004 => { m with cal := { m.cal with auto := BitVec.ofNat 6 (bits n 29 24), dt := bits n 7 0 } }
  | 0x80004 => { m with osc := { m.osc with spareAt := n } }
  | 0x80014 => { m with osc := { m.osc with fabricId := w } }
  | 0x90010 => { m with power := { m.power with cfg := n } }
  | 0x90014 => m.applyIdle 0 n
  | 0x90018 => m.applyIdle 1 n
  | 0x9001C => m.applyIdle 2 n
  | 0xA000C => { m with leaves := { m.leaves with cfg := w } }
  | 0xB0010 => m.putSecCfg w
  | 0xC0018 => { m with keyhole := { m.keyhole with cfg := w } }
  | 0xC0020 =>
    { m with keyhole := { m.keyhole with slots := aput m.keyhole.slots sel.keyhole { addr := w, sel := sel } } }
  | 0xC0028 => if w.getLsbD 0 then m.fire 8 else m
  | _ => if 0x80180 ≤ a ∧ a < 0x801C0 then m.putForce ((a - 0x80180) / 4) w else m

/-- Ones written to W1C bits clear them, but not what was set in the tick that ends (R20). -/
def Mod.writeOnes (m : Mod) (sel : Selects) (a : Nat) (w : Word) : Mod :=
  match a with
  | 0x10010 => { m with tick := { m.tick with rebased := m.tick.rebased.write1 w } }
  | 0x10018 => { m with time := { m.time with rebased := m.time.rebased.write1 w } }
  | 0x50014 => m.setLoop sel.loop fun l => { l with sticky := l.sticky.write1 w }
  | 0x50024 => { m with trowel := { m.trowel with stageSat := m.trowel.stageSat.write1 w } }
  | 0x6001C => { m with mortar := { m.mortar with flags := m.mortar.flags.write1 w } }
  | 0x60020 => { m with mortar := { m.mortar with range := m.mortar.range.write1 w } }
  | 0xA0018 => { m with leaves := { m.leaves with holdSeen := m.leaves.holdSeen.write1 (w >>> 8) } }
  | _ => m

/-- The value that the writable bits of a register take under a mask (R171): 0 where WO bits are not written. -/
def Mod.written (m : Mod) (sel : Selects) (a : Nat) (rw value mask : Word) : Word :=
  (((m.regAt m m.worker sel a).getD 0) &&& rw &&& ~~~mask) ||| (value &&& mask &&& rw)

/-- A write at its boundary (R34). -/
def Mod.applyWrite (m : Mod) (sel : Selects) (a : Nat) (value mask : Word) : Mod :=
  match masksOf sel a with
  | some (_, rw, w1c) =>
    let m := if mask &&& rw = 0 then m else
      m.putReg sel a (m.written sel a rw value mask)
    if value &&& mask &&& w1c = 0 then m else m.writeOnes sel a (value &&& mask &&& w1c)
  | none => m

/-- The module as the writes that wait for the boundary will leave it: a new write is checked against it. -/
def Mod.withWrites (m : Mod) : Mod :=
  m.inOrder.foldl (fun (m : Mod) d => match d.eff with
    | .regWrite _ sel a v k => m.applyWrite sel a v k
    | _ => m) m

/-- The register belongs to a unit that is not fitted (R12): a plane's status, or what reports a selected loop, group, brick or
laser. -/
def Mod.absentBlock (m : Mod) (sel : Selects) (a : Nat) : Bool :=
  let v := m.variant
  (decide (0x40100 ≤ a) && decide (a < 0x40120) && !v.plane ((a - 0x40100) / 4)) ||
    (decide (0x50014 ≤ a) && decide (a < 0x50024) && !v.loop sel.loop) ||
    (a == 0x50040 && decide (sel.exp < 238) && !v.windows) ||
    (a == 0x40014 && !v.plane (planeOfBrick sel.brick)) || (a == 0x8000C && !v.laser sel.laser)

/-- Why a write is refused (R12, R22 – R24, R171): status and detail. -/
def Mod.writeBad (m : Mod) (sel : Selects) (a : Nat) (value mask : Word) : Option (Nat × List Byte) :=
  if a % 4 ≠ 0 then some (ePARAM, badField 0)
  else if (m.regAt m .a sel a).isNone then some (ePARAM, badAddress a)
  else if m.absentBlock sel a then some (eABSENT, badField 0)
  else match masksOf sel a with
    | none => some (ePARAM, badField 0)
    | some (used, rw, _) =>
      if value &&& mask &&& ~~~used ≠ 0 then some (ePARAM, badField 4)
      else if a = 0x9001C ∧ !m.variant.windows then some (if idleOk 2 (value &&& mask).toNat then eABSENT else ePARAM, badField 4)
      else if mask &&& rw = 0 then none
      else (m.valueBad sel a (m.withWrites.written sel a rw value mask)).map fun st => (st, badField 4)

/-- What an accepted write does at once: a select is its accessor's own (R527) and returns the loop group's latch to its reset
values (R528); FABRIC_ID is written to the Cornerstone before the OK reply (R402). The rest waits for the boundary. -/
def Mod.acceptWrite (m : Mod) (acc : Accessor) (a : Nat) (value mask : Word) (reply : Option Waiter) : Mod :=
  let sel := m.selOf acc
  let rw := match masksOf sel a with
    | some x => x.2.1
    | none => 0
  let new := m.withWrites.written sel a rw value mask
  if isSelect a then
    let m := if mask &&& rw = 0 then m else m.setSel (fun k => k.put a new) acc
    let m := if a = 0x50010 then m.setLatch (fun l => { words := l.words.filter fun p => !(laterWords 0x50014).contains p.1 }) acc
      else m
    { m with deferred := m.deferred ++ [{ eff := .nothing, reply := reply, pkt := none }] }
  else
    let m := if a = 0x80014 then { m with recs := { m.recs with csFabric := new } } else m
    { m with deferred := m.deferred ++ [{ eff := .regWrite acc sel a value mask, reply := reply, pkt := none }] }

/-- REG_WRITE (R171): checked at acceptance; its OK reply leaves at the boundary. -/
def runRegWrite (r : Req) (m : Mod) : Mod :=
  let a := field r.payload 0 4
  let value := wordAt r.payload 4
  let mask := wordAt r.payload 8
  let acc : Accessor := .session r.w.link r.w.session
  if !sized r.payload 12 then malformed r m
  else match m.writeBad (m.selOf acc) a value mask with
    | some (st, d) => refuse r st d m
    | none => (m.journalReq r stOK).acceptWrite acc a value mask (some r.w)

def execRegWrite (p : Packet) (s : State) : Host.Outcome State Fault Refusal := commandM 0xA1 p runRegWrite s

/-! ### The rows of single registers: REG_WRITE at their address -/

/-- The REG_WRITE packet of a write to a register. -/
def regPacket (x : RegW) (a : Nat) : Packet :=
  { link := x.link, tag := x.tag, role := x.role, session := x.session, len8 := 2
    payload := le 4 a ++ le 4 x.value.toNat ++ le 4 x.mask.toNat ++ le 4 0 }

def writeTo (a : Nat) (x : RegW) (s : State) : Host.Outcome State Fault Refusal := commandM 0xA1 (regPacket x a) runRegWrite s

def execFabricCfg (x : RegW) (s : State) : Host.Outcome State Fault Refusal := writeTo 0x40004 x s
def execMemsBudget (x : RegW) (s : State) : Host.Outcome State Fault Refusal := writeTo 0x40008 x s
def execBrickSelect (x : RegW) (s : State) : Host.Outcome State Fault Refusal := writeTo 0x40010 x s
def execLoopSelect (x : RegW) (s : State) : Host.Outcome State Fault Refusal := writeTo 0x50010 x s
def execParamSelect (x : RegW) (s : State) : Host.Outcome State Fault Refusal := writeTo 0x50030 x s
def execParamData (x : RegW) (s : State) : Host.Outcome State Fault Refusal := writeTo 0x50034 x s
def execParamApply (x : RegW) (s : State) : Host.Outcome State Fault Refusal := writeTo 0x50038 x s
def execExpSelect (x : RegW) (s : State) : Host.Outcome State Fault Refusal := writeTo 0x5003C x s
def execExpData (x : RegW) (s : State) : Host.Outcome State Fault Refusal := writeTo 0x50040 x s
def execMortarCfg (x : RegW) (s : State) : Host.Outcome State Fault Refusal := writeTo 0x60008 x s
def execGuardCfg (x : RegW) (s : State) : Host.Outcome State Fault Refusal := writeTo 0x60018 x s
def execCalCfg (x : RegW) (s : State) : Host.Outcome State Fault Refusal := writeTo 0x70004 x s
def execLaserCfg (x : RegW) (s : State) : Host.Outcome State Fault Refusal := writeTo 0x80004 x s
def execLaserSelect (x : RegW) (s : State) : Host.Outcome State Fault Refusal := writeTo 0x80008 x s
def execShutterForce (w : Nat) (x : RegW) (s : State) : Host.Outcome State Fault Refusal := writeTo (0x80180 + 4 * (w % 16)) x s
def execTimeCfg (x : RegW) (s : State) : Host.Outcome State Fault Refusal := writeTo 0x10014 x s
def execFabricId (x : RegW) (s : State) : Host.Outcome State Fault Refusal := writeTo 0x80014 x s
def execPowerCfg (x : RegW) (s : State) : Host.Outcome State Fault Refusal := writeTo 0x90010 x s
def execIdleTicks (cls : Nat) (x : RegW) (s : State) : Host.Outcome State Fault Refusal := writeTo (0x90014 + 4 * (cls % 3)) x s
def execLeafCfg (x : RegW) (s : State) : Host.Outcome State Fault Refusal := writeTo 0xA000C x s
def execSecCfg (x : RegW) (s : State) : Host.Outcome State Fault Refusal := writeTo 0xB0010 x s
def execKeyholeCfg (x : RegW) (s : State) : Host.Outcome State Fault Refusal := writeTo 0xC0018 x s
def execKeyholeIndex (x : RegW) (s : State) : Host.Outcome State Fault Refusal := writeTo 0xC001C x s
def execKeyholeAddr (x : RegW) (s : State) : Host.Outcome State Fault Refusal := writeTo 0xC0020 x s
def execKeyholeTrigger (x : RegW) (s : State) : Host.Outcome State Fault Refusal := writeTo 0xC0028 x s
def execChannelSelect (x : RegW) (s : State) : Host.Outcome State Fault Refusal := writeTo 0xD001C x s

/-! ### Pins -/

/-- ALERT_N is asserted: the degraded condition or SAFE_HOLD (10 Table 8). -/
def Mod.alert (m : Mod) : Bool := m.state == .safeHold || (m.running && m.causes != 0)

end Sys2Proof.Machine
end

