-- ==== Sys2Proof/Machine/Records.lean ====
section
/-! DEFINITION. Records (R497 – R505): what JOURNAL_READ, CORNERSTONE_READ and KEYHOLE_READ return, writing the Cornerstone log,
and the Keyhole recorder. -/

namespace Sys2Proof.Machine

/-! ### Entries and records as bytes -/

/-- A journal entry (11 Table 10): 64 bytes, 128 with a launch record. -/
def journalBytes (e : JEntry) : List Byte :=
  le 8 e.seq ++ le 1 e.kind ++ le 1 e.link ++ le 1 e.role ++ le 1 e.opcode ++ le 4 e.session.toNat ++
    (match e.host with
     | some t => timeBytes t
     | none => List.replicate 12 0) ++
    le 1 e.status ++ le 1 (if e.launch.isSome then 16 else 8) ++ le 2 e.tag.toNat ++ le 8 e.aux ++ slice e.hash 0 16 ++
    le 4 e.ref.toNat ++ le 4 (b2n e.byB + 2 * b2n e.host.isNone) ++
    (match e.launch with
     | some l => launchBytes l ++ le 8 0
     | none => [])

/-- A Cornerstone record (11 Table 12); TICK is all ones while the tick is stopped. -/
def recordBytes (r : CRec) : List Byte :=
  let b := le 8 r.seq ++ le 8 r.aux ++ le 8 (r.tick.getD (2 ^ 64 - 1)) ++ le 2 r.type ++ le 1 r.origin ++ [0] ++ slice r.data 0 32
  b ++ le 4 (crc32c b).toNat

/-- A Keyhole snapshot (R504). -/
def keySnapBytes (k : KSnap) : List Byte :=
  le 8 k.seq ++ le 2 k.triggers.toNat ++ le 1 k.values.length ++ le 5 0 ++ k.values.flatMap fun w => le 4 w.toNat

/-- The items, oldest first, that a read returns: at most `n`, and no more than fit in `room` bytes (R499). -/
def takeItems : Nat → Nat → List (Nat × List Byte) → List (Nat × List Byte)
  | 0, _, _ => []
  | _, _, [] => []
  | n + 1, room, x :: l => if x.2.length ≤ room then x :: takeItems n (room - x.2.length) l else []

/-- The payload of a read (R499): NEXT_SEQ, COUNT, reserved, items. Where nothing is returned NEXT_SEQ is FROM_SEQ (DEDUCED, log 75: reading
goes on from there). -/
def seqReply (from_ max : Nat) (l : List (Nat × List Byte)) : List Byte :=
  let out := takeItems max 65520 (l.filter fun x => decide (from_ ≤ x.1))
  le 8 (match out.getLast? with
    | some x => x.1 + 1
    | none => from_) ++ le 2 out.length ++ le 6 0 ++ out.flatMap Prod.snd

/-- A read of records by SEQ: FROM_SEQ (8), MAX (2, 1 – 1,024). -/
def runSeqRead (l : Mod → List (Nat × List Byte)) (r : Req) (m : Mod) : Mod :=
  let n := field r.payload 8 2
  if !sized r.payload 10 then malformed r m
  else if n < 1 ∨ 1024 < n then refuse r ePARAM (badField 8) m
  else answer r stOK (seqReply (field r.payload 0 8) n (l m)) m

/-- JOURNAL_READ (R499). -/
def execJournalRead (p : Packet) (s : State) : Host.Outcome State Fault Refusal :=
  commandM 0x70 p (runSeqRead fun m => m.recs.journal.map fun e => (e.seq, journalBytes e)) s

/-- CORNERSTONE_READ (R501). -/
def execCornerstoneRead (p : Packet) (s : State) : Host.Outcome State Fault Refusal :=
  commandM 0x71 p (runSeqRead fun m => m.recs.log.map fun r => (r.seq, recordBytes r)) s

/-! ### Writing the log (R500, R501) -/

/-- Records dropped are reported in one record of type 0x00F0 once the queue has room. -/
def Mod.reportDropped (m : Mod) : Mod :=
  if m.recs.dropped = 0 ∨ 4096 ≤ m.recs.queue.length then m
  else
    let m' := m.record 0xF0 0 (le 4 (sat 0xFFFFFFFF m.recs.dropped) ++ le 4 0 ++ le 8 m.recs.dropAux)
    { m' with recs := { m'.recs with dropped := 0, dropAux := 0 } }

/-- The oldest queued record is written to the log of 65,536; an event of class 8 and Keyhole trigger 7. -/
def Mod.writeRecord (m : Mod) : Mod :=
  match m.recs.queue with
  | [] => m
  | r :: rest =>
    let l := m.recs.log ++ [r]
    let m := { m with recs := { m.recs with
      queue := rest, log := l.drop (l.length - 65536), wrapped := m.recs.wrapped || decide (65536 < l.length) } }
    ((m.event 8 (le 8 r.seq ++ le 2 r.type ++ le 6 0)).fire 7).reportDropped

/-- CORNERSTONE_WRITE: the always-on domain has power, and records come to it over the always-on links (R25). -/
def execCornerstoneWrite (s : State) : Host.Outcome State Fault Refusal :=
  happens (fun m => m.sup.vaux && (m.die.up.getLsbD 0 || m.die.up.getLsbD 1) && !m.recs.queue.isEmpty) Mod.writeRecord s

/-! ### The Keyhole (R503 – R505) -/

/-- Recording stops or resumes at the boundary. Triggers that fired in the tick before a freeze are not recorded. -/
def Mod.applyFreeze (m : Mod) (on : Bool) : Mod :=
  { m with keyhole := { m.keyhole with frozen := if on then some m.tick.now else none } }

/-- KEYHOLE_FREEZE (R505). -/
def runKeyholeFreeze (r : Req) (m : Mod) : Mod :=
  let f := field r.payload 0 1
  if !sized r.payload 1 then malformed r m
  else if 1 < f then refuse r ePARAM (badField 0) m
  else later r (.keyholeFreeze (f == 1)) m

def execKeyholeFreeze (p : Packet) (s : State) : Host.Outcome State Fault Refusal := commandM 0x72 p runKeyholeFreeze s

/-- KEYHOLE_READ (R504). -/
def execKeyholeRead (p : Packet) (s : State) : Host.Outcome State Fault Refusal :=
  commandM 0x73 p (runSeqRead fun m => m.keyhole.ring.map fun k => (k.seq, keySnapBytes k)) s

/-- KEYHOLE_CLEAR at its boundary: the ring and MISSED are emptied, and a record names the key of the session (R505). -/
def Mod.applyClear (m : Mod) (i : Side) (sid : Word) : Mod :=
  let held := m.keyhole.ring.length
  let m := m.record 0x82 (i.num + 1) (le 4 (m.keyOf i sid) ++ le 4 sid.toNat ++ le 1 i.num ++ le 3 0 ++ le 2 held)
  { m with keyhole := { m.keyhole with ring := [], missed := 0 } }

/-- KEYHOLE_CLEAR (R505). -/
def runKeyholeClear (r : Req) (m : Mod) : Mod :=
  if r.payload ≠ [] then malformed r m
  else later r (.keyholeClear r.w.link r.w.session) m

def execKeyholeClear (p : Packet) (s : State) : Host.Outcome State Fault Refusal := commandM 0x74 p runKeyholeClear s

/-- Trigger bits set. -/
def trigCount (t : BitVec 9) : Nat := ((List.range 9).filter t.getLsbD).length

/-- At a boundary the triggers of the tick become due; a recorder that is frozen at it counts them in MISSED. -/
def Mod.keyholeDue (m : Mod) : Mod :=
  let k := m.keyhole
  if k.frozen.isSome then
    { m with keyhole := { k with missed := k.missed + trigCount k.fired, fired := 0 } }
  else { m with keyhole := { k with due := k.due ||| k.fired, fired := 0 } }

/-- The periodic trigger: every PERIOD × 100 ticks while recording is enabled. -/
def Mod.keyholePeriod (m : Mod) : Mod :=
  let p := bits m.keyhole.cfg.toNat 31 16
  if p = 0 ∨ !m.keyhole.cfg.getLsbD 15 then { m with keyhole := { m.keyhole with periodic := 0 } }
  else if p * 100 ≤ m.keyhole.periodic + 1 then ({ m with keyhole := { m.keyhole with periodic := 0 } }).fire 6
  else { m with keyhole := { m.keyhole with periodic := m.keyhole.periodic + 1 } }

/-- The values of the used slots at the last boundary, in slot order; capture clears nothing (R21, R529). -/
def State.slotValues (s : State) : List Word :=
  (List.range 64).filterMap fun n => match s.cur.keyhole.slots.find? fun k => k.1 == n with
    | some k => if k.2.addr = 0xFFFFFFFF then none
      else some ((s.regValue s.cur.worker k.2.sel k.2.addr.toNat).getD 0)
    | none => none

/-- KEYHOLE_SNAPSHOT (R503): the boundary after the triggers has come; one snapshot carries them all. -/
def execKeyholeSnapshot (s : State) : Host.Outcome State Fault Refusal :=
  let v := s.slotValues
  happens (fun m => m.tick.running && m.keyhole.due != 0)
    (fun m =>
      let l := m.keyhole.ring ++ [{ seq := m.keyhole.seq, triggers := m.keyhole.due, values := v }]
      { m with keyhole := { m.keyhole with
          ring := l.drop (l.length - 4096), seq := m.keyhole.seq + 1, due := 0 } }) s

/-- KEYHOLE_AUTO_RESUME (R505): 6,000,000 ticks after the freeze. -/
def execKeyholeAutoResume (s : State) : Host.Outcome State Fault Refusal :=
  happens (fun m => m.tick.running && (match m.keyhole.frozen with
      | some t => decide (t + 6000000 ≤ m.tick.now)
      | none => false))
    (fun m => { m with keyhole := { m.keyhole with frozen := none } }) s

end Sys2Proof.Machine
end

