-- ==== Sys2Proof/Machine/Felso.lean ====
section
/-! DEFINITION. The Felso debug port (R506 – R510, R530): its transactions, register reads and writes, and the cores it
selects, halts, steps, breaks and inspects. -/

namespace Sys2Proof.Machine

/-- STATUS codes of R506. -/
def fDone : Nat := 0
def fLocked : Nat := 1
def fCrc : Nat := 2
def fAddress : Nat := 3
def fBusy : Nat := 4

/-- The CRC-8 of a transaction: OP, ADDR and DATA, each MSB first. -/
def felsoCrc (op : Nat) (x : FelsoTx) : Byte := crc8 ([BitVec.ofNat 8 op] ++ beWord x.addr ++ beWord x.data)

/-- DATA of an answer for which the spec names none: free. -/
def Mod.noData (m : Mod) : Word := BitVec.ofNat 32 (Config.openReading 0xE0008 m.freeCtr)

/-- The answer that the module returns. -/
def Mod.felsoAnswer (m : Mod) (status : Nat) (data : Word) : Mod :=
  { m with felso := { m.felso with answer := (status, data) } }

/-- An answer with a status alone. -/
def Mod.felsoSays (m : Mod) (status : Nat) : Mod :=
  { (m.felsoAnswer status m.noData) with freeCtr := m.freeCtr + 1 }

/-- A transaction: a leaf serves the port; a bad CRC is answered and nothing else happens; DATA is kept as the mask of a register
write that follows. -/
def felso (op : Nat) (x : FelsoTx) (run : State → State) (s : State) : Host.Outcome State Fault Refusal :=
  .next
    (if !s.cur.serving s.cur.felsoLeaf then s
    else if felsoCrc op x ≠ x.crc then onCur (fun m => m.felsoSays fCrc) s
    else onCur (fun m => { m with felso := { m.felso with prevData := x.data } }) (run s))

/-- An operation on the live module that needs a target unlocked. -/
def needs (t : Mod → Nat) (run : Mod → Mod) (s : State) : State :=
  onCur (fun m => if m.isUnlocked (t m) then run m else m.felsoSays fLocked) s

/-! ### Registers -/

/-- FELSO_REGISTER_READ: without target 0 unlocked only the identity registers. It clears RC fields (R21). -/
def felsoRead (x : FelsoTx) (s : State) : State :=
  let i := s.cur.felsoLeaf
  let a := x.addr.toNat
  if !s.cur.isUnlocked 0 && decide (0x18 < a) then onCur (fun m => m.felsoSays fLocked) s
  else if (s.regValue i (s.cur.selOf .felso) a).isNone then onCur (fun m => m.felsoSays fAddress) s
  else
    let p := s.readReg .felso i a
    onCur (fun m => m.felsoAnswer fDone p.1) p.2

def execFelsoRegisterRead (x : FelsoTx) (s : State) : Host.Outcome State Fault Refusal := felso 0x01 x (felsoRead x) s

/-- The journal entry of a register write over Felso: as REG_WRITE, LINK 2, session 0, administrator (R498, R530). -/
def Mod.felsoJournal (m : Mod) (status : Nat) (x : FelsoTx) (mask : Word) : Mod :=
  m.journal
    { seq := 0, kind := 0, link := 2, role := 3, opcode := 0xA1, session := 0, host := m.hostNow, status := status, tag := 0
      aux := m.aux, hash := paramHash 0xA1 (le 4 x.addr.toNat ++ le 4 x.data.toNat ++ le 4 mask.toNat ++ le 4 0), ref := 0
      byB := m.felsoLeaf == .b, launch := none }

/-- FELSO_REGISTER_WRITE (R530): checked as REG_WRITE with administrator rights against the state of the leaf that serves Felso. -/
def felsoWrite (x : FelsoTx) (m : Mod) : Mod :=
  let mask := m.felso.prevData
  let a := x.addr.toNat
  match legal 0xA1 (m.leaf m.felsoLeaf).state with
  | .a =>
    match m.writeBad m.felso.sel a x.data mask with
    | some (st, _) => (m.felsoJournal st x mask).felsoSays (if (m.regAt m .a m.felso.sel a).isNone then fAddress else fBusy)
    | none => ((m.felsoJournal stOK x mask).acceptWrite .felso a x.data mask none).felsoSays fDone
  | _ => m.felsoSays fBusy

def execFelsoRegisterWrite (x : FelsoTx) (s : State) : Host.Outcome State Fault Refusal :=
  felso 0x02 x (needs (fun _ => 0) (felsoWrite x)) s

/-- FELSO_STATUS. -/
def execFelsoStatus (x : FelsoTx) (s : State) : Host.Outcome State Fault Refusal :=
  felso 0x10 x (fun s => onCur (fun m => m.felsoAnswer fDone ((s.regValue m.felsoLeaf .init 0xE0004).getD 0)) s) s

/-! ### Cores -/

/-- The target of the selected core. -/
def Mod.coreTarget (m : Mod) : Nat := targetOfCore m.felso.core

/-- The core is a course that Felso may not touch: one reserved for the thermal model (R509). -/
def Mod.coreBarred (m : Mod) (c : Nat) : Bool := decide (16 ≤ c) && m.reservedCourse (c - 16)

/-- A core number that names a leaf core or a fitted course. -/
def Variant.core (v : Variant) (c : Nat) : Bool := decide (c < 16) || (decide (c < 32) && v.courses.getLsbD (c - 16))

/-- SELECT_CORE: ADDR[7:0] = leaf × 8 + core, or 0x10 + course. -/
def execSelectCore (x : FelsoTx) (s : State) : Host.Outcome State Fault Refusal :=
  let c := x.addr.toNat % 256
  felso 0x11 x (needs (fun _ => targetOfCore c) fun m =>
    if !m.variant.core c then m.felsoSays fAddress
    else if m.coreBarred c then m.felsoSays fBusy
    else { m with felso := { m.felso with core := c } }.felsoSays fDone) s

/-- FELSO_HALT. -/
def execFelsoHalt (x : FelsoTx) (s : State) : Host.Outcome State Fault Refusal :=
  felso 0x20 x (needs Mod.coreTarget fun m =>
    if m.coreBarred m.felso.core then m.felsoSays fBusy
    else { m with felso := { m.felso with halted := insertNew m.felso.core m.felso.halted } }.felsoSays fDone) s

/-- FELSO_RESUME. -/
def execFelsoResume (x : FelsoTx) (s : State) : Host.Outcome State Fault Refusal :=
  felso 0x21 x (needs Mod.coreTarget fun m =>
    { m with felso := { m.felso with
        halted := m.felso.halted.filter fun c => c != m.felso.core
        steps := m.felso.steps.filter fun (c : Nat × Nat) => c.1 != m.felso.core } }.felsoSays fDone) s

/-- FELSO_STEP: a halted course issues its next instruction and stays halted; a core that is not halted is busy. -/
def execFelsoStep (x : FelsoTx) (s : State) : Host.Outcome State Fault Refusal :=
  felso 0x22 x (needs Mod.coreTarget fun m =>
    if !m.felso.halted.contains m.felso.core then m.felsoSays fBusy
    else if m.felso.core < 16 then m.felsoSays fDone
    else { m with felso := { m.felso with steps := amod 0 m.felso.steps m.felso.core (· + 1) } }.felsoSays fDone) s

/-- Breakpoints of a core. -/
def Mod.breaksOf (m : Mod) (c : Nat) : List Word := (m.felso.breaks.filter fun (b : Nat × Word) => b.1 == c).map Prod.snd

/-- SET_BREAKPOINT: eight per core. -/
def execSetBreakpoint (x : FelsoTx) (s : State) : Host.Outcome State Fault Refusal :=
  felso 0x23 x (needs Mod.coreTarget fun m =>
    let c := m.felso.core
    if m.coreBarred c then m.felsoSays fBusy
    else if (m.breaksOf c).contains x.addr then m.felsoSays fDone
    else if 8 ≤ (m.breaksOf c).length then m.felsoSays fBusy
    else { m with felso := { m.felso with breaks := m.felso.breaks ++ [(c, x.addr)] } }.felsoSays fDone) s

/-- CLEAR_BREAKPOINT. -/
def execClearBreakpoint (x : FelsoTx) (s : State) : Host.Outcome State Fault Refusal :=
  felso 0x24 x (needs Mod.coreTarget fun m =>
    if m.coreBarred m.felso.core then m.felsoSays fBusy
    else { m with felso := { m.felso with
        breaks := m.felso.breaks.filter fun (b : Nat × Word) => !(b.1 == m.felso.core && b.2 == x.addr) } }.felsoSays fDone) s

/-- The address lies in the 4 MiB SRAM of the selected course (R235). -/
def Mod.inSram (m : Mod) (a : Nat) : Bool := decide (16 ≤ m.felso.core) && decide (a + 4 ≤ 4194304)

/-- MEMORY_READ in the selected core's space: a course's SRAM; elsewhere what Felso wrote there, and before that a free value. -/
def execMemoryRead (x : FelsoTx) (s : State) : Host.Outcome State Fault Refusal :=
  felso 0x30 x (needs Mod.coreTarget fun m =>
    let c := m.felso.core
    let a := x.addr.toNat
    if m.inSram a then
      m.felsoAnswer fDone (BitVec.ofNat 32 (unle (memBytes (m.course (c - 16)).sram a 4)))
    else match m.felso.coreMem.find? fun (e : (Nat × Nat) × Word) => e.1 == (c, a) with
      | some e => m.felsoAnswer fDone e.2
      | none => m.felsoSays fDone) s

/-- MEMORY_WRITE in the selected core's space. -/
def execMemoryWrite (x : FelsoTx) (s : State) : Host.Outcome State Fault Refusal :=
  felso 0x31 x (needs Mod.coreTarget fun m =>
    let c := m.felso.core
    let a := x.addr.toNat
    if m.inSram a then
      (m.setCourse (c - 16) fun k => { k with sram := memWrite k.sram a (le 4 x.data.toNat) }).felsoSays fDone
    else
      { m with felso := { m.felso with
          coreMem := (m.felso.coreMem.filter fun (e : (Nat × Nat) × Word) => e.1 != (c, a)) ++ [((c, a), x.data)] } }.felsoSays
        fDone) s

end Sys2Proof.Machine
end

