-- ==== Sys2Proof/Machine/Tick.lean ====
section
/-! DEFINITION. The tick (R30 – R40): what a tick boundary and the Sense, Actuate, Commit step and Guard phases do, and the
degraded cause TICK_OVERRUN. -/

namespace Sys2Proof.Machine

/-! ### Effects that were accepted for the boundary (R34) -/

/-- One port whose class changes (R97, R347): away from TRUNK its modulator goes dark; a change to TRUNK starts its
loss-of-signal count afresh. -/
def Mod.setClass (m : Mod) (cls p : Nat) : Mod :=
  let old := m.portClass p
  let m := { m with fabric := { m.fabric with classes := aput m.fabric.classes p cls } }
  if old = cls then m
  else if old = 4 then m.setShutter p fun s => { s with emitting := false }
  else if cls = 4 then m.setShutter p fun s => { s with lowRun := 0, highRun := 0 }
  else m

/-- What an accepted change does at its boundary. -/
def Mod.applyEffect (m : Mod) (e : Effect) : Mod :=
  match e with
  | .nothing => m
  | .regWrite _ sel addr value mask => m.applyWrite sel addr value mask
  | .portClass first count cls => (List.range count).foldl (fun m k => m.setClass cls (first + k)) m
  | .loopMode k mode out => m.applyLoopMode k mode out
  | .loopSetpoint k v => m.applySetpoint k v
  | .hostTimeSet t => m.applyHostTime t
  | .timeRate base ppb => m.applyTimeRate base ppb
  | .timeStep base t => m.applyTimeStep base t
  | .keyholeFreeze on => m.applyFreeze on
  | .powerRequest d q => m.applyPower d q
  | .idleTimer cls ticks => m.applyIdle cls ticks
  | .blinkOpen w scope ticks => m.openBlink w scope ticks
  | .abortRun id => m.abortPlan id
  | .holdRelease => { m with leaves := { m.leaves with holdRelease := true } }
  | .leafSwitch j w forced => m.applySwitch j w forced
  | .warmReset cause => m.askReset cause
  | .enrolKey k by_ => m.applyEnrol k by_
  | .revokeKey id by_ label => m.applyRevoke id by_ label
  | .keyholeClear i sid => m.applyClear i sid
  | .jobStart slot w cs mib => m.applyStart slot w cs mib
  | .jobResume slot => m.applyResume slot
  | .jobStop slot => m.applyStop slot
  | .reinit f w => m.startReinit f (some w)

/-- One accepted change: its effect, and its OK reply, held and ready to leave; or the reply that waited behind one. -/
def applyDeferred (m : Mod) (d : Deferred) : Mod :=
  let m := m.applyEffect d.eff
  let m := match d.reply with
    | some w =>
      let m := m.hold w w.link stOK []
      if (m.link w.link).state = 2 then m.emit w.link (replyPkt w 0 stOK []) else m
    | none => m
  match d.pkt with
  | some q => m.emit q.1 q.2
  | none => m

/-- Every accepted change, in the order of acceptance, link A's before link B's (R166). -/
def Mod.applyAll (m : Mod) : Mod := m.inOrder.foldl applyDeferred { m with deferred := [] }

/-! ### The boundary (R30, R35, R40) -/

/-- The counters of a boundary: TICK_COUNT, aux time, module power, idle links, and the time bases. -/
def Mod.countTick (m : Mod) (auxPeriods power : Nat) : Mod :=
  let idle (l : LinkSt) : LinkSt := if l.state = 2 then { l with idleTicks := l.idleTicks + 1 } else l
  let now := m.tick.now + 1
  ({ m with
    tick := { m.tick with now := now, count := m.tick.count + 1, phase := .boundary, refRun := min 1000 (m.tick.refRun + 1) }
    aux := m.aux + auxPeriods
    links := { a := idle m.links.a, b := idle m.links.b }
    power := { m.power with meter := m.power.meter.add now power, peak := m.power.peak.put power } }).advanceTime

/-- JOB_STALL (R546): whether job DMA waited for bandwidth in the tick, and the largest share of the channels' bandwidth used in it,
come from traffic that the model does not hold: free values (log 26). -/
def Mod.stallTick (m : Mod) : Mod :=
  let waits := (m.mortar.courses.any fun k => !k.dma.isEmpty) && decide (Config.openReading 0xD0018 m.tick.now % 2 = 1)
  if m.leaves.active.isNone then m
  else { m with die := { m.die with
      stalls := m.die.stalls + b2n waits, util := m.die.util.put (Config.openReading 0xD001A m.tick.now % 101) } }

/-- The peaks of the module's registers. -/
def Mod.mapPeaks (m : Mod) (f : Peak → Peak) : Mod :=
  let use (u : Cycles) : Cycles := { u with peak := f u.peak }
  { m with
    engine := { m.engine with peakTicks := f m.engine.peakTicks }
    fabric := { m.fabric with peak := f m.fabric.peak }
    trowel := { m.trowel with use := { a := use m.trowel.use.a, b := use m.trowel.use.b } }
    mortar := { m.mortar with solvePeak := f m.mortar.solvePeak }
    power := { m.power with peak := f m.power.peak }
    die := { m.die with util := f m.die.util } }

/-- Sticky bits set in the tick that ended can be cleared from here on, and what a register reports of its peaks is what came up
to here (R20). -/
def Mod.settleSticky (m : Mod) : Mod :=
  let m := m.mapPeaks fun p => { p with edge := 0 }
  { m with
    tick := { m.tick with rebased := m.tick.rebased.settle }
    recs := { m.recs with jBase := m.recs.jSeq }
    leaves := { m.leaves with holdSeen := m.leaves.holdSeen.settle }
    trowel := { m.trowel with
      stageSat := m.trowel.stageSat.settle, loops := m.trowel.loops.map fun p => (p.1, { p.2 with sticky := p.2.sticky.settle }) }
    mortar := { m.mortar with flags := m.mortar.flags.settle, range := m.mortar.range.settle }
    time := { m.time with rebased := m.time.rebased.settle } }

/-- Consecutive ticks with and without carried work (R39). -/
def Mod.carryTick (m : Mod) : Mod :=
  let c := m.tick.carried
  { m with tick := { m.tick with
      carried := false, carryRun := if c then m.tick.carryRun + 1 else 0, cleanRun := if c then 0 else m.tick.cleanRun + 1 } }

/-- The ratio of aux time to tick time over 100,000 ticks (R390). -/
def Mod.ratioTick (m : Mod) : Mod :=
  if m.time.ratioFrom + 100000 ≤ m.tick.now then
    { m with time := { m.time with ratio := (m.aux : Int) - m.time.stopVal, stopVal := m.aux, ratioFrom := m.tick.now } }
  else m

/-- A leaf in BOOT with no valid image, or asked to, enters RECOVERY (01 Table 7). -/
def Mod.recoverTick (m : Mod) (i : Side) : Mod :=
  let l := m.leaf i
  if l.state = .boot ∧ l.toRecovery ∧ m.serving i ∧ !m.sup.seqHold ∧ m.recs.jUp then
    m.setLeaf i fun l => { l with state := .recovery, toRecovery := false }
  else m

/-- Ticks of clean eligibility of the standby (R417). -/
def Mod.cleanTick (m : Mod) : Mod :=
  let ok := match m.standby with
    | some j => m.eligible j
    | none => false
  { m with leaves := { m.leaves with cleanTicks := if ok then m.leaves.cleanTicks + 1 else 0 } }

/-- Loops not back within 2 s of a warm reset: lane members are LOST, cause 6 (R128). -/
def Mod.loopsTick (m : Mod) : Mod :=
  match m.leaves.loopsOut with
  | none => m
  | some t =>
    if !m.running ∧ t + 200000 ≤ m.tick.now then
      (m.engine.members.filter fun x => x.circ.kind == .lane).foldl (fun m x => m.impair x .lost 6 0xFFFFFFFF)
        { m with leaves := { m.leaves with loopsOut := none } }
    else m

/-- A queued plan waits for the commit ahead: its instant has come (R109), or it is at the head of the queue, eligible, and the
commit is the engine's own (R125). -/
def Mod.waitsFor (m : Mod) (r : Running) (p : Plan) : Bool :=
  let due := p.timed.any fun t => decide (t ≤ m.fabricNow)
  p.state == .queued && ((due && !p.lateAcc) ||
    (r.engine && m.engine.queue.head? == some p.id && decide (p.accepted < m.tick.now) && (due || p.timed.isNone)))

/-- Plans that wait launch DELAYED. -/
def Mod.waitTick (m : Mod) : Mod :=
  match m.engine.run with
  | none => m
  | some r =>
    { m with engine := { m.engine with plans := m.engine.plans.map fun p => if m.waitsFor r p then { p with waited := true } else p } }

/-- Jobs that ran in the tick count it. -/
def Mod.jobTick (m : Mod) : Mod :=
  { m with mortar := { m.mortar with jobs := m.mortar.jobs.map fun p =>
      (p.1, if p.2.state = .running then { p.2 with ticks := p.2.ticks + 1 } else p.2) } }

/-- The engines and channels of the module at a boundary, after the accepted changes; `b` is the module at the boundary
before. -/
def Mod.engineTicks (m b : Mod) : Mod :=
  let m := m.detTick.keyholeDue.rootTick.scaleTick.applyCal.failLasers.endHandovers.spaceSpares.neighTicks
  let m := { m with osc := { m.osc with bodies := [] } }
  (if m.running then m.refreshStandIns else m).powerTick b |>.jobTick

/-- The states of the leaves at a boundary, in the order of R46, and what follows from them: a module reset comes before every
other change of state, then the resets of single leaves. -/
def Mod.stateTicks (m : Mod) : Mod :=
  let m := { m with sills := m.sills.map Sill.atBoundary }
  if m.leaves.resetAt.isSome then { m with leaves := { m.leaves with resetNow := true } }
  else ((m.leafResets.leaseTick.stateTick.recoverTick .a).recoverTick .b).loopsTick.causeTick

/-- A tick boundary; `b` is the module at the boundary before. -/
def boundary (auxPeriods power : Nat) (b m : Mod) : Mod :=
  let m := (m.countTick auxPeriods power).stallTick.failTick.applyAll.settleSticky.seeHold
  let m := (m.engineTicks b).stateTicks
  let m := m.cleanTick.trialTick.waitTick.carryTick.ratioTick.keyholePeriod.darkenDue
  (m.stateEvent b.byte).reportBytes

/-- TICK_BOUNDARY (R35): `auxPeriods` of the aux oscillator have passed, and the module drew `power` in the tick. -/
def execTickBoundary (auxPeriods power : Nat) (s : State) : Host.Outcome State Fault Refusal :=
  .next (if s.cur.inPhase .guard then
      let m := boundary auxPeriods power s.snap s.cur
      { s with cur := m, snap := m }
    else s)

/-! ### Sense (R32, R185) -/

/-- The sills whose sets reach a leaf: it sends them, and the link is up. -/
def Mod.setsFrom (m : Mod) (i : Side) (sent : BitVec 8) : List Nat :=
  (List.range 8).filter fun k => sent.getLsbD k && (m.sill k).linkTo i && (m.sill k).powered

/-- The lease reports in the sets that a leaf receives (R406, R410, R412). -/
def Mod.seeEpochs (m : Mod) (i : Side) (got : List Nat) : Mod :=
  let top := (got.map fun k => (m.sill k).epoch).foldl max 0
  if !m.serving i then m
  else m.setLeaf i fun l =>
    { l with highest := max l.highest top, stopped := l.stopped || ((m.holds i || l.granting) && decide (l.epoch < top)) }

/-- Sills from which neither leaf has a set in this tick (R569); a carried set is not a failed one. -/
def Mod.countSilent (m : Mod) (got carried : List Nat) : Mod :=
  (List.range 8).foldl (fun m k => m.setSill k fun s =>
    { s with silent := if got.contains k then 0 else if carried.contains k then s.silent else min 3 (s.silent + 1) }) m

/-- The single-tick readings of one port monitor and what counts on them (R185, R213): each tap comes with the set of its tile's
sill; a port that the operand does not list reads as before. -/
def Mod.portReading (got : List Nat) (ports : List PortReading) (m : Mod) (p : Nat) : Mod :=
  let k := 0x2000 + p
  let l := m.loop k
  let listed := ports.find? fun x => x.port == p
  let inHere := got.contains (sillOfTile (p / 32))
  let outHere := got.contains (sillOfTile (51 + p / 32))
  if !inHere && !outHere then m
  else
    let x := listed.getD { port := p, inTap := l.inTap, outTap := l.outTap }
    let a := if inHere then clampI (-4000) 1000 (if listed.isSome then m.scaledDb (sillOfTile (p / 32)) x.inTap else x.inTap) else l.inTap
    let b := if outHere then clampI (-4000) 1000 (if listed.isSome then m.scaledDb (sillOfTile (51 + p / 32)) x.outTap else x.outTap) else l.outTap
    let atLimit (v : Int) : Bool := v == -4000 || v == 1000
    let m := m.setLoop k fun l => { l with
      inTap := a, outTap := b, rangeRun := if atLimit a || atLimit b then min 8 (l.rangeRun + 1) else 0 }
    if 512 ≤ p ∨ !inHere then m
    else
      let m := m.setShutter p fun s =>
        { s with
          lowRun := if a < -3000 then min 20 (s.lowRun + 1) else 0
          highRun := if -2700 ≤ a then min 100 (s.highRun + 1) else 0 }
      match m.osc.blink with
      | some w =>
        if m.tick.count < w.start + w.ticks then
          { m with osc := { m.osc with blink := some (w.reading m.tick.count p a) } }
        else m
      | none => m

/-- The receive power of one OSC receiver (R337). -/
def Mod.oscReading (m : Mod) (x : Nat × Int) : Mod :=
  let s := m.shutter x.1
  let f := filtered s.oscPower x.2
  let low := decide (f < -2400 * 65536) && m.isTrunk x.1
  let m := m.setShutter x.1 fun s => { s with oscPower := some f, oscLow := low }
  if low && !s.oscLow then m.event3 x.1 9 [] else m

/-- The temperature of one tile, in 1/16 °C (R563). -/
def Mod.tileReading (m : Mod) (raw : Nat × Int) : Mod :=
  let x := (raw.1, m.scaled (sillOfTile raw.1) raw.2)
  let hot := if 1200 < x.2 then min 2 (aget 0 m.fabric.tileHot x.1 + 1) else 0
  { m with
    fabric := { m.fabric with
      tileTemp := aput m.fabric.tileTemp x.1 x.2, tileHot := aput m.fabric.tileHot x.1 hot
      tileOver := if x.2 ≤ 1168 then m.fabric.tileOver.filter (· != x.1) else m.fabric.tileOver }
    cal := { m.cal with tempHist := addTemp m.cal.tempHist x } }

/-- A MEMS rail half in limits (R449), in mV. -/
def railOk (mv : Nat) : Bool := decide (25000 ≤ mv) && decide (mv ≤ 26000)

/-- The MEMS rail (R449). -/
def Mod.railReading (m : Mod) (pos neg : Nat) : Mod :=
  let ok := railOk pos && railOk neg
  { m with sup := { m.sup with memsOk := ok, memsBad := if ok then 0 else min 2 (m.sup.memsBad + 1) } }

/-- The bias of a laser in service enters its 1 s mean, in 0.01 mA (R334). -/
def Mod.biasReading (m : Mod) (k : Nat) : Mod :=
  if m.inService k then
    let n := 0x3000 + k
    let v := roundNE (valOf (m.expOf n stOut) (m.loop n).u * 100)
    m.setLaser k fun l => { l with bias := l.bias.add m.tick.now v.toNat }
  else m

/-- The readings of the laser bank (R25): its temperature, and each laser's monitor and bias. -/
def Mod.bankReadings (m : Mod) (i : SenseIn) : Mod :=
  if !m.dieLink 2 then m
  else
    let m := { m with
      cal := { m.cal with tempHist := addTemp m.cal.tempHist (76, i.bankTemp) }, trowel := { m.trowel with bankTemp := i.bankTemp } }
    let m := (i.laserMon.filter fun x => m.variant.laser x.1).foldl (fun m x => m.setLaser x.1 fun l => { l with monitor := x.2 }) m
    (m.osc.lasers.map Prod.fst).foldl Mod.biasReading m

/-- The conversions that are not a port's: temperatures, with the sets of their sills, the rail, and the lasers over a laser
link. -/
def Mod.houseReadings (m : Mod) (got : List Nat) (i : SenseIn) : Mod :=
  let m := (i.tileTemp.filter fun x => decide (x.1 < 68) && got.contains (sillOfTile x.1)).foldl Mod.tileReading m
  let m := m.bankReadings i
  let hist := (i.sillTemp.filter fun x => decide (x.1 < 8) && got.contains x.1).foldl (fun h x => addTemp h (68 + x.1, m.scaled x.1 x.2))
    m.cal.tempHist
  { m with
    cal := { m.cal with tempHist := hist }
    mortar := { m.mortar with temp := i.mortarTemp, coolRun := if i.mortarTemp < 95 then m.mortar.coolRun + 1 else 0 } }
    |>.railReading i.memsPos i.memsNeg

/-- The sills whose sets the working leaf has: its own, and while the cross-link is up those that reach the other (R26, R539). -/
def Mod.workSets (m : Mod) (gotA gotB : List Nat) : List Nat :=
  let own := if m.worker = .a then gotA else gotB
  let far := if m.worker = .a then gotB else gotA
  if m.leaves.xlinkUp then own ++ far.filter fun k => !own.contains k else own

/-- What a signature sweep reads: the drop monitor of a drop window, the output tap of an add window's port (R328). -/
def Mod.sweepReadings (m : Mod) (got : List Nat) (drops : List (Nat × Int)) : Mod :=
  let read (x : Signature) : Signature :=
    match isDrop x.window, drops.find? fun d => d.1 == x.window && got.contains (sillOfWindow d.1) with
    | true, some d => { x with now := m.scaledDb (sillOfWindow d.1) d.2 }
    | true, none => x
    | false, _ => { x with now := (m.loop (0x2000 + portOfWindow x.window)).outTap }
  { m with cal := { m.cal with sweeps := m.cal.sweeps.map read } }

/-- SENSE: carried sets are neither converted nor sent. The replies that the boundary made ready leave first. -/
def runSense (i : SenseIn) (m : Mod) : Mod :=
  let m := (({ m with tick := { m.tick with phase := .sense } } : Mod).pump .a).pump .b
  let car := carriedNow ((List.range 8).filter fun k => (m.sill k).powered) m.tick.senseLate
    ((List.range 8).filter i.carried.getLsbD)
  let sent := ~~~(BitVec.ofNat 8 (maskOf 8 car))
  let gotA := m.setsFrom .a (i.arrivedA &&& sent)
  let gotB := m.setsFrom .b (i.arrivedB &&& sent)
  let got := m.workSets gotA gotB
  let m := { m with
    tick := { m.tick with
      senseGot := got, senseLate := car, ovrSense := m.tick.ovrSense + car.length
      carried := m.tick.carried || !car.isEmpty }
    leaves := { m.leaves with retries := m.leaves.retries + i.retries } }
  let m := ((m.seeEpochs .a gotA).seeEpochs .b gotB).countSilent (gotA ++ gotB) car
  let m := (List.range 544).foldl (Mod.portReading got i.ports) m
  let m := (i.oscPower.filter fun x => decide (x.1 < 512)).foldl Mod.oscReading m
  let m := ((m.houseReadings got i).sweepReadings got i.dropMon).calTriggers.seeHold
  if m.running then (m.readback (BitVec.ofNat 8 (maskOf 8 got))).verify got i.dropMon
  else m

def execSense (i : SenseIn) (s : State) : Host.Outcome State Fault Refusal := happens (fun m => m.inPhase .boundary) (runSense i) s

/-! ### Actuate (R66, R405) -/

/-- A loop's output is latched: its window's sill holds the working leaf's epoch VALID and is reached, or a laser link carries a
laser's; while the boot parks the windows no sill holds any epoch and the booting leaf drives (DEDUCED, log 91). What SAFE_HOLD or
the loss of drive holds stays (R178, R205). -/
def Mod.latches (m : Mod) (late : List Nat) (k : Nat) : Bool :=
  (m.holdCauses k &&& 0xC) == 0 &&
    (if k < 7616 then
      let n := sillOfWindow k
      let s := m.sill n
      !late.contains n && !s.away && m.reaches m.worker n &&
        (if m.bootLoops then s.lease == .none
         else s.lease == .valid && s.epoch == (m.leaf m.worker).epoch && m.holds m.worker)
    else loopClass k != some .monitor && m.dieLink 2 && (m.holds m.worker || m.bootLoops))

/-- The sills and the laser bank latch the outputs of the leaf that drives them; the others, and carried ones, keep theirs. -/
def Mod.latchHeaters (m : Mod) (late : List Nat) : Mod :=
  let new := (m.trowel.loops.filter fun p => m.latches late p.1).map fun p =>
    (p.1, if p.1 < 7616 ∧ m.wstate p.1 = .cold then 0 else roundNE (valOf (m.expOf p.1 stOut) p.2.u * 65536))
  { m with trowel := { m.trowel with heater := new.foldl (fun h x => aput h x.1 x.2) m.trowel.heater } }

/-- ACTUATE: a batch prepared in the last Commit step is at the sills, and fires whatever became of its leaf since (09 Table 5);
`failed` are the elements that do not move, `carried` the sills whose batch is carried. -/
def runActuate (failed : List Elem) (carried : List Nat) (m : Mod) : Mod :=
  let late := carriedNow ((List.range 8).filter fun k => (m.sill k).powered) m.tick.actuateLate carried
  let m := { m with tick := { m.tick with
    phase := .actuate, actuateLate := late
    ovrActuate := m.tick.ovrActuate + late.length, carried := m.tick.carried || !late.isEmpty } }
  ((((m.endSweeps.setSwitches).latchHeaters late).fireBatch failed late).fireTests failed late).actuateShutters

def execActuate (failed : List Elem) (carried : List Nat) (s : State) : Host.Outcome State Fault Refusal :=
  happens (fun m => m.inPhase .compute) (runActuate failed carried) s

/-! ### Commit step (R32, R408) -/

/-- A Commit step passes at a sill: one more without a RENEW while its lease is VALID (R409). -/
def Sill.missStep (k : Sill) : Sill := if k.lease = .valid then { k with missed := min 3 (k.missed + 1) } else k

/-- The RENEWs of a leaf that takes itself for the holder, to every sill it reaches but those given. -/
def Mod.sendRenews (m : Mod) (i : Side) (unreached : BitVec 8) : Mod :=
  if m.holds i then
    ((List.range 8).filter fun k => m.reaches i k && !unreached.getLsbD k).foldl (fun m k => m.renewAt i k) m
  else m

/-- COMMIT_STEP: `carried` says that the engine's step is carried, `unreached` which sills no RENEW reaches. -/
def runCommitStep (carried : Bool) (unreached : BitVec 8) (m : Mod) : Mod :=
  let m := { m with tick := { m.tick with
    phase := .commit, commitLate := carried, ovrCommit := m.tick.ovrCommit + b2n carried, carried := m.tick.carried || carried } }
  let m := m.checkItems
  let drove := m.running && m.holds m.worker
  let m := if drove then m.engineStep carried else m
  let m := { m with
    leaves := { m.leaves with noDrive := if drove then 0 else m.leaves.noDrive + 1 }, sills := m.sills.map Sill.missStep }
  ((m.sendRenews .a unreached).sendRenews .b unreached).answerTime.sendLaunched.sendFrames

def execCommitStep (carried : Bool) (unreached : BitVec 8) (s : State) : Host.Outcome State Fault Refusal :=
  happens (fun m => m.inPhase .actuate) (runCommitStep carried unreached) s

/-! ### Guard (R32, R411, R421) -/

/-- The degraded condition that the standby reports: the module's as last mirrored, and CROSS_LINK (R42). -/
def Mod.standbyDegraded (m : Mod) (mirrored : Bool) : Mod :=
  match m.standby, m.leaves.active with
  | some j, some i =>
    let d := (m.leaf i).degraded
    m.setLeaf j fun l =>
      { l with degraded := (if mirrored then d else l.degraded) || m.xlinkDown, hasMirror := l.hasMirror || mirrored }
  | _, _ => m

/-- What a mirror message settles: peaks that the standby reports start afresh, and the tick of the mirror is noted (R189). -/
def Mod.mirrored (m : Mod) : Mod :=
  (m.mapPeaks fun p => { p with guard := 0 }) |> fun m => { m with leaves := { m.leaves with mirrorTick := some m.tick.now } }

/-- GUARD: `mirrorOk` says that the mirror message arrives valid. Reads of RC fields through the standby clear with the mirror
(R21, R524). -/
def runGuard (mirrorOk : Bool) (s : State) : State :=
  let m := { s.cur with tick := { s.cur.tick with phase := .guard } }.crossTick mirrorOk
  let mirrored := mirrorOk && m.leaves.xlinkUp && m.leaves.active.isSome && m.standby.isSome
  let m := if mirrored then (m.mirrorClears s.mirror).mirrored else m
  let m := ((m.standbyDegraded mirrored).sendGrants .a).sendGrants .b
  { s with cur := m, mirror := if mirrored then m else s.mirror }

def execGuard (mirrorOk : Bool) (s : State) : Host.Outcome State Fault Refusal :=
  .next (if s.cur.inPhase .commit then runGuard mirrorOk s else s)

/-! ### TICK_OVERRUN (R39) -/

/-- OVERRUN_CAUSE_SET: set after 100 consecutive ticks with carried work, cleared after 10,000 with none. -/
def execOverrunCauseSet (s : State) : Host.Outcome State Fault Refusal :=
  happens
    (fun m => m.tick.running && (if m.leaves.causes.getLsbD 0 then decide (10000 ≤ m.tick.cleanRun)
      else decide (100 ≤ m.tick.carryRun)))
    (fun m => { m with leaves := { m.leaves with causes := m.leaves.causes ^^^ 1 } }) s

end Sys2Proof.Machine
end

