-- ==== Sys2Proof/Machine/Dispatch.lean ====
section
/-! DEFINITION. One arm per command: the call of its meaning, or its rejection by name. -/

namespace Sys2Proof.Machine

def exec (i : Instr) (s : State) : Host.Outcome State Fault Refusal :=
  match i with
  | .tickBoundary auxPeriods power => Sys2Proof.Machine.execTickBoundary auxPeriods power s
  | .sense inp => Sys2Proof.Machine.execSense inp s
  | .compute inp => Sys2Proof.Machine.execCompute inp s
  | .actuate failed carried => Sys2Proof.Machine.execActuate failed carried s
  | .commitStep carried unreached => Sys2Proof.Machine.execCommitStep carried unreached s
  | .guard mirrorOk => Sys2Proof.Machine.execGuard mirrorOk s
  | .overrunCauseSet => Sys2Proof.Machine.execOverrunCauseSet s
  | .refclkLoss => Sys2Proof.Machine.execRefclkLoss s
  | .refclkReturn => Sys2Proof.Machine.execRefclkReturn s
  | .clockMove => Sys2Proof.Machine.execClockMove s
  | .vauxRise dt => Sys2Proof.Machine.execVauxRise dt s
  | .vauxFall dt => Sys2Proof.Machine.execVauxFall dt s
  | .vanaRise dt => Sys2Proof.Machine.execVanaRise dt s
  | .vanaFall dt => Sys2Proof.Machine.execVanaFall dt s
  | .vin54Rise dt aux volts refclk b => Sys2Proof.Machine.execVin54Rise dt aux volts refclk b s
  | .vin54Loss dt volts => Sys2Proof.Machine.execVin54Loss dt volts s
  | .vin54Overvoltage dt volts => Sys2Proof.Machine.execVin54Overvoltage dt volts s
  | .resetNAssert lowNs taken => Sys2Proof.Machine.execResetNAssert lowNs taken s
  | .resetNRelease aux b => Sys2Proof.Machine.execResetNRelease aux b s
  | .warmResetStart b => Sys2Proof.Machine.execWarmResetStart b s
  | .bootReadback => Sys2Proof.Machine.execBootReadback s
  | .journalRestart => Sys2Proof.Machine.execJournalRestart s
  | .bootComplete leaf => Sys2Proof.Machine.execBootComplete leaf s
  | .watchdog leaf => Sys2Proof.Machine.execWatchdog leaf s
  | .leafRailCollapse leaf => Sys2Proof.Machine.execLeafRailCollapse leaf s
  | .leafRailReturn leaf => Sys2Proof.Machine.execLeafRailReturn leaf s
  | .selfDiagnosisFailure leaf items => Sys2Proof.Machine.execSelfDiagnosisFailure leaf items s
  | .release leaf => Sys2Proof.Machine.execRelease leaf s
  | .renew leaf sill epoch => Sys2Proof.Machine.execRenew leaf sill epoch s
  | .grant leaf sill epoch => Sys2Proof.Machine.execGrant leaf sill epoch s
  | .forcedGrant leaf sill epoch => Sys2Proof.Machine.execForcedGrant leaf sill epoch s
  | .leaseLapse sill => Sys2Proof.Machine.execLeaseLapse sill s
  | .lapseNotice leaf sill selfOk => Sys2Proof.Machine.execLapseNotice leaf sill selfOk s
  | .revert => Sys2Proof.Machine.execRevert s
  | .standbyReport items => Sys2Proof.Machine.execStandbyReport items s
  | .reportMissing => Sys2Proof.Machine.execReportMissing s
  | .crossLinkDown => Sys2Proof.Machine.execCrossLinkDown s
  | .crossLinkUp cycles => Sys2Proof.Machine.execCrossLinkUp cycles s
  | .dieLinkDown link checkFails => Sys2Proof.Machine.execDieLinkDown link checkFails s
  | .dieLinkUp link => Sys2Proof.Machine.execDieLinkUp link s
  | .sillLinkDown sill leaf => Sys2Proof.Machine.execSillLinkDown sill leaf s
  | .sillLost sill => Sys2Proof.Machine.execSillLost sill s
  | .sillPowerLoss sill => Sys2Proof.Machine.execSillPowerLoss sill s
  | .sillReturn sill => Sys2Proof.Machine.execSillReturn sill s
  | .memsRailFault => Sys2Proof.Machine.execMemsRailFault s
  | .tileOverTemperature tile => Sys2Proof.Machine.execTileOverTemperature tile s
  | .safetyInterlockAssert => Sys2Proof.Machine.execSafetyInterlockAssert s
  | .safetyInterlockRelease => Sys2Proof.Machine.execSafetyInterlockRelease s
  | .packetDiscard link => Sys2Proof.Machine.execPacketDiscard link s
  | .linkFrameRx link f => Sys2Proof.Machine.execLinkFrameRx link f s
  | .linkDownTimeout link => Sys2Proof.Machine.execLinkDownTimeout link s
  | .retrainComplete link => Sys2Proof.Machine.execRetrainComplete link s
  | .sessionLinkTimeout link session => Sys2Proof.Machine.execSessionLinkTimeout link session s
  | .authBackoffEnd link => Sys2Proof.Machine.execAuthBackoffEnd link s
  | .creditedSend link => Sys2Proof.Machine.execCreditedSend link s
  | .resultExpiry link session tag => Sys2Proof.Machine.execResultExpiry link session tag s
  | .nop p => Sys2Proof.Machine.execNop p s
  | .sessionOpen p => Sys2Proof.Machine.execSessionOpen p s
  | .sessionAuth p proof => Sys2Proof.Machine.execSessionAuth p proof s
  | .sessionClose p => Sys2Proof.Machine.execSessionClose p s
  | .identify p => Sys2Proof.Machine.execIdentify p s
  | .attest p => Sys2Proof.Machine.execAttest p s
  | .resultRead p => Sys2Proof.Machine.execResultRead p s
  | .eventSubscribe p => Sys2Proof.Machine.execEventSubscribe p s
  | .resultRelease p => Sys2Proof.Machine.execResultRelease p s
  | .circuitSet p prefer => Sys2Proof.Machine.execCircuitSet p prefer s
  | .circuitClear p prefer => Sys2Proof.Machine.execCircuitClear p prefer s
  | .planStage p => Sys2Proof.Machine.execPlanStage p s
  | .planCheckDone planId prefer => Sys2Proof.Machine.execPlanCheckDone planId prefer s
  | .planCommit p => Sys2Proof.Machine.execPlanCommit p s
  | .planAbort p => Sys2Proof.Machine.execPlanAbort p s
  | .planQuery p => Sys2Proof.Machine.execPlanQuery p s
  | .planSolve p => Sys2Proof.Machine.execPlanSolve p s
  | .circuitQuery p => Sys2Proof.Machine.execCircuitQuery p s
  | .portClassSet p => Sys2Proof.Machine.execPortClassSet p s
  | .portQuery p => Sys2Proof.Machine.execPortQuery p s
  | .blinkOpen p => Sys2Proof.Machine.execBlinkOpen p s
  | .blinkClose => Sys2Proof.Machine.execBlinkClose s
  | .neighbourQuery p => Sys2Proof.Machine.execNeighbourQuery p s
  | .loopMode p => Sys2Proof.Machine.execLoopMode p s
  | .loopSetpoint p => Sys2Proof.Machine.execLoopSetpoint p s
  | .traceArm p => Sys2Proof.Machine.execTraceArm p s
  | .traceRead p => Sys2Proof.Machine.execTraceRead p s
  | .calRun p => Sys2Proof.Machine.execCalRun p s
  | .calRunDone => Sys2Proof.Machine.execCalRunDone s
  | .calQuery p => Sys2Proof.Machine.execCalQuery p s
  | .jobLoad p => Sys2Proof.Machine.execJobLoad p s
  | .jobVerifyDone slot proof => Sys2Proof.Machine.execJobVerifyDone slot proof s
  | .jobStart p => Sys2Proof.Machine.execJobStart p s
  | .jobPause p => Sys2Proof.Machine.execJobPause p s
  | .jobPauseStopped slot => Sys2Proof.Machine.execJobPauseStopped slot s
  | .jobSaveDone slot => Sys2Proof.Machine.execJobSaveDone slot s
  | .jobResume p => Sys2Proof.Machine.execJobResume p s
  | .jobStop p => Sys2Proof.Machine.execJobStop p s
  | .jobQuery p => Sys2Proof.Machine.execJobQuery p s
  | .jobTimeLimit slot => Sys2Proof.Machine.execJobTimeLimit slot s
  | .timeQuery p => Sys2Proof.Machine.execTimeQuery p s
  | .hostTimeSet p => Sys2Proof.Machine.execHostTimeSet p s
  | .timeRate p => Sys2Proof.Machine.execTimeRate p s
  | .timeStep p => Sys2Proof.Machine.execTimeStep p s
  | .launchSchedule p => Sys2Proof.Machine.execLaunchSchedule p s
  | .scheduledLaunch => Sys2Proof.Machine.execScheduledLaunch s
  | .journalRead p => Sys2Proof.Machine.execJournalRead p s
  | .cornerstoneRead p => Sys2Proof.Machine.execCornerstoneRead p s
  | .keyholeFreeze p => Sys2Proof.Machine.execKeyholeFreeze p s
  | .keyholeRead p => Sys2Proof.Machine.execKeyholeRead p s
  | .keyholeClear p => Sys2Proof.Machine.execKeyholeClear p s
  | .fwStageBegin p => Sys2Proof.Machine.execFwStageBegin p s
  | .fwStageData p => Sys2Proof.Machine.execFwStageData p s
  | .fwStageEnd p proof => Sys2Proof.Machine.execFwStageEnd p proof s
  | .fwStageWriteDone => Sys2Proof.Machine.execFwStageWriteDone s
  | .fwConfirm p => Sys2Proof.Machine.execFwConfirm p s
  | .autoConfirm => Sys2Proof.Machine.execAutoConfirm s
  | .goldenCopyDone => Sys2Proof.Machine.execGoldenCopyDone s
  | .fwTrialExpiry => Sys2Proof.Machine.execFwTrialExpiry s
  | .fwQuery p => Sys2Proof.Machine.execFwQuery p s
  | .unlockChallenge p => Sys2Proof.Machine.execUnlockChallenge p s
  | .unlockResponse p proof => Sys2Proof.Machine.execUnlockResponse p proof s
  | .keyEnrol p => Sys2Proof.Machine.execKeyEnrol p s
  | .powerQuery p => Sys2Proof.Machine.execPowerQuery p s
  | .powerRequest p => Sys2Proof.Machine.execPowerRequest p s
  | .idleTimerSet p => Sys2Proof.Machine.execIdleTimerSet p s
  | .regRead p => Sys2Proof.Machine.execRegRead p s
  | .regWrite p => Sys2Proof.Machine.execRegWrite p s
  | .functionReinit p => Sys2Proof.Machine.execFunctionReinit p s
  | .functionReinitDone function back => Sys2Proof.Machine.execFunctionReinitDone function back s
  | .firmwareReinit function => Sys2Proof.Machine.execFirmwareReinit function s
  | .warmReset p => Sys2Proof.Machine.execWarmReset p s
  | .holdRelease p => Sys2Proof.Machine.execHoldRelease p s
  | .leafSwitch p => Sys2Proof.Machine.execLeafSwitch p s
  | .recoveryEnter p => Sys2Proof.Machine.execRecoveryEnter p s
  | .vendorService opcode p => Sys2Proof.Machine.execVendorService opcode p s
  | .fabricCfg r => Sys2Proof.Machine.execFabricCfg r s
  | .memsBudget r => Sys2Proof.Machine.execMemsBudget r s
  | .brickSelect r => Sys2Proof.Machine.execBrickSelect r s
  | .loopSelect r => Sys2Proof.Machine.execLoopSelect r s
  | .paramSelect r => Sys2Proof.Machine.execParamSelect r s
  | .paramData r => Sys2Proof.Machine.execParamData r s
  | .paramApply r => Sys2Proof.Machine.execParamApply r s
  | .expSelect r => Sys2Proof.Machine.execExpSelect r s
  | .expData r => Sys2Proof.Machine.execExpData r s
  | .mortarCfg r => Sys2Proof.Machine.execMortarCfg r s
  | .detProfileChange => Sys2Proof.Machine.execDetProfileChange s
  | .guardCfg r => Sys2Proof.Machine.execGuardCfg r s
  | .calCfg r => Sys2Proof.Machine.execCalCfg r s
  | .laserCfg r => Sys2Proof.Machine.execLaserCfg r s
  | .laserSelect r => Sys2Proof.Machine.execLaserSelect r s
  | .shutterForce w r => Sys2Proof.Machine.execShutterForce w r s
  | .timeCfg r => Sys2Proof.Machine.execTimeCfg r s
  | .fabricId r => Sys2Proof.Machine.execFabricId r s
  | .powerCfg r => Sys2Proof.Machine.execPowerCfg r s
  | .idleTicks cls r => Sys2Proof.Machine.execIdleTicks cls r s
  | .leafCfg r => Sys2Proof.Machine.execLeafCfg r s
  | .secCfg r => Sys2Proof.Machine.execSecCfg r s
  | .keyholeCfg r => Sys2Proof.Machine.execKeyholeCfg r s
  | .keyholeIndex r => Sys2Proof.Machine.execKeyholeIndex r s
  | .keyholeAddr r => Sys2Proof.Machine.execKeyholeAddr r s
  | .keyholeTrigger r => Sys2Proof.Machine.execKeyholeTrigger r s
  | .channelSelect r => Sys2Proof.Machine.execChannelSelect r s
  | .keyholeSnapshot => Sys2Proof.Machine.execKeyholeSnapshot s
  | .keyholeAutoResume => Sys2Proof.Machine.execKeyholeAutoResume s
  | .cornerstoneWrite => Sys2Proof.Machine.execCornerstoneWrite s
  | .commitLaunch prefer badContexts => Sys2Proof.Machine.execCommitLaunch prefer badContexts s
  | .windowStart window => Sys2Proof.Machine.execWindowStart window s
  | .commitComplete => Sys2Proof.Machine.execCommitComplete s
  | .commitEnd => Sys2Proof.Machine.execCommitEnd s
  | .engineCommit prefer => Sys2Proof.Machine.execEngineCommit prefer s
  | .solveStart => Sys2Proof.Machine.execSolveStart s
  | .solveDone result prefer => Sys2Proof.Machine.execSolveDone result prefer s
  | .thermalModelSlice first second => Sys2Proof.Machine.execThermalModelSlice first second s
  | .ffMiss => Sys2Proof.Machine.execFfMiss s
  | .ffLost => Sys2Proof.Machine.execFfLost s
  | .ffRestore => Sys2Proof.Machine.execFfRestore s
  | .courseFail course reason => Sys2Proof.Machine.execCourseFail course reason s
  | .thermalPartnerReturn => Sys2Proof.Machine.execThermalPartnerReturn s
  | .dmaDone course tag mediaError => Sys2Proof.Machine.execDmaDone course tag mediaError s
  | .implausibleHold index => Sys2Proof.Machine.execImplausibleHold index s
  | .implausibleRelease index => Sys2Proof.Machine.execImplausibleRelease index s
  | .traceDone => Sys2Proof.Machine.execTraceDone s
  | .refCheck refs => Sys2Proof.Machine.execRefCheck refs s
  | .calibrationRun cls unit taps => Sys2Proof.Machine.execCalibrationRun cls unit taps s
  | .wrongLaneCheck window => Sys2Proof.Machine.execWrongLaneCheck window s
  | .signatureSweep window lit peak => Sys2Proof.Machine.execSignatureSweep window lit peak s
  | .wrongLaneTimeout window => Sys2Proof.Machine.execWrongLaneTimeout window s
  | .laserHandover laser => Sys2Proof.Machine.execLaserHandover laser s
  | .laserFailover laser => Sys2Proof.Machine.execLaserFailover laser s
  | .laserEol laser => Sys2Proof.Machine.execLaserEol laser s
  | .probeLaserFailure laser => Sys2Proof.Machine.execProbeLaserFailure laser s
  | .losEntry port => Sys2Proof.Machine.execLosEntry port s
  | .losExit port => Sys2Proof.Machine.execLosExit port s
  | .probingPulse port => Sys2Proof.Machine.execProbingPulse port s
  | .probingPulseEnd port => Sys2Proof.Machine.execProbingPulseEnd port s
  | .shutterOpened port => Sys2Proof.Machine.execShutterOpened port s
  | .oscFrameRx f => Sys2Proof.Machine.execOscFrameRx f s
  | .neighbourUp port => Sys2Proof.Machine.execNeighbourUp port s
  | .neighbourLost port => Sys2Proof.Machine.execNeighbourLost port s
  | .neighbourRecord port => Sys2Proof.Machine.execNeighbourRecord port s
  | .upstreamChange port => Sys2Proof.Machine.execUpstreamChange port s
  | .fabricTimeLock => Sys2Proof.Machine.execFabricTimeLock s
  | .fabricTimeUnlock => Sys2Proof.Machine.execFabricTimeUnlock s
  | .ppsInEdge time => Sys2Proof.Machine.execPpsInEdge time s
  | .ppsInLoss => Sys2Proof.Machine.execPpsInLoss s
  | .ppsOutPulse => Sys2Proof.Machine.execPpsOutPulse s
  | .ppsOutEnd => Sys2Proof.Machine.execPpsOutEnd s
  | .idleTimerExpiry domain => Sys2Proof.Machine.execIdleTimerExpiry domain s
  | .domainEntry domain wake => Sys2Proof.Machine.execDomainEntry domain wake s
  | .domainWake domain => Sys2Proof.Machine.execDomainWake domain s
  | .throttle down => Sys2Proof.Machine.execThrottle down s
  | .scrub bad => Sys2Proof.Machine.execScrub bad s
  | .channelFailure channel => Sys2Proof.Machine.execChannelFailure channel s
  | .attBatchPrepare => Sys2Proof.Machine.execAttBatchPrepare s
  | .felsoRelock target => Sys2Proof.Machine.execFelsoRelock target s
  | .felsoRegisterRead x => Sys2Proof.Machine.execFelsoRegisterRead x s
  | .felsoRegisterWrite x => Sys2Proof.Machine.execFelsoRegisterWrite x s
  | .felsoStatus x => Sys2Proof.Machine.execFelsoStatus x s
  | .selectCore x => Sys2Proof.Machine.execSelectCore x s
  | .felsoHalt x => Sys2Proof.Machine.execFelsoHalt x s
  | .felsoResume x => Sys2Proof.Machine.execFelsoResume x s
  | .felsoStep x => Sys2Proof.Machine.execFelsoStep x s
  | .setBreakpoint x => Sys2Proof.Machine.execSetBreakpoint x s
  | .clearBreakpoint x => Sys2Proof.Machine.execClearBreakpoint x s
  | .memoryRead x => Sys2Proof.Machine.execMemoryRead x s
  | .memoryWrite x => Sys2Proof.Machine.execMemoryWrite x s
  | .mma course w => Sys2Proof.Machine.execMma course w s
  | .mmat course w => Sys2Proof.Machine.execMmat course w s
  | .mmaw course w => Sys2Proof.Machine.execMmaw course w s
  | .mmas course w => Sys2Proof.Machine.execMmas course w s
  | .mmad course w => Sys2Proof.Machine.execMmad course w s
  | .mmax course w => Sys2Proof.Machine.execMmax course w s
  | .outer course w => Sys2Proof.Machine.execOuter course w s
  | .conv1 course w => Sys2Proof.Machine.execConv1 course w s
  | .accz course w => Sys2Proof.Machine.execAccz course w s
  | .accset course w => Sys2Proof.Machine.execAccset course w s
  | .vadd course w => Sys2Proof.Machine.execVadd course w s
  | .vsub course w => Sys2Proof.Machine.execVsub course w s
  | .vmul course w => Sys2Proof.Machine.execVmul course w s
  | .vfma course w => Sys2Proof.Machine.execVfma course w s
  | .vmax course w => Sys2Proof.Machine.execVmax course w s
  | .vmin course w => Sys2Proof.Machine.execVmin course w s
  | .vabs course w => Sys2Proof.Machine.execVabs course w s
  | .vneg course w => Sys2Proof.Machine.execVneg course w s
  | .vclamp course w => Sys2Proof.Machine.execVclamp course w s
  | .vrcp course w => Sys2Proof.Machine.execVrcp course w s
  | .vrsq course w => Sys2Proof.Machine.execVrsq course w s
  | .vexp2 course w => Sys2Proof.Machine.execVexp2 course w s
  | .vlog2 course w => Sys2Proof.Machine.execVlog2 course w s
  | .vcmp course w => Sys2Proof.Machine.execVcmp course w s
  | .vsel course w => Sys2Proof.Machine.execVsel course w s
  | .vand course w => Sys2Proof.Machine.execVand course w s
  | .vor course w => Sys2Proof.Machine.execVor course w s
  | .vxor course w => Sys2Proof.Machine.execVxor course w s
  | .vshl course w => Sys2Proof.Machine.execVshl course w s
  | .vshr course w => Sys2Proof.Machine.execVshr course w s
  | .qnt course w => Sys2Proof.Machine.execQnt course w s
  | .reqnt course w => Sys2Proof.Machine.execReqnt course w s
  | .expal course w => Sys2Proof.Machine.execExpal course w s
  | .dqnt course w => Sys2Proof.Machine.execDqnt course w s
  | .cvtfi course w => Sys2Proof.Machine.execCvtfi course w s
  | .cvtif course w => Sys2Proof.Machine.execCvtif course w s
  | .exprd course w => Sys2Proof.Machine.execExprd course w s
  | .expwr course w => Sys2Proof.Machine.execExpwr course w s
  | .pack course w => Sys2Proof.Machine.execPack course w s
  | .unpack course w => Sys2Proof.Machine.execUnpack course w s
  | .rsumr course w => Sys2Proof.Machine.execRsumr course w s
  | .rsumc course w => Sys2Proof.Machine.execRsumc course w s
  | .rmaxr course w => Sys2Proof.Machine.execRmaxr course w s
  | .rminr course w => Sys2Proof.Machine.execRminr course w s
  | .rargmax course w => Sys2Proof.Machine.execRargmax course w s
  | .rargmin course w => Sys2Proof.Machine.execRargmin course w s
  | .pscan course w => Sys2Proof.Machine.execPscan course w s
  | .xred course w => Sys2Proof.Machine.execXred course w s
  | .xredo course w => Sys2Proof.Machine.execXredo course w s
  | .xbcast course w => Sys2Proof.Machine.execXbcast course w s
  | .xgath course w => Sys2Proof.Machine.execXgath course w s
  | .xbar course w => Sys2Proof.Machine.execXbar course w s
  | .ld course w => Sys2Proof.Machine.execLd course w s
  | .st course w => Sys2Proof.Machine.execSt course w s
  | .lds course w => Sys2Proof.Machine.execLds course w s
  | .sts course w => Sys2Proof.Machine.execSts course w s
  | .copy course w => Sys2Proof.Machine.execCopy course w s
  | .fill course w => Sys2Proof.Machine.execFill course w s
  | .dmain course w => Sys2Proof.Machine.execDmain course w s
  | .dmaout course w => Sys2Proof.Machine.execDmaout course w s
  | .dma2d course w => Sys2Proof.Machine.execDma2d course w s
  | .dmawait course w => Sys2Proof.Machine.execDmawait course w s
  | .gather course w => Sys2Proof.Machine.execGather course w s
  | .scatter course w => Sys2Proof.Machine.execScatter course w s
  | .scatadd course w => Sys2Proof.Machine.execScatadd course w s
  | .snap course w => Sys2Proof.Machine.execSnap course w s
  | .br course w => Sys2Proof.Machine.execBr course w s
  | .brc course w => Sys2Proof.Machine.execBrc course w s
  | .call course w => Sys2Proof.Machine.execCall course w s
  | .ret course w => Sys2Proof.Machine.execRet course w s
  | .loop course w => Sys2Proof.Machine.execLoop course w s
  | .endl course w => Sys2Proof.Machine.execEndl course w s
  | .setr course w => Sys2Proof.Machine.execSetr course w s
  | .addr course w => Sys2Proof.Machine.execAddr course w s
  | .mulr course w => Sys2Proof.Machine.execMulr course w s
  | .cmpr course w => Sys2Proof.Machine.execCmpr course w s
  | .tdesc course w => Sys2Proof.Machine.execTdesc course w s
  | .waitd course w => Sys2Proof.Machine.execWaitd course w s
  | .yield course w => Sys2Proof.Machine.execYield course w s
  | .halt course w => Sys2Proof.Machine.execHalt course w s
  | .gcfg course w => Sys2Proof.Machine.execGcfg course w s
  | .gstat course w => Sys2Proof.Machine.execGstat course w s
  | .flagclr course w => Sys2Proof.Machine.execFlagclr course w s
  | .tickrd course w => Sys2Proof.Machine.execTickrd course w s
  | .perf course w => Sys2Proof.Machine.execPerf course w s
  | .rng course w => Sys2Proof.Machine.execRng course w s
  | .prop course w => Sys2Proof.Machine.execProp course w s
  | .trap course w => Sys2Proof.Machine.execTrap course w s
  | .instrNop course w => Sys2Proof.Machine.execInstrNop course w s
  | .ffin course w => Sys2Proof.Machine.execFfin course w s
  | .ffout course w => Sys2Proof.Machine.execFfout course w s
  | .sillLinkRestored sill leaf => Sys2Proof.Machine.execSillLinkRestored sill leaf s
  | .faultNAssert => Sys2Proof.Machine.execFaultNAssert s
  | .undefinedOpcode opcode p => Sys2Proof.Machine.execUndefinedOpcode opcode p s

end Sys2Proof.Machine
end

