-- ==== Sys2Proof/Safety.lean ====
section
/-! DEFINITION. What a safe run is, and the words that statements about commands use: the packet a command carries, what the
module is when a packet reaches its opcode's own step, and whether it gets there. -/

namespace Sys2Proof.Machine

/-- No fault within `k` steps from `s`. -/
def Safe (k : Nat) (s : State) : Prop :=
  ∀ r : Fault, Host.Core.run Sys2Proof.core k s ≠ .fault r

/-! ### Packet commands -/

/-- The opcode and the packet of a command that comes in a packet with a defined opcode; VENDOR_SERVICE and
UNDEFINED_OPCODE have statements of their own. -/
def packetOf (c : Instr) : Option (Nat × Packet) :=
  match c with
  | .nop p => some (0x00, p)
  | .sessionOpen p => some (0x01, p)
  | .sessionAuth p _ => some (0x02, p)
  | .sessionClose p => some (0x03, p)
  | .identify p => some (0x04, p)
  | .attest p => some (0x05, p)
  | .resultRead p => some (0x06, p)
  | .eventSubscribe p => some (0x07, p)
  | .resultRelease p => some (0x08, p)
  | .circuitSet p _ => some (0x10, p)
  | .circuitClear p _ => some (0x11, p)
  | .planStage p => some (0x12, p)
  | .planCommit p => some (0x13, p)
  | .planAbort p => some (0x14, p)
  | .planQuery p => some (0x15, p)
  | .planSolve p => some (0x16, p)
  | .circuitQuery p => some (0x17, p)
  | .portClassSet p => some (0x30, p)
  | .portQuery p => some (0x31, p)
  | .blinkOpen p => some (0x32, p)
  | .neighbourQuery p => some (0x33, p)
  | .loopMode p => some (0x40, p)
  | .loopSetpoint p => some (0x41, p)
  | .traceArm p => some (0x42, p)
  | .traceRead p => some (0x43, p)
  | .calRun p => some (0x44, p)
  | .calQuery p => some (0x45, p)
  | .jobLoad p => some (0x50, p)
  | .jobStart p => some (0x51, p)
  | .jobPause p => some (0x52, p)
  | .jobResume p => some (0x53, p)
  | .jobStop p => some (0x54, p)
  | .jobQuery p => some (0x55, p)
  | .timeQuery p => some (0x60, p)
  | .hostTimeSet p => some (0x61, p)
  | .timeRate p => some (0x62, p)
  | .timeStep p => some (0x63, p)
  | .launchSchedule p => some (0x64, p)
  | .journalRead p => some (0x70, p)
  | .cornerstoneRead p => some (0x71, p)
  | .keyholeFreeze p => some (0x72, p)
  | .keyholeRead p => some (0x73, p)
  | .keyholeClear p => some (0x74, p)
  | .fwStageBegin p => some (0x80, p)
  | .fwStageData p => some (0x81, p)
  | .fwStageEnd p _ => some (0x82, p)
  | .fwConfirm p => some (0x83, p)
  | .fwQuery p => some (0x84, p)
  | .unlockChallenge p => some (0x85, p)
  | .unlockResponse p _ => some (0x86, p)
  | .keyEnrol p => some (0x87, p)
  | .powerQuery p => some (0x90, p)
  | .powerRequest p => some (0x91, p)
  | .idleTimerSet p => some (0x92, p)
  | .regRead p => some (0xA0, p)
  | .regWrite p => some (0xA1, p)
  | .functionReinit p => some (0xA2, p)
  | .warmReset p => some (0xA3, p)
  | .holdRelease p => some (0xA4, p)
  | .leafSwitch p => some (0xA5, p)
  | .recoveryEnter p => some (0xA6, p)
  | .fabricCfg x => some (0xA1, regPacket x 0x40004)
  | .memsBudget x => some (0xA1, regPacket x 0x40008)
  | .brickSelect x => some (0xA1, regPacket x 0x40010)
  | .loopSelect x => some (0xA1, regPacket x 0x50010)
  | .paramSelect x => some (0xA1, regPacket x 0x50030)
  | .paramData x => some (0xA1, regPacket x 0x50034)
  | .paramApply x => some (0xA1, regPacket x 0x50038)
  | .expSelect x => some (0xA1, regPacket x 0x5003C)
  | .expData x => some (0xA1, regPacket x 0x50040)
  | .mortarCfg x => some (0xA1, regPacket x 0x60008)
  | .guardCfg x => some (0xA1, regPacket x 0x60018)
  | .calCfg x => some (0xA1, regPacket x 0x70004)
  | .laserCfg x => some (0xA1, regPacket x 0x80004)
  | .laserSelect x => some (0xA1, regPacket x 0x80008)
  | .shutterForce w x => some (0xA1, regPacket x (0x80180 + 4 * (w % 16)))
  | .timeCfg x => some (0xA1, regPacket x 0x10014)
  | .fabricId x => some (0xA1, regPacket x 0x80014)
  | .powerCfg x => some (0xA1, regPacket x 0x90010)
  | .idleTicks cls x => some (0xA1, regPacket x (0x90014 + 4 * (cls % 3)))
  | .leafCfg x => some (0xA1, regPacket x 0xA000C)
  | .secCfg x => some (0xA1, regPacket x 0xB0010)
  | .keyholeCfg x => some (0xA1, regPacket x 0xC0018)
  | .keyholeIndex x => some (0xA1, regPacket x 0xC001C)
  | .keyholeAddr x => some (0xA1, regPacket x 0xC0020)
  | .keyholeTrigger x => some (0xA1, regPacket x 0xC0028)
  | .channelSelect x => some (0xA1, regPacket x 0xD001C)
  | _ => none

/-- The state after an admitted command whose own step is `f`. -/
def State.ran (s : State) (code : Nat) (p : Packet) (f : Req → Mod → Mod) : State :=
  { s with cur := f (packetReq p (opRow code)) (s.cur.taken (opRow code) p) }

/-! ### Felso -/

/-- The operation and the transaction of a Felso command. -/
def felsoOf (c : Instr) : Option (Nat × FelsoTx) :=
  match c with
  | .felsoRegisterRead x => some (0x01, x)
  | .felsoRegisterWrite x => some (0x02, x)
  | .felsoStatus x => some (0x10, x)
  | .selectCore x => some (0x11, x)
  | .felsoHalt x => some (0x20, x)
  | .felsoResume x => some (0x21, x)
  | .felsoStep x => some (0x22, x)
  | .setBreakpoint x => some (0x23, x)
  | .clearBreakpoint x => some (0x24, x)
  | .memoryRead x => some (0x30, x)
  | .memoryWrite x => some (0x31, x)
  | _ => none

/-- The port keeps DATA of a transaction with a good CRC, as the mask of a register write that follows (R530). -/
def Mod.felsoKept (m : Mod) (x : FelsoTx) : Mod := { m with felso := { m.felso with prevData := x.data } }

/-! ### Mortar -/

/-- The instruction of a course issues and its encoding is legal. -/
def Mod.executes (m : Mod) (cls op c : Nat) (w : MWord) : Bool := m.issues cls op c w && legalWord cls op w

/-- The state after an instruction that left the module as `m`, the course having moved on. -/
def State.after (s : State) (cls c : Nat) (m : Mod) : State := { s with cur := (m.passed cls c).felsoAfter c }

/-- The state after an instruction that placed its course's pc itself. -/
def State.placed (s : State) (c : Nat) (m : Mod) : State := { s with cur := m.felsoAfter c }

/-- What a tensor instruction starts from: the course's SRAM. -/
def Mod.start (m : Mod) (c : Nat) : Made := { mem := (m.course c).sram, sat := false, exps := [] }

/-! ### The duties of a leaf by state -/

/-- The rows of 04 Table 16 by opcode: cells of BOOT, RECOVERY, STANDBY, READY, COMMITTING and SAFE_HOLD. -/
def table16 : List (List Nat × List Legal) :=
  [ ([0x00, 0x01, 0x02, 0x03, 0x04, 0x06, 0x08], [.a, .a, .a, .a, .a, .a])
  , ([0x05, 0x07], [.s, .a, .a, .a, .a, .a])
  , ([0xA0, 0x71, 0x84], [.a, .a, .a, .a, .a, .a])
  , ([0x15, 0x17, 0x31, 0x33, 0x43, 0x45, 0x55, 0x60, 0x70, 0x73, 0x90], [.s, .s, .a, .a, .a, .a])
  , ([0x12, 0x16, 0x13, 0x10, 0x11], [.s, .s, .s, .a, .a, .h])
  , ([0x14, 0x30, 0x32], [.s, .s, .s, .a, .a, .a])
  , ([0x40, 0x41, 0x44], [.s, .s, .s, .a, .a, .h])
  , ([0x42, 0x72, 0x74, 0x50, 0x51, 0x52, 0x53, 0x54], [.s, .s, .s, .a, .a, .a])
  , ([0x61, 0x62, 0x63, 0x64], [.s, .s, .s, .a, .a, .a])
  , ([0x80, 0x81, 0x82, 0x85, 0x86], [.s, .a, .a, .a, .a, .a])
  , ([0x83, 0x87, 0x91, 0x92], [.s, .s, .s, .a, .a, .a])
  , ([0xA1, 0xA2], [.s, .s, .s, .a, .a, .a])
  , ([0xA3, 0xA6, 0xF0, 0xFF], [.a, .a, .a, .a, .a, .a])
  , ([0xA4], [.s, .s, .s, .s, .s, .a])
  , ([0xA5], [.s, .s, .a, .a, .a, .s]) ]

/-- The states that the columns of 04 Table 16 stand for; READY also stands for DEGRADED. -/
def columns16 : List LeafState := [.boot, .recovery, .standby, .ready, .committing, .safeHold]

/-! ### Reset -/

/-- The registers of RX512-L whose rule gives a reset value other than 0, with Leaf A preferred and the inputs good. -/
def resetValues : List (Nat × Word) :=
  [ (0x00014, 0x00004230), (0x00018, 0x00000100), (0x10010, 0x00000001), (0x10014, 0x80000004),
    (0x10018, 0xFFFF0000), (0x3000C, 0x00100000), (0x40008, 0x00000400), (0x40014, 0x80000000),
    (0x40200, 0x00000003), (0x50014, 0xC0000000), (0x60004, 0x0000FFFF), (0x6000C, 0x00030000),
    (0x60010, 0x009C0000), (0x60018, 0x009F5F04), (0x60030, 0x60006000), (0x70004, 0x3F000020),
    (0x70018, 0x0000FFFF), (0x80004, 0x00000055), (0x8000C, 0x80000000), (0x90004, 0x00000007),
    (0x90024, 0x000000EE), (0xA0004, 0x01010000), (0xA000C, 0x00000001), (0xA0030, 0x00000FFF),
    (0xD0004, 0x33333333), (0x40100, 0x80002200), (0xC0020, 0xFFFFFFFF) ]

/-- The registers whose rule gives the reset value 0 (TROWEL_STATUS and WINDOW_COUNT_A, which count over every loop, left out). -/
def resetZeros : List Nat :=
  [ 0x10004, 0x10008, 0x1000C, 0x1001C, 0x20004, 0x20008, 0x2000C, 0x20010, 0x28004, 0x28008,
    0x2800C, 0x28010, 0x30008, 0x30010, 0x30014, 0x40004, 0x4000C, 0x40010, 0x40300,
    0x50008, 0x50010, 0x50024, 0x50030, 0x50038, 0x5003C, 0x50044, 0x60008, 0x60014, 0x6001C ] ++
  [ 0x60020, 0x60024, 0x60028, 0x6002C, 0x70008, 0x7000C, 0x70010, 0x70014, 0x80008, 0x80010,
    0x80018, 0x8001C, 0x80100, 0x80140, 0x80180, 0x90008, 0x90010, 0x90020, 0x90028, 0x9002C,
    0xA0008, 0xA0010, 0xA0014, 0xA0018, 0xA001C, 0xA0020, 0xA0024, 0xA002C, 0xA0034, 0xB000C ] ++
  [ 0xB0010, 0xC0004, 0xC0018, 0xC0024, 0xC0028, 0xD0008, 0xD0018, 0xD001C, 0xD0024, 0xE0004 ] ++
  [ 0x30018, 0x3001C, 0x10020, 0x10024, 0x5002C, 0xD000C, 0xD0010, 0xD0014 ]

/-! ### What stays as it is -/

/-- Rows of supplies, resets, reinits and sills: what R70 names besides a time without power. -/
def powerRow (c : Instr) : Bool :=
  match c with
  | .vauxRise _ => true
  | .vauxFall _ => true
  | .vanaRise _ => true
  | .vanaFall _ => true
  | .vin54Rise _ _ _ _ _ => true
  | .vin54Loss _ _ => true
  | .vin54Overvoltage _ _ => true
  | .resetNAssert _ _ => true
  | .resetNRelease _ _ => true
  | .warmResetStart _ => true
  | .watchdog _ => true
  | .leafRailCollapse _ => true
  | .leafRailReturn _ => true
  | .firmwareReinit _ => true
  | .functionReinitDone _ _ => true
  | .sillLinkDown _ _ => true
  | .sillLost _ => true
  | .sillPowerLoss _ => true
  | .sillReturn _ => true
  | _ => false

/-- Open sessions on a link. -/
def Mod.sessionsOn (m : Mod) (i : Side) : Nat := (m.sessions.filter fun t => t.link == i).length

/-- Each link has at most 8 open sessions (R148), now, at the last boundary and in the mirror. -/
def State.sessionLimit (s : State) : Prop :=
  ∀ i : Side, s.cur.sessionsOn i ≤ 8 ∧ s.snap.sessionsOn i ≤ 8 ∧ s.mirror.sessionsOn i ≤ 8

/-- The state bytes that the module reports of the last boundary (R35) are those of its leaves there. -/
def State.reported (s : State) : Prop := ∀ i : Side, s.snap.leaves.moduleByte.get i = s.snap.byteOf i

/-- The commands that may change what is reported of the last boundary: the boundary itself, what happens at one, and register
reads, which clear RC fields. -/
def atBoundaryRow (c : Instr) : Bool :=
  match c with
  | .tickBoundary _ _ => true
  | .warmResetStart _ => true
  | .commitLaunch _ _ => true
  | .regRead _ => true
  | .felsoRegisterRead _ => true
  | _ => false

end Sys2Proof.Machine
end

