-- ==== Sys2Proof/Certificates/Slice0/Obligations.lean ====
section
/-! DEFINITION. The statements for the provers. -/

open Sys2Proof Sys2Proof.Machine

/-! ## Steps and commands as a whole -/

/-- A step runs the command at the front of the queue on the state with the rest of the queue; on an empty queue the block idles
(the second part is the model's choice, assumption log 1). -/
def Obligations.StepRunsFrontCommand : Prop :=
  (∀ (c : Instr) (q : List Instr) (s : State), s.pending = c :: q → step s = exec c { s with pending := q }) ∧
    ∀ s : State, s.pending = [] → step s = .next s

/-- No command reads or changes the queue of waiting commands: a step takes exactly its front command from it. -/
def Obligations.QueueIsFifo : Prop :=
  (∀ (c : Instr) (s t : State), exec c s = .next t → t.pending = s.pending) ∧
    ∀ s t : State, step s = .next t → t.pending = s.pending.tail

/-- Every command but VENDOR_SERVICE answers a next state from every state: none faults and none is refused by the model. -/
def Obligations.EveryCommandAnswers : Prop :=
  ∀ (c : Instr) (s : State), (∀ (op : Byte) (p : Packet), c ≠ .vendorService op p) → ∃ t, exec c s = .next t

/-- VENDOR_SERVICE (R169): with one of the opcodes 0xF0 – 0xFF, a packet that passes every check of 04 Table 4 stops the model,
since what it does is not published; any other is turned away as a packet of any opcode is, and the module goes on. -/
def Obligations.VendorServiceStops : Prop :=
  ∀ (op : Byte) (p : Packet) (s : State), 0xF0 ≤ op.toNat →
    (s.cur.admits (opRow op.toNat) p = true → exec (.vendorService op p) s = .refused (.notPublished "vendor service")) ∧
      (s.cur.admits (opRow op.toNat) p = false → ∃ t, exec (.vendorService op p) s = .next t)

/-! ## Packets -/

/-- A packet that arrives without credit is discarded without a reply and counted in LINK_ERRORS.DISCARDS (R165); this holds for
every opcode, defined or not.
PACKET_DISCARD (R144): on a link that is UP, the packet at the front of the receive buffer whose CRC fails leaves it without a
reply and is counted in LINK_ERRORS.DISCARDS; so is one that the buffer does not show (the model's choice, log 98). Nothing else
changes. A packet at the front whose CRC passes, and that came with credit, stays. -/
def Obligations.DiscardedPackets : Prop :=
  (
  ∀ (c : Instr) (p : Packet) (s : State),
    ((∃ code, packetOf c = some (code, p)) ∨ (∃ op : Byte, 0xF0 ≤ op.toNat ∧ c = .vendorService op p) ∨
      (∃ op : Byte, (opOf op.toNat = none ∨ p.version ≠ 1) ∧ c = .undefinedOpcode op p)) →
    s.cur.takes p.link = true → (s.cur.link p.link).noCredit p.payload.length = true →
    exec c s = .next { s with cur := s.cur.setLink p.link fun l => { l with discards := l.discards + 1 } }) ∧ (
  ∀ (i : Side) (s : State), (s.cur.leaf i).state ≠ .off → (s.cur.leaf i).inReset = false → (s.cur.link i).state = 2 →
    ((∀ b t, (s.cur.link i).received = b :: t → packetCrcOk b = false) →
      exec (.packetDiscard i) s = .next { s with cur := s.cur.setLink i fun l =>
        { l with discards := l.discards + 1, received := l.received.tail } }) ∧
      (∀ b t, (s.cur.link i).received = b :: t → packetCrcOk b = true →
        (s.cur.link i).noCredit (b.length - 32) = false → exec (.packetDiscard i) s = .next s))

/-- The checks of the header, in the order of 04 Table 4 (R154, R168, R147, R148, R150): what the sender of a defined opcode
hears, the credit of its packet settled. -/
def Obligations.HeaderChecksInOrder : Prop :=
  ∀ (c : Instr) (code : Nat) (p : Packet) (s : State), packetOf c = some (code, p) → s.cur.takes p.link = true →
    (s.cur.link p.link).noCredit p.payload.length = false →
    let o := opRow code
    let hears (st : Nat) (d : List Byte) : Prop :=
      exec c s = .next { s with cur := (s.cur.credited p).turnAway (packetReq p o) st d }
    let clean := packetClean p = true ∧ p.len8.toNat ≤ 8192
    let proven := (s.cur.session p.link p.session).elim 0 Session.role
    let member := if code = 0x01 then p.session = 0 else p.session ≠ 0 ∧ (s.cur.session p.link p.session).isSome
    let low := p.role.toNat < minRole o p.payload ∨ (p.role.toNat < 2 ∧ overrideAsked code p.payload = true)
    (p.version ≠ 1 → hears eVERSION (plain ++ [2])) ∧
      (p.version = 1 → packetClean p = false → hears ePARAM (detail 0x12 noField noIndex)) ∧
      (p.version = 1 → packetClean p = true → 8192 < p.len8.toNat → hears ePARAM (badField noField)) ∧
      (p.version = 1 → clean → ¬ member → hears eAUTH (detail 7 noField noIndex)) ∧
      (p.version = 1 → clean → member → proven < p.role.toNat → hears eAUTH (detail 9 noField noIndex)) ∧
      (p.version = 1 → clean → member → p.role.toNat ≤ proven → low → hears eAUTH (detail 8 noField noIndex))

/-- The tag and duplicate rule (R161, 04 Table 7) for a packet whose header passes: its five rows. The last two run the packet as
a new command, of which `cleared` says that an older result under the tag is dropped. -/
def Obligations.DuplicateRule : Prop :=
  ∀ (c : Instr) (code : Nat) (p : Packet) (s : State), packetOf c = some (code, p) → s.cur.takes p.link = true →
    (s.cur.link p.link).noCredit p.payload.length = false → headerCheck (opRow code) p (s.cur.credited p) = none →
    let r := packetReq p (opRow code)
    let hears (flags st : Nat) (d : List Byte) : Prop :=
      exec c s = .next { s with cur := (s.cur.credited p).sendReply r.w flags st d }
    (∀ h, s.cur.knownFor p = some h → h.final = none → h.hash = r.hash → hears fRepeat stPENDING []) ∧
      (∀ h, s.cur.knownFor p = some h → h.final = none → h.hash ≠ r.hash →
        hears fDupTag eBUSY (detail 0x0C noField noIndex)) ∧
      (∀ h st pl, s.cur.knownFor p = some h → h.final = some (st, pl) → h.hash = r.hash → hears fRepeat st pl) ∧
      (∀ h st pl, s.cur.knownFor p = some h → h.final = some (st, pl) → h.hash ≠ r.hash →
        s.cur.checked (opRow code) p = true ∧
          ∀ g ∈ (s.cur.cleared p).held, ¬ (g.link = p.link ∧ g.session = p.session ∧ g.tag = p.tag)) ∧
      (s.cur.knownFor p = none → s.cur.checked (opRow code) p = true)

/-- Each leaf accepts or refuses opcodes by its own state (R178): the table's cells; for a packet that passes the checks before
them, S is answered with E_STATE, H with E_SAFETY, and A is checked further: within the limits of step 8 the opcode's own step runs;
a leaf in OFF sends no reply and nothing changes. -/
def Obligations.LegalityByState : Prop :=
  (∀ row ∈ table16, ∀ code ∈ row.1,
      (∀ k : Fin 6, some (legal code (columns16.get ⟨k.val, k.isLt⟩)) = row.2[k.val]?) ∧
        legal code .degraded = legal code .ready) ∧
    ∀ (c : Instr) (code : Nat) (p : Packet) (s : State), packetOf c = some (code, p) →
      let o := opRow code
      ((s.cur.leaf p.link).state = .off → exec c s = .next s) ∧
        (s.cur.checked o p = true → legal code (s.cur.leaf p.link).state = .s →
          exec c s = .next { s with cur := (s.cur.credited p).turnAway (packetReq p o) eSTATE plain }) ∧
        (s.cur.checked o p = true → legal code (s.cur.leaf p.link).state = .h →
          exec c s = .next { s with cur := (s.cur.credited p).turnAway (packetReq p o) eSAFETY plain }) ∧
        (s.cur.checked o p = true → legal code (s.cur.leaf p.link).state = .a →
          (limitCheck o (packetReq p o) (s.cur.cleared p)).isNone = true → s.cur.admits o p = true)

/-- The limits of step 8 (R167, R160): the 1,025th command that would await a final is refused with PENDING_LIMIT, and a command
whose reservation does not fit its session's 32 MiB with RESULT_STORE_FULL. -/
def Obligations.PendingLimits : Prop :=
  ∀ (c : Instr) (code : Nat) (p : Packet) (s : State), packetOf c = some (code, p) →
    s.cur.checked (opRow code) p = true → legal code (s.cur.leaf p.link).state = .a →
    let r := packetReq p (opRow code)
    let m := s.cur.cleared p
    let busy (d : Nat) : Prop :=
      exec c s = .next { s with cur := (s.cur.credited p).overLimit r eBUSY (detail d noField noIndex) }
    (1024 ≤ m.awaiting p.link → busy 0x0E) ∧
      (m.awaiting p.link < 1024 → p.session ≠ 0 → 33554432 < m.storeUsed p.link p.session + 32 + (opRow code).size → busy 0x0D)

/-- A packet command that is not admitted has no effect but on the two links, the sessions (whose count of lost events a delivery
sets to 0), the replies that wait, the held results and the records: nothing else of the module changes (R154, R156). -/
def Obligations.RefusalHasNoEffect : Prop :=
  ∀ (c : Instr) (code : Nat) (p : Packet) (s t : State), packetOf c = some (code, p) →
    s.cur.admits (opRow code) p = false → exec c s = .next t →
    ∃ l n d h j, t = { s with cur := { s.cur with links := l, sessions := n, deferred := d, held := h, recs := j } }

/-- UNDEFINED_OPCODE (R168, R169, R176): what the sender hears of a packet with another VERSION, an unclean header, a payload too
long, or an opcode that no table gives. -/
def Obligations.UndefinedOpcodeAnswered : Prop :=
  ∀ (op : Byte) (p : Packet) (s : State), opOf op.toNat = none ∨ p.version ≠ 1 → s.cur.takes p.link = true →
    (s.cur.link p.link).noCredit p.payload.length = false →
    let hears (st : Nat) (d : List Byte) : Prop :=
      exec (.undefinedOpcode op p) s =
        .next { s with cur := (s.cur.credited p).sendReply (packetWaiter p op.toNat) 0 st d }
    (p.version ≠ 1 → hears eVERSION (plain ++ [2])) ∧
      (p.version = 1 → packetClean p = false → hears ePARAM (detail 0x12 noField noIndex)) ∧
      (p.version = 1 → packetClean p = true → 8192 < p.len8.toNat → hears ePARAM (badField noField)) ∧
      (p.version = 1 → packetClean p = true → p.len8.toNat ≤ 8192 → hears ePARAM (detail 3 noField noIndex))

/-- A first reply that is the final (R156 – R158, R160, R142), on a link that is UP with credit and nothing waiting, past the
boundary: the packet sent carries VERSION 1, the command's role, session, tag and opcode, the REPLY flag, the status, the leaf's
state byte and the padded payload, the bytes on the wire are its data frames, and the result is held; and nothing changes but the
link, the held results and the journal. -/
def Obligations.FirstReplyIsSentAndHeld : Prop :=
  ∀ (r : Req) (st : Nat) (pl : List Byte) (m : Mod),
    (m.link r.w.link).state = 2 → (m.link r.w.link).waiting = [] → (m.link r.w.link).canSend (pad8 pl).length = true →
    m.blocked r.w = false → (m.tick.running = true → m.tick.phase ≠ .boundary) →
    ((m.leaf r.w.link).state = .standby → m.xlinkDown = false) →
    let t := answer r st pl m
    let out : OutPkt :=
      { version := 1, role := r.w.role, session := r.w.session, tag := r.w.tag, opcode := r.w.opcode, flags := fReply, status := st
        state := m.leaves.moduleByte.get r.w.link, payload := pad8 pl }
    (t.link r.w.link).sent = (m.link r.w.link).sent ++ [out] ∧
      (t.link r.w.link).wire = (m.link r.w.link).wire ++
        (framesFor (m.link r.w.link).txSeq out).map (fun x => x.bytes (m.link r.w.link).rxAck) ∧
      (∀ h ∈ t.held, h.link = r.w.link → h.session = r.w.session → h.tag = r.w.tag → h.final.isSome = true) ∧
      (∀ h ∈ m.held, h.link = r.w.link → h.session = r.w.session → h.tag = r.w.tag → h.final = none →
        ∃ g ∈ t.held, g.link = h.link ∧ g.session = h.session ∧ g.tag = h.tag ∧ g.final = some (st, pad8 pl)) ∧
      ∃ l h j, t = { m with links := l, held := h, recs := j }

/-- A command accepted that is not a query, and one refused with E_AUTH, is entered in the change journal with its link, session,
role, opcode, tag, status and parameter hash (R152, R498, R146); a query is not. The entry is the newest; but one of Zudin A stands
before the entries of Zudin B's commands of the same tick (R166, R498), whose SEQ then moves up by one (the model's choice, log
109). -/
def Obligations.JournalOfCommands : Prop :=
  ∀ (r : Req) (st : Nat) (m : Mod), m.recs.journal.length < 262144 →
    (r.query = true → st ≠ eAUTH → m.journalReq r st = m) ∧
      (r.query = false ∨ st = eAUTH →
        let e : JEntry :=
          { seq := m.recs.jSeq, kind := if st = eAUTH then 1 else 0, link := r.w.link.num, role := r.role, opcode := r.w.opcode
            session := r.w.session, host := m.hostNow, status := st, tag := r.w.tag, aux := m.aux, hash := r.hash
            ref := r.ref, byB := r.w.link == .b, launch := none }
        (r.w.link = .b ∨ (∀ x ∈ m.recs.journal, x.lateB m.recs.jBase = false) →
          (m.journalReq r st).recs.journal = m.recs.journal ++ [e]) ∧
        (∀ f l, r.w.link = .a → m.recs.journal = f ++ l → l ≠ [] → (∀ x ∈ f, x.lateB m.recs.jBase = false) →
          (∀ x ∈ l.head?, x.lateB m.recs.jBase = true) →
          (m.journalReq r st).recs.journal = f ++ [{ e with seq := m.recs.jSeq - l.length }] ++
            l.map fun (x : JEntry) => { x with seq := x.seq + 1 }) ∧
        (m.journalReq r st).recs.jSeq = m.recs.jSeq + 1)

/-! ## The session family -/

/-- NOP, IDENTIFY, EVENT_SUBSCRIBE, RESULT_RELEASE and SESSION_CLOSE (R169, R176, R160, R151), admitted and well formed: what each
replies and changes. EVENT_SUBSCRIBE sets the session's classes and starts EVENT_SEQ at 0; RESULT_RELEASE frees the ready results
of COUNT tags from FIRST_TAG; SESSION_CLOSE replies, then closes its own session. -/
def Obligations.SessionCommandsComplete : Prop :=
  ∀ (s : State) (p : Packet),
    (s.cur.admits (opRow 0x00) p = true → exec (.nop p) s = .next (s.ran 0x00 p fun r m => answer r stOK [] m)) ∧
      (s.cur.admits (opRow 0x04) p = true → p.payload = [] →
        exec (.identify p) s = .next (s.ran 0x04 p fun r m => answer r stOK
          (serial ++ [0x30, 0x42] ++ le 1 p.link.num ++ le 1 (if m.leaves.active = some p.link then 0 else 1) ++
            le 4 m.sec.primary.version.toNat ++ le 4 Config.romVersion.toNat ++ le 4 m.sec.ucode.toNat ++ [2]) m)) ∧
      (s.cur.admits (opRow 0x07) p = true → sized p.payload 8 = true → field p.payload 0 8 < 512 →
        exec (.eventSubscribe p) s = .next (s.ran 0x07 p fun r m => answer r stOK []
          (m.setSession p.link p.session fun t =>
            { t with mask := BitVec.ofNat 64 (field p.payload 0 8), evSeq := 0, lost := 0 }))) ∧
      (s.cur.admits (opRow 0x08) p = true → sized p.payload 4 = true →
        exec (.resultRelease p) s = .next (s.ran 0x08 p fun r m => answer r stOK []
          { m with held := m.held.filter fun h =>
              !(h.link == p.link && h.session == p.session && h.final.isSome &&
                decide ((h.tag.toNat + 65536 - field p.payload 0 2) % 65536 < field p.payload 2 2)) })) ∧
      (s.cur.admits (opRow 0x03) p = true → p.payload = [] →
        exec (.sessionClose p) s = .next (s.ran 0x03 p fun r m =>
          (answer r stOK [] m).closeSessions fun t => t.link == p.link && t.id == p.session))

/-- SESSION_OPEN (R148, R149, R168): with VERSIONS bit 1 and fewer than 8 sessions on the link, the session opens with the next
number as SESSION_ID, the observer role, no event class and a free NONCE, which the reply carries; a ninth is refused with
SESSION_LIMIT, and without bit 1 the command is refused with E_VERSION.
SESSION_AUTH (R149, R478, R481): within 10 s of the open and outside a back-off, a signature that is valid over the session's
NONCE, SESSION_ID, ROLE, link and serial, under the public part of a key that proves the role, gives the session that role; a proof
rejected is E_AUTH with PROOF_REJECTED and counts; later it is E_TIMEOUT, and in a back-off E_BUSY, and the session keeps its role.
That the role named replaces a higher one too is the model's choice (log 99). -/
def Obligations.SessionOpensAndAuthenticates : Prop :=
  (
  ∀ (s : State) (p : Packet), s.cur.admits (opRow 0x01) p = true → sized p.payload 16 = true →
    zeros p.payload 1 7 = true →
    let m0 := s.cur.taken (opRow 0x01) p
    let here := (m0.sessions.filter fun t => t.link == p.link).length
    let n := m0.nextSid.get p.link
    ((field p.payload 0 1).testBit 1 = true → here < 8 →
        exec (.sessionOpen p) s = .next (s.ran 0x01 p fun r m =>
          answer r stOK (le 4 n ++ [1, 0, 0, 0] ++ m.freeBytes 32)
            { m with
              freeCtr := m.freeCtr + 32, nextSid := m.nextSid.set p.link (n + 1)
              sessions := m.sessions ++
                [{ link := p.link, id := BitVec.ofNat 32 n, role := 0, nonce := m.freeBytes 32, opened := m.tick.now
                   keyId := none, mask := 0, evSeq := 0, lost := 0, sel := .init, latch := .init }] })) ∧
      ((field p.payload 0 1).testBit 1 = true → 8 ≤ here →
        exec (.sessionOpen p) s = .next (s.ran 0x01 p fun r m => refuse r eBUSY (detail 0x10 noField noIndex) m)) ∧
      ((field p.payload 0 1).testBit 1 = false →
        exec (.sessionOpen p) s = .next (s.ran 0x01 p fun r m => refuse r eVERSION (plain ++ [2]) m))) ∧ (
  ∀ (s : State) (p : Packet) (proof : Option Proven) (t : Session), s.cur.admits (opRow 0x02) p = true →
    sized p.payload 7864 = true → zeros p.payload 5 3 = true → field p.payload 4 1 ≤ 4 →
    let m0 := s.cur.taken (opRow 0x02) p
    let key := field p.payload 0 4
    let role := field p.payload 4 1
    let backed := ∃ b, (m0.link p.link).backoff = some b ∧ m0.tick.now < b
    let message := t.nonce ++ le 4 t.id.toNat ++ le 1 role ++ le 1 t.link.num ++ serial
    let valid := proof = some { key := m0.publicPart key, message := message, sig := slice p.payload 8 7856 }
    m0.session p.link p.session = some t →
    (¬ backed → m0.tick.now ≤ t.opened + 1000000 → valid → m0.keyProves key role = true →
        exec (.sessionAuth p proof) s = .next (s.ran 0x02 p fun r m => answer r stOK (le 1 role)
          (m.setSession p.link p.session fun t => { t with role := role, keyId := some (BitVec.ofNat 32 key) }))) ∧
      (¬ backed → m0.tick.now ≤ t.opened + 1000000 → ¬ (valid ∧ m0.keyProves key role = true) →
        exec (.sessionAuth p proof) s = .next (s.ran 0x02 p fun r m => refuse r eAUTH (detail 0x0A noField noIndex)
          (m.setLink p.link fun l => l.reject m.tick.now))) ∧
      (¬ backed → t.opened + 1000000 < m0.tick.now →
        exec (.sessionAuth p proof) s = .next (s.ran 0x02 p fun r m => refuse r eTIMEOUT plain m)) ∧
      (backed →
        exec (.sessionAuth p proof) s = .next (s.ran 0x02 p fun r m =>
          refuse r eBUSY (detail 0x0B noField noIndex) m)))

/-- RESULT_READ (R162): of a result found by link, session and tag, whose command acted with no more than the reader's proven role:
PENDING while its final is not ready, else the final behind ORIG_OPCODE and ORIG_STATUS where the leaf can reach it, with REPEAT
where it was sent or read before. An unknown tag is E_PARAM with UNKNOWN_TAG. -/
def Obligations.ResultRead : Prop :=
  ∀ (s : State) (p : Packet), s.cur.admits (opRow 0x06) p = true → sized p.payload 8 = true → field p.payload 0 1 ≤ 1 →
    zeros p.payload 1 1 = true →
    let m0 := s.cur.taken (opRow 0x06) p
    let i : Side := if field p.payload 0 1 = 0 then .a else .b
    let sid := wordAt p.payload 4
    let tag := BitVec.ofNat 16 (field p.payload 2 2)
    let found := m0.held.find? fun h => h.link == i && h.session == sid && h.tag == tag && h.kept m0.tick.now &&
      !(h.link == p.link && h.session == p.session && h.tag == p.tag)
    let proven := (m0.session p.link p.session).elim 0 Session.role
    (found = none →
        exec (.resultRead p) s = .next (s.ran 0x06 p fun r m => refuse r ePARAM (detail 5 noField noIndex) m)) ∧
      (∀ h, found = some h → proven < h.role →
        exec (.resultRead p) s = .next (s.ran 0x06 p fun r m => refuse r eAUTH plain m)) ∧
      (∀ h, found = some h → h.role ≤ proven → h.final = none →
        exec (.resultRead p) s = .next (s.ran 0x06 p fun r m => answer r stPENDING [] m)) ∧
      (∀ h st pl, found = some h → h.role ≤ proven → h.final = some (st, pl) →
        h.holder = p.link ∨ h.mirrored = true ∨ (m0.leaves.xlinkUp = true ∧ m0.serving h.holder = true) →
        let out := le 1 h.opcode ++ le 1 st ++ le 6 0 ++ pl
        exec (.resultRead p) s = .next (s.ran 0x06 p fun r m =>
          let m := (m.hold r.w p.link stOK out).sendReply r.w (if h.seen then fRepeat else 0) stOK out
          { m with held := m.held.map fun g =>
              if g.link = i ∧ g.session = sid ∧ g.tag = tag then { g with seen := true } else g }))

/-! ## Queries -/

/-- The queries of one record or list (R169, R219, R324, R373, R375, R391, R466, R496, R499), admitted and well formed: each replies
OK with what its leaf reports (its view) and changes nothing but its own reply. TIME_QUERY waits for the Commit step, which samples
every time at one instant and answers it.
PLAN_QUERY, CIRCUIT_QUERY and TRACE_READ (R96, R169, R219), admitted and well formed: what a plan in each state and a kept
outcome reply, the records of a port range, and the samples of a trace buffer. -/
def Obligations.QueriesReplyAndEnd : Prop :=
  (
  ∀ (s : State) (p : Packet),
    let v := s.view p.link
    let pl := p.payload
    let hears (code : Nat) (b : List Byte) : State := s.ran code p fun r m => answer r stOK b m
    let seqOk := sized pl 10 = true ∧ 1 ≤ field pl 8 2 ∧ field pl 8 2 ≤ 1024
    (s.cur.admits (opRow 0x31) p = true → sized pl 4 = true → field pl 0 2 < 512 → portRange (field pl 0 2) (field pl 2 2) = true →
        exec (.portQuery p) s = .next (hears 0x31
          ((List.range (field pl 2 2)).flatMap fun k => portEntry v (field pl 0 2 + k)))) ∧
      (s.cur.admits (opRow 0x33) p = true → sized pl 2 = true → field pl 0 2 < 512 →
        exec (.neighbourQuery p) s = .next (hears 0x33 (neighRecord v (field pl 0 2)))) ∧
      (s.cur.admits (opRow 0x45) p = true → pl = [] →
        exec (.calQuery p) s = .next (hears 0x45 ((List.range 6).flatMap (calQueryEntry v)))) ∧
      (∀ slot j, s.cur.admits (opRow 0x55) p = true → sized pl 4 = true → v.slotOf (wordAt pl 0) = some (slot, j) →
        exec (.jobQuery p) s = .next (hears 0x55 (jobBytes v slot j))) ∧
      (s.cur.admits (opRow 0x60) p = true → pl = [] →
        exec (.timeQuery p) s = .next (s.ran 0x60 p fun r m =>
          { m with time := { m.time with queries := m.time.queries ++ [r.w] } })) ∧
      (s.cur.admits (opRow 0x90) p = true → pl = [] →
        exec (.powerQuery p) s = .next (hears 0x90 (le 2 260 ++ le 6 0 ++ v.power.domains.flatMap fun d =>
          le 2 d.code ++ le 1 (v.pstate d) ++ le 1 (v.votesByte d)))) ∧
      (s.cur.admits (opRow 0x84) p = true → pl = [] →
        exec (.fwQuery p) s = .next (hears 0x84 (le 4 v.sec.counter.toNat ++ le 4 v.trialLeft ++ le 1 v.sec.trialBoots ++
          le 1 v.sec.mode ++ List.replicate 6 0 ++ slotBytes v 0 v.sec.primary ++ slotBytes v 1 v.sec.staged ++
          slotBytes v 2 v.sec.golden))) ∧
      (s.cur.admits (opRow 0x70) p = true → seqOk → exec (.journalRead p) s = .next (s.ran 0x70 p fun r m => answer r stOK
        (seqReply (field pl 0 8) (field pl 8 2) (m.recs.journal.map fun e => (e.seq, journalBytes e))) m)) ∧
      (s.cur.admits (opRow 0x71) p = true → seqOk → exec (.cornerstoneRead p) s = .next (s.ran 0x71 p fun r m => answer r stOK
        (seqReply (field pl 0 8) (field pl 8 2) (m.recs.log.map fun e => (e.seq, recordBytes e))) m)) ∧
      (s.cur.admits (opRow 0x73) p = true → seqOk → exec (.keyholeRead p) s = .next (s.ran 0x73 p fun r m => answer r stOK
        (seqReply (field pl 0 8) (field pl 8 2) (m.keyhole.ring.map fun e => (e.seq, keySnapBytes e))) m))) ∧ (
  ∀ (s : State) (p : Packet),
    let v := s.view p.link
    let pl := p.payload
    let id := wordAt pl 0
    let hears (code : Nat) (b : List Byte) : State := s.ran code p fun r m => answer r stOK b m
    let none56 := List.replicate 56 (0 : Byte)
    (s.cur.admits (opRow 0x15) p = true → sized pl 4 = true →
        (∀ q, v.plan id = some q → q.state = .staged →
          exec (.planQuery p) s = .next (hears 0x15 (planReply 0 q.base q.n q.w q.n2 q.w2 none56 [] []))) ∧
        (∀ q, v.plan id = some q → q.state = .queued →
          exec (.planQuery p) s = .next (hears 0x15 (planReply 1 q.gen q.n q.w q.n2 q.w2 none56 [] []))) ∧
        (∀ q x, v.plan id = some q → q.state = .running → v.engine.run = some x →
          exec (.planQuery p) s = .next (hears 0x15 (planReply 2 q.gen x.n x.w x.n2 x.w2 (launchBytes x.record) x.counts
            (x.list q v.engine.members)))) ∧
        (∀ o, (∀ q, v.plan id = some q → q.state = .checking) → v.outcome id = some o →
          exec (.planQuery p) s = .next (hears 0x15 (planReply 3 o.gen o.n o.w o.n2 o.w2 (launchBytes o.launched) o.counts
            o.list)))) ∧
      (s.cur.admits (opRow 0x17) p = true → sized pl 5 = true → field pl 0 2 < 512 →
        portRange (field pl 0 2) (field pl 2 2) = true → field pl 4 1 ≤ 1 →
        let at_ (k : Nat) : List Context :=
          v.engine.members.filter fun x => (if field pl 4 1 = 0 then x.circ.src else x.circ.dst) == k
        let q := queryPorts at_ (field pl 2 2) (field pl 0 2) 2040 []
        exec (.circuitQuery p) s = .next (hears 0x17 (le 2 q.1.length ++ le 2 (q.2.getD 0) ++ le 1 (b2n q.2.isSome) ++ le 3 0 ++
          q.1.flatMap (contextBytes v)))) ∧
      (s.cur.admits (opRow 0x43) p = true → sized pl 6 = true → field pl 0 1 < 64 → zeros pl 1 1 = true →
        1 ≤ field pl 4 2 → field pl 2 2 + field pl 4 2 ≤ 4096 →
        let t := v.trowel.trace.get p.link
        let b := field pl 0 1
        (∀ n, t.nodes[b]? = some n → s.cur.variant.loop n.1 = true) →
        let xs := if b < t.nodes.length then (t.samples.drop (field pl 2 2)).take (field pl 4 2) else []
        exec (.traceRead p) s = .next (hears 0x43 (le 1 t.state.code ++ le 1 (b2n t.interrupted) ++ le 2 0 ++ le 2 xs.length ++
          le 2 0 ++ le 8 t.trigTick ++ le 8 (xs.head?.elim 0 Prod.fst) ++ xs.flatMap fun x => le 4 (lget 0 x.2 b).toNat))))

/-! ## Commands that take effect at the next boundary -/

/-- The commands that change loop, port, time, power or recorder behaviour (R34, R155): admitted and passed by their own checks, each
is accepted, and its change waits for the next boundary with the OK reply. LOOP_MODE and LOOP_SETPOINT wake the bank of a window
at once. -/
def Obligations.DeferredCommandsComplete : Prop :=
  ∀ (s : State) (p : Packet),
    let pl := p.payload
    let m0 (code : Nat) : Mod := s.cur.taken (opRow code) p
    let waits (code : Nat) (e : Effect) : State := s.ran code p fun r m => later r e m
    let loop := field pl 0 4
    let woken (code : Nat) (e : Effect) : State :=
      s.ran code p fun r m => later r e (if loop < 7616 then m.wake (bankCode loop) else m)
    (s.cur.admits (opRow 0x30) p = true → sized pl 5 = true → field pl 0 2 < 512 →
        portRange (field pl 0 2) (field pl 2 2) = true → field pl 4 1 ≤ 4 →
        exec (.portClassSet p) s = .next (waits 0x30 (.portClass (field pl 0 2) (field pl 2 2) (field pl 4 1)))) ∧
      (s.cur.admits (opRow 0x40) p = true → sized pl 12 = true → zeros pl 5 3 = true → (m0 0x40).loopCheck loop = none →
        field pl 4 1 ≤ 2 → (loopClass loop = some .monitor → field pl 4 1 = 0) →
        (field pl 4 1 = 1 → fieldS pl 8 4 = keepOutput ∨ (m0 0x40).outputOk loop (fieldS pl 8 4) = true) →
        (m0 0x40).loopConflict loop = false →
        exec (.loopMode p) s = .next (woken 0x40 (.loopMode loop (field pl 4 1) (fieldS pl 8 4)))) ∧
      (s.cur.admits (opRow 0x41) p = true → sized pl 8 = true → (m0 0x41).loopCheck loop = none →
        loopClass loop ≠ some .monitor → setpointOk loop (fieldS pl 4 4) = true → (m0 0x41).loopConflict loop = false →
        exec (.loopSetpoint p) s = .next (woken 0x41 (.loopSetpoint loop (fieldS pl 4 4)))) ∧
      (s.cur.admits (opRow 0x61) p = true → sized pl 12 = true → timeNsOk pl 0 = true →
        ((m0 0x61).time.hostSet = true → (m0 0x61).time.rebased.bits.getLsbD 11 = true) → (m0 0x61).hostSetDue = false →
        exec (.hostTimeSet p) s = .next (waits 0x61 (.hostTimeSet (timeAt pl 0)))) ∧
      (s.cur.admits (opRow 0x62) p = true → sized pl 8 = true → field pl 0 1 ≤ 1 → zeros pl 1 3 = true →
        -200000 ≤ fieldS pl 4 4 → fieldS pl 4 4 ≤ 200000 →
        (field pl 0 1 = 0 → (m0 0x62).isRoot = true ∧ (m0 0x62).ppsIn = false) →
        exec (.timeRate p) s = .next (waits 0x62 (.timeRate (field pl 0 1) (fieldS pl 4 4)))) ∧
      (s.cur.admits (opRow 0x63) p = true → sized pl 16 = true → zeros pl 1 3 = true → timeNsOk pl 4 = true →
        (field pl 0 1 = 1 → (m0 0x63).time.hostSet = true →
          exec (.timeStep p) s = .next (waits 0x63 (.timeStep 1 (timeAtS pl 4)))) ∧
        (field pl 0 1 = 0 → (m0 0x63).isRoot = true → (m0 0x63).time.fstate ≠ 0 →
          exec (.timeStep p) s = .next (waits 0x63 (.timeStep 0 (timeAtS pl 4)))) ∧
        (field pl 0 1 = 0 → (m0 0x63).isRoot = false → timeAtS pl 4 = 0 → (m0 0x63).time.upstream ≠ none →
          exec (.timeStep p) s = .next (waits 0x63 (.timeStep 0 0)))) ∧
      (s.cur.admits (opRow 0x72) p = true → sized pl 1 = true → field pl 0 1 ≤ 1 →
        exec (.keyholeFreeze p) s = .next (waits 0x72 (.keyholeFreeze (field pl 0 1 == 1)))) ∧
      (s.cur.admits (opRow 0x92) p = true → sized pl 8 = true → field pl 0 1 ≤ 2 → zeros pl 1 3 = true →
        idleOk (field pl 0 1) (field pl 4 4) = true → (field pl 0 1 = 2 → (m0 0x92).variant.windows = true) →
        exec (.idleTimerSet p) s = .next (waits 0x92 (.idleTimer (field pl 0 1) (field pl 4 4)))) ∧
      (∀ q, s.cur.admits (opRow 0x14) p = true → sized pl 4 = true → (m0 0x14).plan (wordAt pl 0) = some q →
        q.state ≠ .checking → exec (.planAbort p) s = .next (waits 0x14 (.abortRun (wordAt pl 0))))

/-- POWER_REQUEST (R464, R451 – R455): a request that its domain takes waits for the next boundary; one for a failed course is
E_CAPACITY, for a bank in SAFE_HOLD E_SAFETY, and a lower state for a domain that its work holds ON is E_CONFLICT.
Power rows (R452 – R454, R456): a domain whose idle timer has run out begins its entry; an entry ends in the lower state, or is
abandoned at a wake event before its abort point; a wake ends ON; throttling moves every course that no reservation holds by one
operating point. -/
def Obligations.PowerCommandsAndRows : Prop :=
  (
  ∀ (s : State) (p : Packet), s.cur.admits (opRow 0x91) p = true → sized p.payload 3 = true →
    let d := field p.payload 0 2
    let q := field p.payload 2 1
    let m0 := s.cur.taken (opRow 0x91) p
    domainCodes.contains d = true → requestOk d q = true →
    let refusal (st : Nat) (b : List Byte) : Prop :=
      exec (.powerRequest p) s = .next (s.ran 0x91 p fun r m => refuse r st b m)
    let failed := isCourse d = true ∧ (m0.course d).failed = true
    let holding := isBank d = true ∧ m0.state = .safeHold
    let busy := isCourse d = false ∧ 2 ≤ q ∧ m0.held5 d = true
    (m0.variant.domain d = false → refusal eABSENT (badField 0)) ∧
      (m0.variant.domain d = true → failed → refusal eCAPACITY plain) ∧
      (m0.variant.domain d = true → ¬ failed → holding → refusal eSAFETY plain) ∧
      (m0.variant.domain d = true → ¬ failed → ¬ holding → busy → refusal eCONFLICT plain) ∧
      (m0.variant.domain d = true → ¬ failed → ¬ holding → ¬ busy →
        exec (.powerRequest p) s = .next (s.ran 0x91 p fun r m => later r (.powerRequest d q) m))) ∧ (
  ∀ (s : State) (d : Nat) (x : Domain), s.cur.domain d = some x →
    let m := s.cur
    (m.tick.running = true → isCourse d = false → m.variant.domain d = true → m.held5 d = false → m.idleTicks d ≠ 0 →
        m.entryReady d = true → x.state = .on → m.idleTicks d ≤ x.timer →
        exec (.idleTimerExpiry d) s = .next { s with cur := m.setDomain d fun y =>
          { y with deep := y.state == .retention, state := .entering, goal := lowState d } }) ∧
      (x.state = .entering → x.goal = .on → ∃ t, exec (.domainEntry d true) s = .next { s with cur := t } ∧
        (t.domain d).map Domain.state = some .on ∧ t.power.aborts = m.power.aborts + 1 ∧ t.power.entries = m.power.entries) ∧
      (x.state = .entering → x.goal ≠ .on → ∃ t, exec (.domainEntry d false) s = .next { s with cur := t } ∧
        (t.domain d).map Domain.state = some x.entryTo ∧ t.power.entries = m.power.entries + 1 ∧
        t.power.aborts = m.power.aborts) ∧
      (x.state = .waking → x.goal ≠ .retention → ∃ t, exec (.domainWake d) s = .next { s with cur := t } ∧
        (t.domain d).map Domain.state = some .on ∧ t.power.wakes = m.power.wakes + 1 ∧
        (isLane d = true → (t.link (laneLeaf d)).oneLane = false)) ∧
      (m.tick.running = true → m.power.stepTick + 1000 ≤ m.tick.now → (∃ c ∈ m.mortar.courses, c.opp < 2) → 100 < m.mortar.temp →
        ∃ t, exec (.throttle true) s = .next { s with cur := t } ∧ t.power.stepTick = m.tick.now ∧
          ∀ c < m.mortar.courses.length, (t.course c).opp =
            (if c < 16 ∧ m.reservedCourse c = false ∧ m.variant.courses.getLsbD c = true then min 2 ((m.course c).opp + 1)
              else (m.course c).opp)) ∧
      (m.tick.running = true → m.power.stepTick + 1000 ≤ m.tick.now → (∃ c ∈ m.mortar.courses, 0 < c.opp) →
        10000 ≤ m.mortar.coolRun → ∃ t, exec (.throttle false) s = .next { s with cur := t } ∧
          ∀ c < m.mortar.courses.length, (t.course c).opp ≤ (m.course c).opp))

/-- HOLD_RELEASE (R44): a role below administrator is refused with ROLE_LOW; while a cause of SAFE_HOLD remains it is E_SAFETY and
changes nothing; else the release waits for the next boundary. -/
def Obligations.HoldReleaseGuarded : Prop :=
  ∀ (s : State) (p : Packet),
    (s.cur.takes p.link = true → (s.cur.link p.link).noCredit p.payload.length = false → p.version = 1 → packetClean p = true →
        p.len8.toNat ≤ 8192 → p.session ≠ 0 → (∃ t, s.cur.session p.link p.session = some t ∧ p.role.toNat ≤ t.role) →
        p.role.toNat < 3 →
        exec (.holdRelease p) s =
          .next { s with cur := (s.cur.credited p).turnAway (packetReq p (opRow 0xA4)) eAUTH (detail 8 noField noIndex) }) ∧
      (s.cur.admits (opRow 0xA4) p = true → p.payload = [] →
        let m0 := s.cur.taken (opRow 0xA4) p
        (m0.holdNow ≠ 0 ∨ m0.leaves.wantHold = true →
          exec (.holdRelease p) s = .next (s.ran 0xA4 p fun r m => refuse r eSAFETY plain m)) ∧
        (m0.holdNow = 0 → m0.leaves.wantHold = false →
          exec (.holdRelease p) s = .next (s.ran 0xA4 p fun r m => later r .holdRelease m)))

/-! ## Plans -/

/-- PLAN_STAGE (R99 – R103, R173), CIRCUIT_SET and CIRCUIT_CLEAR (R105), PLAN_COMMIT (R107, R109, R174), admitted and passed by
their own checks: the plan enters the table CHECKING, or the queue, and the reply is PENDING. -/
def Obligations.PlanCommandsComplete : Prop :=
  ∀ (s : State) (p : Packet) (prefer : List Nat),
    let pl := p.payload
    let id := wordAt pl 0
    (s.cur.admits (opRow 0x12) p = true → 80 ≤ pl.length → (s.cur.taken (opRow 0x12) p).planIdFree id = true →
        field pl 8 4 < 8 → field pl 12 2 ≤ 4096 → zeros pl 14 2 = true → sized pl (80 + 12 * field pl 12 2) = true →
        exec (.planStage p) s = .next (s.ran 0x12 p fun r m =>
          pend r { m with engine := { m.engine with plans := m.engine.plans ++
            [m.newPlan id (wordAt pl 4) (field pl 8 4) (maskAt pl 16) (entriesAt pl 80 (field pl 12 2)) .host false
              (some r.w)] } })) ∧
      (∀ (clear : Bool) (q : Plan),
        let code := if clear then 0x11 else 0x10
        let m0 := s.cur.taken (opRow code) p
        let e := entryAt pl 8
        let np := m0.newPlan id m0.tailGen (field pl 4 4) 0 [e] .circuit clear none
        s.cur.admits (opRow code) p = true → sized pl 20 = true → m0.planIdFree id = true →
        field pl 4 4 = 0 ∨ field pl 4 4 = 2 → entryBad none [] e = none → (∀ x, entryCircuit e = some x → m0.variant.fits x = true) →
        (clear = true → e.eflags = 0 ∧ e.jobTag = 0 ∧ (removals np np.baseSet).isEmpty = false) →
        m0.checkPlan prefer np = .ok q → m0.engine.queue.length < 16 →
        exec (if clear then .circuitClear p prefer else .circuitSet p prefer) s = .next (s.ran code p fun r m =>
          pend r ((({ m with engine := { m.engine with plans := m.engine.plans ++ [q] } }).staged q).enqueue q (some r.w)
            none false))) ∧
      (∀ q : Plan,
        let m0 := s.cur.taken (opRow 0x13) p
        let timed : Option Instant := if (field pl 4 4).testBit 0 then some (timeAt pl 8) else none
        s.cur.admits (opRow 0x13) p = true → sized pl 24 = true → field pl 4 4 < 2 → zeros pl 20 4 = true →
        (timed = none → zeros pl 8 12 = true) → (∀ t, timed = some t → timeNsOk pl 8 = true ∧ m0.badInstant t = false) →
        m0.plan id = some q → q.state = .staged → q.stale = false → q.damaged = false → q.base = m0.tailGen →
        m0.engine.queue.length < 16 →
        exec (.planCommit p) s = .next (s.ran 0x13 p fun r m =>
          pend r (m.enqueue q (some r.w) timed (timed.any fun t => decide (t < m.fabricNow)))))

/-- PLAN_CHECK_DONE (R102, R103): the checks of a plan end; it is STAGED with its schedule and its final carries the schedule's
counts, or it is dropped and its final carries the first check that fails.
PLAN_ABORT at its boundary (R106, R122): a STAGED plan is freed with its contexts and nothing else changes; a QUEUED plan leaves
the table and the queue, and its PLAN_COMMIT ends with E_CONFLICT; a RUNNING one is told to end. -/
def Obligations.PlanChecksAndAborts : Prop :=
  (
  ∀ (s : State) (id : Word) (prefer : List Nat) (pl : Plan), s.cur.engineUp = true → s.cur.plan id = some pl →
    pl.state = .checking →
    (∀ q, s.cur.checkAll prefer pl = .ok q →
        exec (.planCheckDone id prefer) s = .next
          { s with cur := (s.cur.staged { q with waiter := none }).finalTo pl.waiter stOK (stageFinal q) }) ∧
      (∀ st d, s.cur.checkAll prefer pl = .error (st, d) →
        exec (.planCheckDone id prefer) s = .next { s with cur := (s.cur.dropPlan id).finalTo pl.waiter st d })) ∧ (
  ∀ (m : Mod) (id : Word) (p : Plan), m.plan id = some p →
    (p.state = .staged →
        m.applyEffect (.abortRun id) = { m with engine := { m.engine with
          plans := m.engine.plans.filter (fun q => q.id != id), queue := m.engine.queue.filter (fun q => q != id) } }) ∧
      (p.state = .queued →
        m.applyEffect (.abortRun id) = ((m.dropPlan id).finalTo p.commitW eCONFLICT
          (commitFinal eCONFLICT plain (m.noLaunch id p.timed) []))) ∧
      (∀ r, p.state = .running → m.engine.run = some r → r.ending = none →
        (m.applyEffect (.abortRun id)).engine.run = some { r with ending := some .abort }))

/-! ## Commands that answer PENDING -/

/-- BLINK_OPEN (R376), CAL_RUN (R322), PLAN_SOLVE (R264), LAUNCH_SCHEDULE (R392, R393), FUNCTION_REINIT (R424) and LEAF_SWITCH (R415),
admitted and passed by their own checks: the reply is PENDING, and the work waits where its chapter says. -/
def Obligations.PendingCommandsComplete : Prop :=
  ∀ (s : State) (p : Packet),
    let pl := p.payload
    let m0 (code : Nat) : Mod := s.cur.taken (opRow code) p
    (s.cur.admits (opRow 0x32) p = true → sized pl 68 = true → maskAt pl 0 ≠ 0 →
        (∀ k < 512, (maskAt pl 0).getLsbD k = true → (m0 0x32).isTrunk k = false) →
        100 ≤ field pl 64 4 → field pl 64 4 ≤ 1000000 → (m0 0x32).blinking = false →
        exec (.blinkOpen p) s = .next (s.ran 0x32 p fun r m =>
          { pend r m with deferred := (pend r m).deferred ++
              [{ eff := .blinkOpen r.w (maskAt pl 0) (field pl 64 4), reply := none, pkt := none }] })) ∧
      (s.cur.admits (opRow 0x44) p = true → sized pl 4 = true → field pl 0 4 < 64 →
        ((m0 0x44).variant.windows = false → (field pl 0 4).testBit 2 = false ∧ (field pl 0 4).testBit 3 = false) →
        (m0 0x44).cal.waiter = none →
        exec (.calRun p) s = .next (s.ran 0x44 p fun r m =>
          let m := (bitsSet 6 (field pl 0 4)).foldl (fun m k => m.setCalClass k fun x =>
            { x with
              pending := (m.variant.calUnits k).map fun u => (u, 2), ran := [], runApplied := 0, runRejected := 0
              runSkipped := 0 }) m
          pend r { m with cal := { m.cal with waiter := some (r.w, BitVec.ofNat 6 (field pl 0 4), m.tick.now) } })) ∧
      (s.cur.admits (opRow 0x16) p = true → 88 ≤ pl.length → (m0 0x16).solveIdFree (wordAt pl 0) = true →
        (m0 0x16).solveBad pl = none →
        let v (r : Req) (m : Mod) : Solve :=
          { waiter := r.w, planId := wordAt pl 0, base := wordAt pl 4, flags := wordAt pl 8, desc := pl.drop 16
            accepted := m.tick.now, rerun := false }
        ((m0 0x16).mortar.solving = none → (m0 0x16).mortar.solves = [] →
          exec (.planSolve p) s = .next (s.ran 0x16 p fun r m =>
            pend r { m with mortar := { m.mortar with solving := some (v r m) } })) ∧
        ((m0 0x16).mortar.solving ≠ none → (m0 0x16).mortar.solves.length < 8 →
          exec (.planSolve p) s = .next (s.ran 0x16 p fun r m =>
            pend r { m with mortar := { m.mortar with solves := m.mortar.solves ++ [v r m] } }))) ∧
      (s.cur.admits (opRow 0x64) p = true → sized pl 48 = true → field pl 0 1 ≤ 1 → zeros pl 1 1 = true →
        (field pl 0 1 = 0 → field pl 2 2 < 512 ∧ (m0 0x64).isTrunk (field pl 2 2) = true) → timeNsOk pl 4 = true →
        (m0 0x64).badInstant (timeAt pl 4) = false → (m0 0x64).time.sched.length < 64 →
        exec (.launchSchedule p) s = .next (s.ran 0x64 p fun r m =>
          pend r { m with time := { m.time with sched := m.time.sched ++
            [{ waiter := r.w, kind := field pl 0 1, port := field pl 2 2, instant := timeAt pl 4, accepted := m.tick.now
               late := decide (timeAt pl 4 < m.fabricNow), body := slice pl 16 32, delayed := false }] } })) ∧
      (s.cur.admits (opRow 0xA2) p = true → sized pl 1 = true → field pl 0 1 ≤ 5 →
        (field pl 0 1 = 4 → (m0 0xA2).variant.windows = true) → (m0 0xA2).reinitOn (field pl 0 1) = false →
        (m0 0xA2).reinitDue (field pl 0 1) = false →
        exec (.functionReinit p) s = .next (s.ran 0xA2 p fun r m =>
          { pend r m with deferred := (pend r m).deferred ++
              [{ eff := .reinit (field pl 0 1) r.w, reply := none, pkt := none }] })) ∧
      (∀ j : Side, s.cur.admits (opRow 0xA5) p = true → sized pl 1 = true → field pl 0 1 = j.num →
        ((m0 0xA5).leaves.active = some j →
          exec (.leafSwitch p) s = .next (s.ran 0xA5 p fun r m => answer r stOK [] m)) ∧
        ((m0 0xA5).leaves.active ≠ some j → (m0 0xA5).leaves.switchTo = none → (m0 0xA5).sec.unlocking = none →
          (m0 0xA5).xlinkDown = false → (m0 0xA5).eligible j = true →
          exec (.leafSwitch p) s = .next (s.ran 0xA5 p fun r m =>
            { pend r m with
              leaves := { (pend r m).leaves with switchTo := some (j, r.w, false) }
              deferred := (pend r m).deferred ++ [{ eff := .leafSwitch j r.w false, reply := none, pkt := none }] })))

/-! ## Records, images, keys and jobs -/

/-- TRACE_ARM (R217), KEYHOLE_CLEAR (R505), ATTEST (R483), FW_STAGE_BEGIN and FW_STAGE_DATA (R488, R489), FW_STAGE_END (R490),
FW_CONFIRM (R492), admitted and passed by their own checks: the reply and what each changes. KEYHOLE_CLEAR takes effect at the next
boundary (R34), where the ring and MISSED are emptied and a record names the key. -/
def Obligations.RecordAndImageCommandsComplete : Prop :=
  ∀ (s : State) (p : Packet) (proof : Option Proven),
    let pl := p.payload
    let m0 (code : Nat) : Mod := s.cur.taken (opRow code) p
    let w : Waiter := packetWaiter p 0
    (s.cur.admits (opRow 0x42) p = true → 16 ≤ pl.length → 1 ≤ field pl 0 1 → field pl 0 1 ≤ 64 →
        sized pl (16 + 8 * field pl 0 1) = true → field pl 1 1 ≤ 5 → field pl 2 1 < field pl 0 1 → field pl 3 1 ≤ 10 →
        field pl 4 2 ≤ 4095 → zeros pl 6 2 = true → field pl 12 4 < 32 →
        (∀ j < field pl 0 1, field pl (20 + 8 * j) 1 ≤ 7 ∧ zeros pl (21 + 8 * j) 3 = true ∧
          (loopClass (field pl (16 + 8 * j) 4)).isSome = true ∧ (m0 0x42).variant.loop (field pl (16 + 8 * j) 4) = true) →
        let t : Trace :=
          { state := .armed, interrupted := false, nodes := traceNodes pl (field pl 0 1), trigKind := field pl 1 1
            trigNode := field pl 2 1, decim := field pl 3 1, pre := field pl 4 2, level := fieldS pl 8 4
            flagMask := wordAt pl 12, samples := [], after := 0, trigTick := 0, prev := none, flags := none }
        exec (.traceArm p) s = .next (s.ran 0x42 p fun r m => answer r stOK []
          { m with trowel := { m.trowel with trace := m.trowel.trace.set p.link t } })) ∧
      (s.cur.admits (opRow 0x74) p = true → pl = [] →
        exec (.keyholeClear p) s = .next (s.ran 0x74 p fun r m => later r (.keyholeClear p.link p.session) m)) ∧
      (∀ (m : Mod) (i : Side) (sid : Word),
        let t := m.applyEffect (.keyholeClear i sid)
        t.keyhole = { m.keyhole with ring := [], missed := 0 } ∧
          t.recs = (m.record 0x82 (i.num + 1)
            (le 4 (m.keyOf i sid) ++ le 4 sid.toNat ++ le 1 i.num ++ le 3 0 ++ le 2 m.keyhole.ring.length)).recs ∧
          t = { m with keyhole := t.keyhole, recs := t.recs }) ∧
      (s.cur.admits (opRow 0x05) p = true → sized pl 32 = true → (m0 0x05).sec.keysLeft ≠ 0 →
        exec (.attest p) s = .next (s.ran 0x05 p fun r m =>
          answer r stOK (attestReport m p.link (slice pl 0 32)) { m with sec := m.sec.useKey })) ∧
      (let hdr := slice pl 8 8112;
        s.cur.admits (opRow 0x80) p = true → sized pl 8120 = true → field pl 0 4 = 8128 + field hdr 12 4 →
        field pl 4 4 = field hdr 8 4 → slice hdr 0 4 = [0x4B, 0x57, 0x46, 0x57] → field hdr 4 2 = 1 → field hdr 6 2 = 256 →
        field pl 0 4 ≤ 67108864 → (m0 0x80).sec.buffers.length < 2 → (m0 0x80).ownedByOther w = none →
        (m0 0x80).bufferOf w = none →
        exec (.fwStageBegin p) s = .next (s.ran 0x80 p fun r m => answer r stOK []
          { m with sec := { m.sec with buffers := m.sec.buffers ++
            [{ link := p.link, session := p.session, header := hdr, len := field pl 0 4, got := 0, data := [] }] } })) ∧
      (∀ b, s.cur.admits (opRow 0x81) p = true → 8 ≤ pl.length → zeros pl 4 4 = true → (m0 0x81).bufferOf w = some b →
        field pl 0 4 = b.got → ((pl.drop 8).drop (b.len - 8112 - b.got)).all (· == 0) = true →
        exec (.fwStageData p) s = .next (s.ran 0x81 p fun r m => answer r stOK []
          (let n := min (pl.drop 8).length (b.len - 8112 - b.got)
          { m with sec := { m.sec with buffers := m.sec.buffers.map fun x =>
            if x = b then { x with got := x.got + n, data := x.data ++ (pl.drop 8).take n } else x } }))) ∧
      (∀ b, s.cur.admits (opRow 0x82) p = true → pl = [] → (m0 0x82).bufferOf w = some b → b.got + 8112 = b.len →
        steppingListed b.header = true → (m0 0x82).sec.counter.toNat ≤ field b.header 8 4 →
        isKwefold (field b.header 32 4) = true →
        proof = some { key := (m0 0x82).publicPart (field b.header 32 4), message := slice b.header 0 256
                       sig := slice b.header 256 7856 } →
        (m0 0x82).ownedByOther w = none → (m0 0x82).sec.writing = none →
        exec (.fwStageEnd p proof) s = .next (s.ran 0x82 p fun r m =>
          let m := pend r (m.dropBuffer r.w)
          { m with sec := { m.sec with
              owner := some (p.link, p.session), writing := some (b, r.w), staged := { Slot.empty with sstate := 5 }
              ownTick := if m.sec.owner.isSome then m.sec.ownTick else m.tick.now } })) ∧
      (s.cur.admits (opRow 0x83) p = true → pl = [] → (m0 0x83).onTrial = true → (m0 0x83).sec.health = true →
        exec (.fwConfirm p) s = .next (s.ran 0x83 p fun r m => answer r stOK [] (m.confirm p.link.num)))

/-- KEY_ENROL (R480, R479): checked against the table that the changes accepted before it leave, an enrolment or a revocation waits
for the next boundary (R34). There the key enters the table, the transport key going where it is an administrator's; a key named for
removal leaves it, and the sessions raised with it fall to the observer role; both are recorded in the Cornerstone.
UNLOCK_CHALLENGE and UNLOCK_RESPONSE (R507, R508): the challenge is 32 free bytes that the module keeps for the target; TARGET
0xFF relocks every target. In time, a signature that is valid over the challenge, the serial and the target under a key that may
unlock opens the target, at once where it is not the active leaf, else after control has moved to the other leaf. -/
def Obligations.KeyAndUnlockCommandsComplete : Prop :=
  (
  ∀ (s : State) (p : Packet), s.cur.admits (opRow 0x87) p = true → sized p.payload 64 = true →
    zeros p.payload 2 2 = true → zeros p.payload 56 8 = true →
    let pl := p.payload
    let id := wordAt pl 4
    let purpose := field pl 1 1
    let label := slice pl 40 16
    let m0 := s.cur.taken (opRow 0x87) p
    let keys := m0.keysNext
    let old := keys.find? fun k => k.id == id
    let by_ := m0.keyOf p.link p.session
    id ≠ 0 → id.toNat < 0xFFFF0000 →
    (field pl 0 1 = 0 → purpose ∈ [1, 2, 3, 8, 9] → old = none → keys.length < 32 →
        let k : Key := { id := id, purpose := purpose, pub := slice pl 8 32, label := label }
        exec (.keyEnrol p) s = .next (s.ran 0x87 p fun r m => later r (.enrolKey k by_) m)) ∧
      (∀ k, field pl 0 1 = 1 → old = some k → ¬ (k.purpose = 3 ∧ (keys.filter fun x => x.purpose == 3).length = 1) →
        exec (.keyEnrol p) s = .next (s.ran 0x87 p fun r m => later r (.revokeKey id by_ label) m)) ∧
      (∀ (m : Mod) (k : Key) (n : Nat), m.applyEffect (.enrolKey k n) =
        ({ m with sec := { m.sec with
          keys := (if k.purpose = 3 then m.sec.keys.filter fun (x : Key) => x.id != 0 else m.sec.keys) ++ [k] } }).keyRecord 0 k n k.label) ∧
      (∀ (m : Mod) (k : Key) (n : Nat) (l : List Byte), (m.sec.keys.find? fun (x : Key) => x.id == id) = some k →
        m.applyEffect (.revokeKey id n l) =
          ({ m with
            sessions := m.sessions.map fun (t : Session) => if t.keyId = some id then { t with role := 0 } else t
            sec := { m.sec with keys := m.sec.keys.filter fun (x : Key) => x.id != id } }).keyRecord 1 k n l)) ∧ (
  ∀ (s : State) (p : Packet),
    let pl := p.payload
    let m0 (code : Nat) : Mod := s.cur.taken (opRow code) p
    let key := field pl 0 4
    (s.cur.admits (opRow 0x85) p = true → sized pl 1 = true →
        (field pl 0 1 ≤ 3 → exec (.unlockChallenge p) s = .next (s.ran 0x85 p fun r m => answer r stOK (m.freeBytes 32)
          { m.useFree 32 with sec := { m.sec with challenge := some (field pl 0 1, m.tick.now, m.freeBytes 32) } })) ∧
        (field pl 0 1 = 0xFF → exec (.unlockChallenge p) s = .next (s.ran 0x85 p fun r m =>
          answer r stOK (List.replicate 32 0) ([0, 1, 2, 3].foldl (fun (m : Mod) t => m.relockTarget t 1)
            { m with sec := { m.sec with challenge := none } })))) ∧
      (∀ (t at1 : Nat) (n : List Byte), s.cur.admits (opRow 0x86) p = true → sized pl 7864 = true → zeros pl 4 4 = true →
        (m0 0x86).sec.challenge = some (t, at1, n) → (m0 0x86).tick.now ≤ at1 + 100000 → (m0 0x86).mayUnlock key = true →
        let proof : Option Proven :=
          some { key := (m0 0x86).publicPart key, message := n ++ serial ++ le 1 t, sig := slice pl 8 7856 }
        ((∀ i, targetLeaf t = some i → (m0 0x86).leaves.active ≠ some i) →
          exec (.unlockResponse p proof) s = .next (s.ran 0x86 p fun r m =>
            answer r stOK [] ({ m with sec := { m.sec with challenge := none } }.unlockTarget t key))) ∧
        (∀ i, targetLeaf t = some i → (m0 0x86).leaves.active = some i →
          { m0 0x86 with sec := { (m0 0x86).sec with challenge := none } }.eligible i.other = true →
          (m0 0x86).leaves.switchTo = none → (m0 0x86).leaves.releasing = none → (m0 0x86).sec.unlocking = none →
          exec (.unlockResponse p proof) s = .next (s.ran 0x86 p fun r m =>
            let m := pend r { m with sec := { m.sec with challenge := none } }
            { m with
              sec := { m.sec with unlocking := some (t, r.w, BitVec.ofNat 32 key) }
              deferred := m.deferred ++ [{ eff := .leafSwitch i.other r.w false, reply := none, pkt := none }] }))))

/-- JOB_LOAD, JOB_START, JOB_PAUSE, JOB_RESUME and JOB_STOP (R274, R276, R283, R284), admitted and passed by their own checks: a first
and a later segment of a package; JOB_PAUSE begins the pause. JOB_START, JOB_RESUME and JOB_STOP, checked against what the job commands
accepted before them leave, wait for the next boundary (R34): there a start grants its courses and its region, a resume restores what
was saved, and a stop ends a granted job or unloads a package. -/
def Obligations.JobCommandsComplete : Prop :=
  ∀ (s : State) (p : Packet),
    let pl := p.payload
    let m0 (code : Nat) : Mod := s.cur.taken (opRow code) p
    let id := wordAt pl 0
    (let len := field pl 8 4
      let bs := slice pl 16 len
      s.cur.admits (opRow 0x50) p = true → 16 ≤ pl.length → field pl 6 2 ≤ 1 → len ≤ 65520 → zeros pl 12 4 = true →
        sized pl (16 + len) = true → len ≤ (m0 0x50).poolFree →
        (∀ slot, id = 0 → field pl 4 2 = 0 → ((List.range 8).find? fun k => ((m0 0x50).job k).isNone) = some slot →
          let n := (m0 0x50).mortar.loadCount + 1
          exec (.jobLoad p) s = .next (s.ran 0x50 p fun r m => answer r stOK (le 4 (BitVec.ofNat 32 (n * 16 + slot)).toNat)
            { m with mortar := { m.mortar with
              loadCount := n
              jobs := m.mortar.jobs ++ [(slot, { newJob (BitVec.ofNat 32 (n * 16 + slot)) bs with
                state := if field pl 6 2 = 1 then .verifying else .loading })] } })) ∧
        (∀ slot j, id ≠ 0 → (m0 0x50).slotOf id = some (slot, j) → j.state = .loading → field pl 4 2 = j.nextSeg →
          j.package.length + len ≤ 268435456 →
          exec (.jobLoad p) s = .next (s.ran 0x50 p fun r m => answer r stOK (le 4 id.toNat)
            (m.setJob slot fun j => { j with
              package := j.package ++ bs, nextSeg := j.nextSeg + 1
              state := if field pl 6 2 = 1 then .verifying else .loading })))) ∧
      (∀ slot j, s.cur.admits (opRow 0x51) p = true → sized pl 12 = true → zeros pl 6 2 = true →
        let v := (m0 0x51).jobsNext
        v.slotOf id = some (slot, j) → j.state = .loaded ∨ j.state = .ended →
        let cs := bitsSet 16 (field pl 4 2)
        let mib := field pl 8 4
        field j.package 20 1 ≤ cs.length → cs.length ≤ field j.package 21 1 → field j.package 32 4 ≤ mib →
        (∀ c ∈ cs, (m0 0x51).variant.courses.getLsbD c = true ∧ v.grantable c = true) →
        ¬ (field j.package 22 1 = 1 ∧ (m0 0x51).mortar.open_ = true) →
        ¬ ((m0 0x51).mortar.open_ = false ∧ bits (field j.package 24 2) 5 3 ≠ 0) →
        v.leavesPlanner cs = true → mib * 1048576 ≤ v.poolFree →
        exec (.jobStart p) s = .next (s.ran 0x51 p fun r m =>
          pend r { m with deferred := m.deferred ++ [{ eff := .jobStart slot r.w cs mib, reply := none, pkt := none }] })) ∧
      (∀ (m : Mod) (slot : Nat) (j : Job) (w : Waiter) (cs : List Nat) (mib : Nat), m.job slot = some j →
        (∀ c ∈ cs, m.grantable c = true) → m.applyEffect (.jobStart slot w cs mib) =
          (cs.foldl (fun m c => (m.setCourse c fun k => { k.clean with pc := field j.package 44 4 }).wake c) m).setJob slot
            fun x => { x with
              state := .running, courses := cs, lpddrMib := mib, ticks := 0, mismatches := 0, flags := 0, seen := 0
              mem := memWrite [] 0 (slice j.package (256 + 8 * j.codeWords) (min (field j.package 12 4) (mib * 1048576)))
              waiter := some w, reclaimed := false, stopped := false }) ∧
      (∀ slot j, s.cur.admits (opRow 0x52) p = true → sized pl 4 = true → (m0 0x52).slotOf id = some (slot, j) →
        j.state = .running → j.courses.length * saveBytes ≤ (m0 0x52).poolFree + j.saved.length * saveBytes →
        exec (.jobPause p) s = .next (s.ran 0x52 p fun r m => answer r stOK (le 4 (j.saveId + 1).toNat)
          (m.setJob slot fun x => { x with state := .pausing, stopped := false, saveId := x.saveId + 1 }))) ∧
      (∀ slot j, s.cur.admits (opRow 0x53) p = true → sized pl 8 = true → (m0 0x53).jobsNext.slotOf id = some (slot, j) →
        j.state = .paused → wordAt pl 4 = j.saveId → j.savedProf = (m0 0x53).mortar.open_ →
        j.savedMc = (m0 0x53).sec.ucode → ((m0 0x53).jobsNext.resumeCourses j).isSome = true →
        exec (.jobResume p) s = .next (s.ran 0x53 p fun r m => later r (.jobResume slot) m)) ∧
      (∀ (m : Mod) (slot : Nat) (j : Job) (cs : List Nat), m.job slot = some j → m.resumeCourses j = some cs →
        m.applyEffect (.jobResume slot) = (m.restore cs j.saved).setJob slot fun x =>
          { x with state := .running, courses := cs, reclaimed := false, stopped := false }) ∧
      (∀ slot j, s.cur.admits (opRow 0x54) p = true → sized pl 4 = true → (m0 0x54).jobsNext.slotOf id = some (slot, j) →
        j.state ≠ .loading → j.state ≠ .verifying →
        exec (.jobStop p) s = .next (s.ran 0x54 p fun r m => later r (.jobStop slot) m)) ∧
      (∀ (m : Mod) (slot : Nat) (j : Job), m.job slot = some j →
        (j.granted = true → m.applyEffect (.jobStop slot) = m.endJob slot 1 0) ∧
        (j.granted = false → m.applyEffect (.jobStop slot) =
          { m with mortar := { m.mortar with jobs := m.mortar.jobs.filter fun q => q.1 != slot } }))

/-- WARM_RESET and RECOVERY_ENTER (R172): with the confirming word the OK reply leaves, and the reset waits for the next boundary,
where it is asked for with its cause, 4 or 5, the greater cause prevailing; another word is E_PARAM.
The reset and boot rows (R461, R462, R71, R497, R412): RESET_N low for 2 µs or more asks for a warm reset and is held;
WARM_RESET_START, once the boundary has come, closes every session, drops the running commit, keeps the latched elements, and
leaves both leaves in BOOT; RESET_N_RELEASE, JOURNAL_RESTART and BOOT_READBACK are the steps of the boot; at BOOT_COMPLETE a leaf
that reaches no sill with a VALID lease grants an epoch above every one it has seen. -/
def Obligations.ResetCommandsAndRowsComplete : Prop :=
  (
  (∀ (s : State) (p : Packet), sized p.payload 4 = true →
    let asked (code confirm cause : Nat) (c : Instr) : Prop :=
      s.cur.admits (opRow code) p = true →
        (field p.payload 0 4 = confirm → exec c s = .next (s.ran code p fun r m =>
          { answer r stOK [] m with deferred := (answer r stOK [] m).deferred ++
              [{ eff := .warmReset cause, reply := none, pkt := none }] })) ∧
        (field p.payload 0 4 ≠ confirm → exec c s = .next (s.ran code p fun r m => refuse r ePARAM (badField 0) m))
    asked 0xA3 0x5741524D 4 (.warmReset p) ∧ asked 0xA6 0x52454356 5 (.recoveryEnter p)) ∧
    ∀ (m : Mod) (cause : Nat), m.applyEffect (.warmReset cause) =
      { m with leaves := { m.leaves with resetAt := some (m.leaves.resetAt.elim cause fun c => max c cause) } }) ∧ (
  ∀ (s : State) (ns aux : Nat) (taken : Bool) (b : BootIn),
    let m := s.cur
    (m.sup.vaux = true → m.sup.resetN = false → 2000 ≤ ns → ∃ t, exec (.resetNAssert ns taken) s = .next { s with cur := t } ∧
        t.sup.resetN = true ∧ (m.tick.running = true → t.leaves.resetAt.isSome = true)) ∧
      (m.sup.resetN = true → ∃ t, exec (.resetNRelease aux b) s = .next { s with cur := t } ∧ t.sup.resetN = false ∧
        (m.leaves.resetAt = none → m.sup.rails = true → t.tick.running = true)) ∧
      (∀ c, m.leaves.resetAt = some c → m.tick.running = true → m.leaves.resetNow = true →
        ∃ t, exec (.warmResetStart b) s = .next { s with cur := t, snap := t, mirror := t } ∧ t.sessions = [] ∧
          t.leaves.resetAt = none ∧ t.leaves.resetNow = false ∧
          t.engine.run = none ∧ t.fabric.set = m.fabric.set ∧ (t.leaf .a).state = .boot ∧ (t.leaf .b).state = .boot ∧
          (t.leaf .a).causeLast = c ∧ (t.leaf .a).causePrev = (m.leaf .a).causeLast ∧ t.tick.count = m.tick.count) ∧
      (m.tick.running = true → m.recs.jUp = false → ∃ t, exec .journalRestart s = .next { s with cur := t } ∧
        t.recs.jUp = true ∧ t.recs.jSeq = m.recs.jMark + 65537) ∧
      (∀ i, m.tick.running = true → m.serving i = true → (m.leaf i).state = .boot → (m.leaf i).bootReads = false →
        ∃ t, exec .bootReadback s = .next { s with cur := t } ∧ (t.leaf .a).bootReads = true ∧ (t.leaf .b).bootReads = true ∧
          t.leaves.rebuildDue = false) ∧
      (∀ i, m.bootReady i = true → (m.leaf i).granting = false → ∃ t, exec (.bootComplete i) s = .next { s with cur := t } ∧
        ((∀ k < 8, m.reaches i k = true → (m.sill k).lease ≠ .valid) → (t.leaf i).granting = true ∧
          ∀ k < 8, m.reaches i k = true → (m.sill k).epoch < (t.leaf i).epoch) ∧
        ((∃ k < 8, m.reaches i k = true ∧ (m.sill k).lease = .valid) → m.leaves.active = some i.other →
          (t.leaf i).stopped = true ∧ (t.leaf i).granting = false)))

/-! ## Registers -/

/-- REG_WRITE and the rows of single registers (R171, R34, R18, R527, R402): FABRIC_CFG, MEMS_BUDGET, BRICK_SELECT, LOOP_SELECT,
PARAM_SELECT, PARAM_DATA, PARAM_APPLY, EXP_SELECT, EXP_DATA, MORTAR_CFG, GUARD_CFG, CAL_CFG, LASER_CFG, LASER_SELECT, SHUTTER_FORCE,
TIME_CFG, FABRIC_ID, POWER_CFG, IDLE_TICKS, LEAF_CFG, SEC_CFG, KEYHOLE_CFG, KEYHOLE_INDEX, KEYHOLE_ADDR, KEYHOLE_TRIGGER and
CHANNEL_SELECT, whose REG_WRITE packet `packetOf` gives. An admitted write that its register takes is journaled and accepted. A
select is the session's own and takes its value at once, and LOOP_SELECT forgets the words latched of the loop group; any other
register changes at the next boundary, with the selects the session has now; the OK reply leaves at the boundary. FABRIC_ID is in
the Cornerstone before it. -/
def Obligations.RegisterWritesComplete : Prop :=
  ∀ (c : Instr) (p : Packet) (s : State), packetOf c = some (0xA1, p) →
    let a := field p.payload 0 4
    let value := wordAt p.payload 4
    let mask := wordAt p.payload 8
    let acc : Accessor := .session p.link p.session
    let m0 := s.cur.taken (opRow 0xA1) p
    let sel := m0.selOf acc
    s.cur.admits (opRow 0xA1) p = true → sized p.payload 12 = true → m0.writeBad sel a value mask = none →
    (isSelect a = false → a ≠ 0x80014 →
        exec c s = .next (s.ran 0xA1 p fun r m =>
          { m.journalReq r stOK with deferred := m.deferred ++
              [{ eff := .regWrite acc sel a value mask, reply := some r.w, pkt := none }] })) ∧
      (a = 0x80014 →
        exec c s = .next (s.ran 0xA1 p fun r m =>
          { m.journalReq r stOK with
            recs := { (m.journalReq r stOK).recs with
              csFabric := (m.journalReq r stOK).withWrites.written sel a 0xFFFFFFFF value mask }
            deferred := m.deferred ++ [{ eff := .regWrite acc sel a value mask, reply := some r.w, pkt := none }] })) ∧
      (∀ x, isSelect a = true → a ≠ 0x50010 → masksOf sel a = some x →
        exec c s = .next (s.ran 0xA1 p fun r m =>
          let m := m.journalReq r stOK
          { m.setSession p.link p.session fun t =>
              { t with sel := if mask &&& x.2.1 = 0 then t.sel else t.sel.put a (m.withWrites.written sel a x.2.1 value mask) } with
            deferred := m.deferred ++ [{ eff := .nothing, reply := some r.w, pkt := none }] })) ∧
      (a = 0x50010 →
        exec c s = .next (s.ran 0xA1 p fun r m =>
          let m := m.journalReq r stOK
          { m.setSession p.link p.session fun t =>
              { t with
                sel := if mask &&& 0x3FFF = 0 then t.sel else
                  { t.sel with loop := (m.withWrites.written sel a 0x3FFF value mask).toNat }
                latch := { words := t.latch.words.filter fun q => !(laterWords 0x50014).contains q.1 } } with
            deferred := m.deferred ++ [{ eff := .nothing, reply := some r.w, pkt := none }] }))

/-- What a write to a plain register does at its boundary (R171): each bit of the register under MASK takes the VALUE bit, and every
other bit and register stays. The registers: TIME_CFG, FABRIC_CFG, MEMS_BUDGET, GUARD_CFG, FABRIC_ID, POWER_CFG, LEAF_CFG,
KEYHOLE_CFG and LASER_CFG. -/
def Obligations.RegisterWriteLands : Prop :=
  ∀ (m : Mod) (sel : Selects) (acc : Accessor) (v k : Word),
    let mix (old rw : Word) : Word := (old &&& rw &&& ~~~k) ||| (v &&& k &&& rw)
    let lands (a : Nat) (t : Mod) : Prop := m.applyEffect (.regWrite acc sel a v k) = t
    (k &&& 0xFF00000F ≠ 0 → lands 0x10014 { m with time := { m.time with cfg := mix m.time.cfg 0xFF00000F } }) ∧
      (k &&& 0xFF ≠ 0 → lands 0x40004 { m with fabric := { m.fabric with
        reserve := (mix (m.fabric.reserve.zeroExtend 32) 0xFF).setWidth 8 } }) ∧
      (k &&& 0x7FF ≠ 0 → lands 0x40008 { m with fabric := { m.fabric with
        budget := (mix (BitVec.ofNat 32 m.fabric.budget) 0x7FF).toNat } }) ∧
      (k &&& 0xFFFF0F ≠ 0 → lands 0x60018 { m with mortar := { m.mortar with guardCfg := mix m.mortar.guardCfg 0xFFFF0F } }) ∧
      (k ≠ 0 → lands 0x80014 { m with osc := { m.osc with fabricId := mix m.osc.fabricId 0xFFFFFFFF } }) ∧
      (k &&& 3 ≠ 0 → lands 0x90010 { m with power := { m.power with cfg := (mix (BitVec.ofNat 32 m.power.cfg) 3).toNat } }) ∧
      (k &&& 0x301 ≠ 0 → lands 0xA000C { m with leaves := { m.leaves with cfg := mix m.leaves.cfg 0x301 } }) ∧
      (k &&& 0xFFFF81FF ≠ 0 → lands 0xC0018 { m with keyhole := { m.keyhole with cfg := mix m.keyhole.cfg 0xFFFF81FF } }) ∧
      (k &&& 0x7F ≠ 0 → lands 0x80004 { m with osc := { m.osc with
        spareAt := (mix (BitVec.ofNat 32 m.osc.spareAt) 0x7F).toNat } })

/-- REG_READ (R170, R18, R24): COUNT registers from ADDR in address order, read for the session as its selects stand; an address
that holds no register is E_PARAM with UNDEFINED_ADDRESS and reads nothing. -/
def Obligations.RegisterReadsComplete : Prop :=
  ∀ (s : State) (p : Packet), s.cur.admits (opRow 0xA0) p = true → sized p.payload 6 = true →
    let a := field p.payload 0 4
    let n := field p.payload 4 2
    let acc : Accessor := .session p.link p.session
    let s0 : State := { s with cur := s.cur.taken (opRow 0xA0) p }
    let regs := (List.range n).map fun k => a + 4 * k
    let missing := regs.find? fun b => (s0.regValue p.link (s0.cur.selOf acc) b).isNone
    a % 4 = 0 → 1 ≤ n → n ≤ 256 →
    (missing = none →
        exec (.regRead p) s = .next (onCur
          (answer (packetReq p (opRow 0xA0)) stOK ((s0.readRegs acc p.link regs).1.flatMap fun w => le 4 w.toNat))
          (s0.readRegs acc p.link regs).2)) ∧
      (∀ b, missing = some b →
        exec (.regRead p) s = .next (s.ran 0xA0 p fun r m => refuse r ePARAM (detail 4 noField b) m))

/-- Writing 1 to a W1C bit clears it, but a bit that the hardware set in the same tick stays set (R20); after the tick it can be
cleared. Shown for the TICK_STATUS, TIME_STATUS, GUARD_FLAGS, RANGE_FLAGS and STAGE_SAT bits. -/
def Obligations.StickyBitsClear : Prop :=
  ∀ (m : Mod) (sel : Selects) (w : Word),
    let after (k : Sticky) : Sticky := { bits := k.bits &&& (~~~w ||| k.fresh), fresh := k.fresh }
    m.writeOnes sel 0x10010 w = { m with tick := { m.tick with rebased := after m.tick.rebased } } ∧
      m.writeOnes sel 0x10018 w = { m with time := { m.time with rebased := after m.time.rebased } } ∧
      m.writeOnes sel 0x6001C w = { m with mortar := { m.mortar with flags := after m.mortar.flags } } ∧
      m.writeOnes sel 0x60020 w = { m with mortar := { m.mortar with range := after m.mortar.range } } ∧
      m.writeOnes sel 0x50024 w = { m with trowel := { m.trowel with stageSat := after m.trowel.stageSat } } ∧
      ∀ (k : Sticky) (b : Word), ((k.put b).write1 b).bits = k.bits &&& ~~~b ||| b ∧ ((k.put b).settle.write1 b).bits = k.bits &&& ~~~b

/-- LEAF_CFG.PREF_SEL selects the preferred leaf, and where it is 0 the LEAF_PREF strap sampled at power-on reset does (R407). -/
def Obligations.PreferredLeaf : Prop :=
  ∀ m : Mod,
    (m.leaves.cfg.extractLsb' 8 2 = 0#2 → m.pref = if m.leaves.prefStrap then .a else .b) ∧
      (m.leaves.cfg.extractLsb' 8 2 = 1#2 → m.pref = .a) ∧ (m.leaves.cfg.extractLsb' 8 2 = 2#2 → m.pref = .b)

/-- Multi-byte fields are little-endian (R16): the byte at offset `i` of an `n`-byte field holds bits [8i+7:8i], and reading a field
gives the number written. -/
def Obligations.FieldsAreLittleEndian : Prop :=
  ∀ (n v : Nat),
    (∀ i, i < n → (le n v)[i]? = some (BitVec.ofNat 8 (v / 256 ^ i))) ∧ (le n v).length = n ∧
      ∀ a b : List Byte, field (a ++ le n v ++ b) a.length n = v % 256 ^ n

/-! ## The tick -/

/-- The rows of the tick, in the order of Table 4 (R30, R32): each row has its effect where the row before it was the last, while
the tick runs and no module reset has begun, and changes nothing anywhere else; TICK_BOUNDARY counts the tick and the aux periods
that passed in it before anything else, and reports the module as it then leaves it; no row touches what waits, and but for
TICK_BOUNDARY none touches the report; a GUARD whose mirror message fails leaves the mirror. -/
def Obligations.TickPhasesComplete : Prop :=
  ∀ (s : State) (aux power : Nat) (i : SenseIn) (k : ComputeIn) (failed : List Elem) (cs : List Nat) (b ok : Bool)
      (un : BitVec 8),
    let m := s.cur
    (m.inPhase .guard = true → exec (.tickBoundary aux power) s =
        .next { s with cur := boundary aux power s.snap m, snap := boundary aux power s.snap m }) ∧
      (m.countTick aux power).tick.count = m.tick.count + 1 ∧ (m.countTick aux power).aux = m.aux + aux ∧
      (m.countTick aux power).tick.phase = .boundary ∧
      (m.inPhase .boundary = true →
        ∃ t, exec (.sense i) s = .next { s with cur := t } ∧ t = runSense i m ∧ t.tick.phase = .sense) ∧
      (m.inPhase .sense = true →
        ∃ t, exec (.compute k) s = .next { s with cur := t } ∧ t = runCompute k m ∧ t.tick.phase = .compute) ∧
      (m.inPhase .compute = true →
        ∃ t, exec (.actuate failed cs) s = .next { s with cur := t } ∧ t = runActuate failed cs m ∧ t.tick.phase = .actuate) ∧
      (m.inPhase .actuate = true →
        ∃ t, exec (.commitStep b un) s = .next { s with cur := t } ∧ t = runCommitStep b un m ∧ t.tick.phase = .commit) ∧
      (m.inPhase .commit = true → ∃ t u, exec (.guard ok) s = .next { s with cur := t, mirror := u } ∧ t.tick.phase = .guard ∧
        (ok = false ∨ m.leaves.xlinkUp = false ∧ m.xlinkDown = true → u = s.mirror)) ∧
      (m.inPhase .guard = false → exec (.tickBoundary aux power) s = .next s) ∧
      (m.inPhase .boundary = false → exec (.sense i) s = .next s) ∧
      (m.inPhase .sense = false → exec (.compute k) s = .next s) ∧
      (m.inPhase .compute = false → exec (.actuate failed cs) s = .next s) ∧
      (m.inPhase .actuate = false → exec (.commitStep b un) s = .next s) ∧
      (m.inPhase .commit = false → exec (.guard ok) s = .next s)

/-- TICK_OVERRUN (R39): OVERRUN_CAUSE_SET sets degraded cause bit 0 after 100 consecutive ticks with carried work, and clears it
after 10,000 consecutive ticks with none; sooner it changes nothing, and nothing else changes.
The clock rows (R31, R458), while the tick runs: REFCLK_LOSS moves the tick to the internal oscillator, as degraded cause bit 1
once a leaf has left BOOT; REFCLK_RETURN and CLOCK_MOVE take place at a boundary, once REFCLK has been valid for 1,000 consecutive
ticks: the one clears the cause and both move the tick, and the cores of the leaves that run, to REFCLK. -/
def Obligations.OverrunAndClockRowsComplete : Prop :=
  (
  ∀ s : State, s.cur.tick.running = true →
    let with0 (c : Word) : State := { s with cur := { s.cur with leaves := { s.cur.leaves with causes := c } } }
    (s.cur.leaves.causes.getLsbD 0 = false → 100 ≤ s.cur.tick.carryRun →
        ∃ c, exec .overrunCauseSet s = .next (with0 c) ∧ c = s.cur.leaves.causes ||| 1) ∧
      (s.cur.leaves.causes.getLsbD 0 = true → 10000 ≤ s.cur.tick.cleanRun →
        ∃ c, exec .overrunCauseSet s = .next (with0 c) ∧ c = s.cur.leaves.causes &&& ~~~1) ∧
      (s.cur.leaves.causes.getLsbD 0 = false → s.cur.tick.carryRun < 100 → exec .overrunCauseSet s = .next s) ∧
      (s.cur.leaves.causes.getLsbD 0 = true → s.cur.tick.cleanRun < 10000 → exec .overrunCauseSet s = .next s)) ∧ (
  ∀ s : State, s.cur.tick.running = true →
    let m := s.cur
    let moved : Tick := { m.tick with refclkValid := true, src := false, coreA := m.serving .a, coreB := m.serving .b }
    let lost : Tick := { m.tick with refclkValid := false, src := true, refRun := 0 }
    (m.leftBoot = true → exec .refclkLoss s = .next { s with cur := { m with
        tick := lost, leaves := { m.leaves with causes := m.leaves.causes ||| 2 } } }) ∧
      (m.leftBoot = false → exec .refclkLoss s = .next { s with cur := { m with
        tick := { lost with coreA := false, coreB := false } } }) ∧
      (m.inPhase .boundary = true → 1000 ≤ m.tick.refRun → m.leaves.causes.getLsbD 1 = true →
        exec .refclkReturn s = .next { s with cur := { m with
          tick := moved, leaves := { m.leaves with causes := m.leaves.causes &&& ~~~2 } } }) ∧
      (m.inPhase .boundary = true → 1000 ≤ m.tick.refRun → m.leaves.causes.getLsbD 1 = false →
        (m.serving .a = true ∧ m.tick.coreA = false) ∨ (m.serving .b = true ∧ m.tick.coreB = false) →
        exec .clockMove s = .next { s with cur := { m with tick := moved } }) ∧
      (m.tick.refRun < 1000 → exec .refclkReturn s = .next s ∧ exec .clockMove s = .next s))

/-! ## Supplies, clocks and resets -/

/-- The supply rows (R443 – R447): each input takes its new level at the instant given. VAUX_RISE resets the always-on domain's
counters; a VANA_RISE sooner than 1 ms after VAUX is recorded as a violation and holds the module in BOOT; a fall out of order is
recorded; VIN54_RISE brings the rails up once VAUX is good, VANA has been good for 1.1 ms and the module is armed; a loss of
VIN54, or of an input above it, and an overvoltage leave every rail off, both leaves OFF and the tick stopped, with the elements
as they were. -/
def Obligations.SupplyRowsComplete : Prop :=
  ∀ (s : State) (dt aux volts : Nat) (refclk : Bool) (b : BootIn),
    let m := s.cur
    let dead (t : Mod) : Prop :=
      t.sup.rails = false ∧ t.tick.running = false ∧ (t.leaf .a).state = .off ∧ (t.leaf .b).state = .off ∧
        t.leaves.active = none ∧ t.engine = .init ∧ t.sessions = [] ∧ t.fabric = m.fabric
    (m.sup.vaux = false → ∃ t, exec (.vauxRise dt) s = .next { s with cur := t } ∧ t.sup.vaux = true ∧ t.aux = 0 ∧
        t.tick.count = 0 ∧ t.time.hostSet = false ∧ (t.leaf .a).causeLast = 2 ∧ (t.leaf .b).causeLast = 2 ∧
        t.sup.seqHold = (m.sup.seqHold || m.sup.vana || m.sup.vin54) ∧ t.sup.us = m.sup.us + dt) ∧
      (m.sup.vaux = true → ∃ t, exec (.vauxFall dt) s = .next { s with cur := t } ∧ t.sup.vaux = false ∧
        t.sup.faultN = true ∧ t.sup.us = m.sup.us + dt ∧ (m.sup.vana = true ∨ m.sup.vin54 = true → t.sup.seq = true) ∧
        (m.sup.rails = true → dead t)) ∧
      (m.sup.vana = false → ∃ t, exec (.vanaRise dt) s = .next { s with cur := t } ∧ t.sup.vana = true ∧
        t.sup.us = m.sup.us + dt ∧ t.sup.vanaAt = m.sup.us + dt ∧
        (m.sup.vaux = true → m.sup.us + dt < m.sup.vauxAt + 1000 → t.sup.seq = true ∧ t.sup.seqHold = true) ∧
        (m.sup.vaux = true → m.sup.vauxAt + 1000 ≤ m.sup.us + dt → t.recs = m.recs ∧ t.sup.seqHold = m.sup.seqHold)) ∧
      (m.sup.vana = true → ∃ t, exec (.vanaFall dt) s = .next { s with cur := t } ∧ t.sup.vana = false ∧
        t.sup.us = m.sup.us + dt ∧
        (m.sup.vaux = true → m.sup.vin54 = true → t.sup.seq = true ∧ (m.sup.rails = true → dead t))) ∧
      (m.sup.vin54 = false ∨ m.mayConvert (m.sup.us + dt) = true →
        ∃ t, exec (.vin54Rise dt aux volts refclk b) s = .next { s with cur := t } ∧ t.sup.vin54 = true ∧
          t.sup.us = m.sup.us + dt ∧
          (m.sup.vaux = true → m.sup.vana = true → m.sup.vanaAt + 1100 ≤ m.sup.us + dt → m.sup.armed = true →
            m.sup.rails = false → t.sup.rails = true ∧ t.fabric.set = m.fabric.set) ∧
          (m.sup.vaux = true → m.sup.vana = false → t.sup.seqHold = true ∧ t.sup.rails = m.sup.rails)) ∧
      (m.sup.vin54 = true → ∃ t, exec (.vin54Loss dt volts) s = .next { s with cur := t } ∧ t.sup.vin54 = false ∧
        t.sup.us = m.sup.us + dt ∧ t.sup.armed = true ∧ (m.sup.rails = true → dead t)) ∧
      (m.sup.vin54 = true → 1200 < volts → ∃ t, exec (.vin54Overvoltage dt volts) s = .next { s with cur := t } ∧
        t.sup.us = m.sup.us + dt ∧ t.sup.armed = false ∧ (m.sup.vaux = true → t.sup.seq = true) ∧
        (m.sup.rails = true → dead t))

/-! ## Leases and leaves -/

/-- Lease messages at a sill (R405, R408, R409): a GRANT is accepted where its epoch is above the sill's and the lease is not VALID,
a FORCED_GRANT whatever the lease is, and the grant is VALID from the next boundary; a RENEW of the sill's epoch restarts the
lapse count, carries HOLD, and returns a LAPSED sill to VALID; RELEASE makes each reached sill of the leaf's epoch RELEASED; a
VALID lease with three Commit steps missed becomes LAPSED. GRANTs come in Guard, RENEWs in Commit step, the others after Commit step.
Every other part of the module stays.
How control moves (R406, R414, R415, R417): on a notice a standby grants the next epoch, above every epoch it has seen and odd
for the preferred leaf; REVERT begins a release at a boundary at which no commit runs and none can launch, once the preferred leaf
has been eligible for 6,000,000 ticks and is not the holder. -/
def Obligations.LeaseAndTakeoverRowsComplete : Prop :=
  (
  ∀ (s : State) (i : Side) (k e : Nat), k < 8 →
    let m := s.cur
    let sillTo (f : Sill → Sill) : State := { s with cur := m.setSill k f }
    let grants : Prop := m.inPhase .guard = true ∧ m.reaches i k = true ∧ (m.leaf i).granting = true ∧ (m.leaf i).stopped = false ∧
      m.serving i = true ∧ (m.leaf i).epoch = e ∧ ∀ x, (m.sill k).grant = some x → x < e
    (grants → (m.sill k).epoch < e → (m.sill k).lease ≠ .valid →
        exec (.grant i k e) s = .next (sillTo fun x => { x with grant := some e })) ∧
      (grants → (m.sill k).epoch < e → m.grantsForced i = true →
        exec (.forcedGrant i k e) s = .next (sillTo fun x => { x with grant := some e })) ∧
      (grants → (m.sill k).lease = .valid ∨ e ≤ (m.sill k).epoch → exec (.grant i k e) s = .next (sillTo id)) ∧
      (∀ x : Sill, x.grant = some e → x.atBoundary.lease = .valid ∧ x.atBoundary.epoch = e ∧ x.atBoundary.missed = 0) ∧
      (m.inPhase .commit = true → m.holds i = true → m.reaches i k = true → (m.leaf i).epoch = e → (m.sill k).epoch = e →
        exec (.renew i k e) s = .next (sillTo fun x =>
          { x with missed := 0, hold := (m.leaf i).state == .safeHold, renewed := x.renewed || x.lease == .lapsed })) ∧
      (∀ x : Sill, x.lease = .lapsed → x.renewed = true → x.grant = none → x.atBoundary.lease = .valid) ∧
      (m.afterCommit = true → m.leaves.active = some i → m.holds i = true →
          m.leaves.releasing = some .release ∨ m.leaves.releasing = some .switch ∨ m.leaves.releasing = some .revert →
        ∃ t, exec (.release i) s = .next { s with cur := { m with sills := t } } ∧
          (k < m.sills.length → m.reaches i k = true → (m.sill k).epoch = (m.leaf i).epoch →
            lget .init t k = { m.sill k with lease := .released, notice := true }) ∧
          (m.reaches i k = false ∨ (m.sill k).epoch ≠ (m.leaf i).epoch → lget .init t k = m.sill k)) ∧
      (m.afterCommit = true → (m.sill k).lease = .valid → 3 ≤ (m.sill k).missed →
        exec (.leaseLapse k) s = .next (sillTo fun x => { x with lease := .lapsed, notice := true }))) ∧ (
  ∀ (s : State) (i : Side) (k : Nat),
    let m := s.cur
    (k < 8 → m.afterCommit = true → m.serving i = true → (m.leaf i).state = .standby → (m.leaf i).granting = false → (m.sill k).notice = true →
        m.reaches i k = true → m.isUnlocked (1 + i.num) = false → ∃ t, exec (.lapseNotice i k true) s = .next { s with cur := t } ∧
          (t.leaf i).granting = true ∧ (t.leaf i).epoch = m.nextEpoch i ∧ (t.leaf i).state = .standby ∧
          ((m.sill k).lease = .lapsed → t.leaves.releasing = some .lapse)) ∧
      ((m.leaf i).highest < m.nextEpoch i ∧ (m.nextEpoch i % 2 = 1 ↔ m.pref = i)) ∧
      (m.inPhase .boundary = true → m.leaves.cfg.getLsbD 0 = true → m.standby = some m.pref → m.eligible m.pref = true →
        m.leaves.active = some m.pref.other → 6000000 ≤ m.leaves.cleanTicks → m.engine.run = none → m.launchable = false →
        m.leaves.releasing = none →
        exec .revert s = .next { s with cur := { m with leaves := { m.leaves with releasing := some .revert } } }))

/-- Resets of one leaf (R35, R416, R461): a WATCHDOG or the return of its rails stops the leaf at once, its sessions closed and the other
leaf, the engine and the fabric as they were; the reset is due with its cause, 7 or 6, and at the boundary the leaf is in BOOT with
that cause and the cause before kept; a leaf whose rails collapse is held in reset.
Function reinits (R424, R425): one begins with a record and is counted, a third within the hour exhausts the function; at its end
the function is back, or is exhausted and counted as failed. -/
def Obligations.LeafResetAndReinitRowsComplete : Prop :=
  (
  ∀ (s : State) (i : Side),
    let m := s.cur
    let stops (t : Mod) (cause : Nat) : Prop := (t.leaf i).inReset = true ∧ (t.leaf i).resetDue = some cause ∧
      (t.leaf i).state = (m.leaf i).state ∧ (t.leaf i).granting = false ∧ t.leaf i.other = m.leaf i.other ∧ (∀ x ∈ t.sessions, x.link ≠ i) ∧ t.engine = m.engine ∧ t.fabric = m.fabric ∧
      t.sills = m.sills
    (m.tick.running = true → m.serving i = true → ∃ t, exec (.watchdog i) s = .next { s with cur := t } ∧ stops t 7) ∧
      (∀ c, ((m.resetLeaf i c).leaf i).state = .boot ∧ ((m.resetLeaf i c).leaf i).causeLast = c ∧
        ((m.resetLeaf i c).leaf i).causePrev = (m.leaf i).causeLast ∧ ((m.resetLeaf i c).leaf i).resetDue = none ∧
        ((m.resetLeaf i c).leaf i).degraded = false ∧ (m.resetLeaf i c).leaf i.other = m.leaf i.other) ∧
      (m.sup.rails = true → (m.leaf i).railsDown = false → (m.leaf i).state ≠ .off →
        ∃ t, exec (.leafRailCollapse i) s = .next { s with cur := t } ∧ (t.leaf i).inReset = true ∧
          (t.leaf i).railsDown = true ∧ (t.leaf i).state = (m.leaf i).state ∧ t.leaf i.other = m.leaf i.other ∧
          (∀ x ∈ t.sessions, x.link ≠ i)) ∧
      (m.sup.rails = true → (m.leaf i).railsDown = true → ∃ t, exec (.leafRailReturn i) s = .next { s with cur := t } ∧
        stops t 6 ∧ (t.leaf i).railsDown = false)) ∧ (
  ∀ (s : State) (f : Nat),
    let m := s.cur
    (m.running = true → f ≤ 5 → (f = 4 → m.variant.windows = true) → m.reinitOn f = false →
        exec (.firmwareReinit f) s = .next { s with cur := m.startReinit f none } ∧
        (m.startReinit f none).leaves.reinits = m.leaves.reinits + 1 ∧ (m.startReinit f none).reinitOn f = true ∧
        (2 ≤ m.reinitsOf f → (m.startReinit f none).leaves.exhausted.getLsbD f = true)) ∧
      (∀ r back, m.leaves.reinit.find? (fun r => r.1 == f) = some r →
        (back = true → m.tick.now ≤ r.2.1 + reinitBound f) → (back = false → r.2.1 + reinitBound f ≤ m.tick.now) →
        ∃ t, exec (.functionReinitDone f back) s = .next { s with cur := t } ∧ t.reinitOn f = false ∧
          t.leaves.reinitFails = m.leaves.reinitFails + (if back then 0 else 1) ∧
          (back = false → f < 8 → t.leaves.exhausted.getLsbD f = true) ∧ (back = true → t.leaves.exhausted = m.leaves.exhausted)))

/-- Self-diagnosis, reports, the cross-link and FAULT_N (R416, R420, R421, R457): a failure on the active leaf begins a release of the
lease where the standby is eligible; where it is not, it is only recorded; one on another leaf is kept for that leaf's next report;
a report of the standby, received while the cross-link is up, starts its period again, clean where no item fails; two periods
without one take the report as missing; four Guard phases without a mirror message take the cross-link down, a hundred valid ones
bring it back; FAULT_N is asserted where no leaf has held the lease for 150,000 ticks. -/
def Obligations.HealthRowsComplete : Prop :=
  ∀ (s : State) (i : Side) (items : BitVec 8) (cycles : Int),
    let m := s.cur
    (m.serving i = true → m.itemsOf i items ≠ 0 → ∃ t, exec (.selfDiagnosisFailure i items) s = .next { s with cur := t } ∧
        (m.leaves.active = some i → m.eligible i.other = true → m.leaves.releasing = none →
          t.leaves.releasing = some .release ∧ t.leaves.lastItem = m.itemsOf i items) ∧
        (m.leaves.active = some i → m.eligible i.other = false → t.leaves = m.leaves ∧ t.recs ≠ m.recs) ∧
        (m.leaves.active ≠ some i → t = m.setLeaf i fun l => { l with failed := l.failed ||| m.itemsOf i items })) ∧
      (m.standby = some i → m.leaves.reportTick + 10000 ≤ m.tick.now → m.leaves.xlinkUp = true → m.sec.fallback = 0 →
        ∃ t, exec (.standbyReport items) s = .next { s with cur := t } ∧ t.leaves.reportSeen = true ∧
          t.leaves.reportTick = m.tick.now ∧ (t.leaf i).failed = 0 ∧
          (t.leaves.reportClean = true ↔ m.itemsOf i items = 0 ∧ (m.leaf i).failed = 0 ∧ m.isUnlocked (1 + i.num) = false)) ∧
      (m.running = true → m.leaves.reportSeen = true → m.leaves.reportTick + 20000 ≤ m.tick.now →
        exec .reportMissing s = .next { s with cur := { m with leaves :=
          { m.leaves with reportSeen := false, cleanTicks := 0 } } }) ∧
      (4 ≤ m.leaves.xlinkMiss → m.xlinkDown = false → ∃ t, exec .crossLinkDown s = .next { s with cur := t } ∧
        t.xlinkDown = true ∧ t.leaves.xlinkUp = false ∧ t.leaves.cleanTicks = 0) ∧
      (m.xlinkDown = true → 100 ≤ m.leaves.xlinkGood → ∃ t, exec (.crossLinkUp cycles) s = .next { s with cur := t } ∧
        t.xlinkDown = false ∧ t.leaves.xlinkUp = true ∧ (cycles = 0 → t.recs = m.recs)) ∧
      (m.tick.running = true → m.leaves.active = none → m.sup.faultN = false → (∃ b, m.leaves.leaseEnded = some b ∧
          b + 150000 ≤ m.tick.now) →
        exec .faultNAssert s = .next { s with cur := { m with sup := { m.sup with faultN := true } } })

/-! ## Sills, dies and what holds the module safe -/

/-- Sills (R70, R83, R90, R569): a sill link goes down or comes back alone; a sill silent for 3 ticks is lost, its bricks UNDRIVEN and
nothing fired at it awaited; one without power has its windows COLD; a return over a link that is up ends both. The elements keep
their states through all of it.
Die-to-die links, the context store and channels (R427 – R429, R539): a link that goes down is counted and retrained, and comes back
alone; a scrub that finds nothing bad changes nothing, and one bad copy whose other copy is good is corrected and counted, the
members as they were; a channel that fails serves no more, its 3,072 MiB leave the job pool, and the module is degraded. -/
def Obligations.SillAndDieRowsComplete : Prop :=
  (
  ∀ (s : State) (k : Nat) (i : Side), k < 8 → k < s.cur.sills.length →
    let m := s.cur
    (m.tick.running = true → (m.sill k).linkTo i = true → ∃ t, exec (.sillLinkDown k i) s = .next { s with cur := t } ∧
        (t.sill k).linkTo i = false ∧ (t.sill k).linkTo i.other = (m.sill k).linkTo i.other ∧
        (t.sill k).lease = (m.sill k).lease ∧ t = { m with sills := t.sills }) ∧
      (m.tick.running = true → (m.sill k).linkTo i = false → ∃ t, exec (.sillLinkRestored k i) s = .next { s with cur := t } ∧
        (t.sill k).linkTo i = true ∧ (t.sill k).linkTo i.other = (m.sill k).linkTo i.other ∧ t = { m with sills := t.sills }) ∧
      (m.running = true → (m.sill k).away = false → 3 ≤ (m.sill k).silent →
        ∃ t, exec (.sillLost k) s = .next { s with cur := t } ∧ (t.sill k).lost = true ∧
          t.fabric.set = m.fabric.set ∧ (∀ b, sillOfBrick b = k → t.undriven b = true) ∧ (∀ f ∈ t.engine.fired, sillOfBrick f.elem.brick ≠ k)) ∧
      (m.tick.running = true → (m.sill k).powered = true →
        ∃ t, exec (.sillPowerLoss k) s = .next { s with cur := t } ∧ (t.sill k).powered = false ∧
          (t.sill k).epoch = (m.sill k).epoch ∧ t.fabric.set = m.fabric.set ∧ ∀ w, sillOfWindow w = k → t.wstate w = .cold) ∧
      (m.running = true → (m.sill k).away = true → (m.sill k).linkA = true ∨ (m.sill k).linkB = true →
        ∃ t, exec (.sillReturn k) s = .next { s with cur := t } ∧ (t.sill k).away = false ∧ (t.sill k).silent = 0 ∧
          t.fabric.set = m.fabric.set)) ∧ (
  ∀ (s : State) (k n : Nat) (bad : List (Nat × Nat)), s.cur.tick.running = true →
    let m := s.cur
    (k < 12 → m.die.up.getLsbD k = true → ∃ t, exec (.dieLinkDown k n) s = .next { s with cur := t } ∧
        t.die.up.getLsbD k = false ∧ (∀ j, j ≠ k → t.die.up.getLsbD j = m.die.up.getLsbD j) ∧ t.die.downs = m.die.downs + 1 ∧
        k ∈ t.die.retrain ∧ t.leaves.retries = m.leaves.retries + n) ∧
      (k < 12 → k ∈ m.die.retrain → ∃ t, exec (.dieLinkUp k) s = .next { s with cur := t } ∧ t.die.up.getLsbD k = true ∧
        (∀ j, j ≠ k → t.die.up.getLsbD j = m.die.up.getLsbD j) ∧ k ∉ t.die.retrain) ∧
      (m.recs.jUp = true → exec (.scrub bad) s = .next { s with cur := m.scrubAll bad }) ∧ m.scrubAll [] = m ∧
      (∀ ctx c, ctx < 1048576 → c < 2 → m.channelOk (copyChannel ctx 0) = true → m.channelOk (copyChannel ctx 1) = true →
        m.memPort (copyChannel ctx c / 4) = true →
        (m.scrubAll [(ctx, c)]).die.corrected = m.die.corrected + 1 ∧ (m.scrubAll [(ctx, c)]).engine = m.engine) ∧
      (k < 8 → k < m.die.channels.length → m.channelOk k = true → ∃ t, exec (.channelFailure k) s = .next { s with cur := t } ∧
        t.channelOk k = false ∧ t.mortar.poolMib = m.mortar.poolMib - 3072 ∧ t.causes.getLsbD 16 = true))

/-- Causes of SAFE_HOLD (R45, R346, R449, R563): a MEMS rail out of limits in two conversions, a tile over temperature in two, and the
interlock each ask for the state at the next boundary and set the sticky cause, and change the leaves' states and the engine not at
once; the interlock closes every shutter at once, and its release only clears the input. -/
def Obligations.SafetyRowsComplete : Prop :=
  ∀ (s : State) (k : Nat),
    let m := s.cur
    let asks (t : Mod) (b : Nat) : Prop := t.leaves.wantHold = true ∧ t.leaves.holdSeen.bits.getLsbD b = true ∧
      t.engine = m.engine ∧ t.leaves.leaf = m.leaves.leaf
    (m.tick.running = true → 2 ≤ m.sup.memsBad →
        ∃ t, exec .memsRailFault s = .next { s with cur := t } ∧ asks t 1) ∧
      (m.tick.running = true → k < 68 → 2 ≤ aget 0 m.fabric.tileHot k →
        ∃ t, exec (.tileOverTemperature k) s = .next { s with cur := t } ∧ asks t 2 ∧ k ∈ t.fabric.tileOver ∧
          t.fabric.set = m.fabric.set) ∧
      (m.sup.interlock = false → ∃ t, exec .safetyInterlockAssert s = .next { s with cur := t } ∧ asks t 0 ∧
        t.sup.interlock = true ∧ ∀ p, (t.shutter p).emitting = false ∧ (t.shutter p).isOpen = false) ∧
      (m.sup.interlock = true →
        exec .safetyInterlockRelease s = .next { s with cur := { m with sup := { m.sup with interlock := false } } })

/-! ## The links and what waits on them -/

/-- Link rows (R138 – R140, R149, R151, R160, R163, R164). A frame whose FCRC fails is dropped and answered with NAK; a packet in one
data frame that is next in order is received and acknowledged; idle frames return credit up to what the module grants; a NAK has
every frame not acknowledged sent again, and the ninth for one frame, ten ticks without a valid frame, or a retrain request, take
the link DOWN: it loses its credit, what was not acknowledged and what it had partly received. Retraining brings it UP with full
credit and frames numbered from 1 (the model's choice, log 98). A session ends 1 s after its link went DOWN, a back-off and a held
result at their time, and what waits for credit is sent when it comes. The other link stays. -/
def Obligations.LinkRowsComplete : Prop :=
  ∀ (s : State) (i : Side) (f : LinkFrame) (sid : Word) (tag : BitVec 16),
    let m := s.cur
    let l := m.link i
    let down (t : Mod) : Prop := (t.link i).state = 1 ∧ (t.link i).downs = l.downs + 1 ∧ (t.link i).unacked = [] ∧
      (t.link i).partialRx = [] ∧ (t.link i).pktCredit = 0 ∧ (t.link i).byteCredit = 0 ∧ t.link i.other = m.link i.other
    (m.linkUp i = true → (f.fcrcOk = false → ∃ t, exec (.linkFrameRx i f) s = .next { s with cur := t } ∧
          t.link i = { l with nakDue := true, wire := l.wire ++ [frameBytes 2 4 0 l.rxAck.toNat 0 0 []] } ∧
          t.link i.other = m.link i.other ∧ t.leaves = m.leaves) ∧
        (f.fcrcOk = true → f.ftype = 1 → f.nak = false → f.sop = true → f.eop = true → f.seq = l.rxAck + 1 →
          ∃ t, exec (.linkFrameRx i f) s = .next { s with cur := t } ∧ (t.link i).rxAck = f.seq ∧
            (t.link i).received = l.received ++ [wholePacket f.data] ∧
            (t.link i).wire = l.wire ++ [frameBytes 2 0 0 f.seq.toNat 0 0 []] ∧ t.link i.other = m.link i.other) ∧
        (f.fcrcOk = true → f.ftype = 2 → f.nak = true → l.unacked ≠ [] → (∀ x ∈ l.unacked, x.seq ≠ f.ack) →
          ∃ t, exec (.linkFrameRx i f) s = .next { s with cur := t } ∧ (8 ≤ l.failReplay → down t) ∧
            (l.failReplay < 8 → (t.link i).state = 2 ∧ (t.link i).replays = l.replays + l.unacked.length ∧
              (t.link i).wire = l.wire ++ l.unacked.map fun x => x.bytes l.rxAck)) ∧
        (f.fcrcOk = true → f.ftype = 3 → ∃ t, exec (.linkFrameRx i f) s = .next { s with cur := t } ∧ down t) ∧
        (f.fcrcOk = true → f.ftype = 0 → f.nak = false →
          ∃ t, exec (.linkFrameRx i f) s = .next { s with cur := t } ∧ (t.link i).state = 2 ∧ (t.link i).idleTicks = 0 ∧
            (t.link i).pktCredit = min 64 (l.pktCredit + f.pktCredit) ∧
            (t.link i).byteCredit = min 262144 (l.byteCredit + 8 * f.byteCredit)) ∧
        (10 ≤ l.idleTicks → ∃ t, exec (.linkDownTimeout i) s = .next { s with cur := t } ∧ down t)) ∧
      (m.serving i = true → l.state = 1 → ∃ t, exec (.retrainComplete i) s = .next { s with cur := t } ∧
        (t.link i).state = 2 ∧ (t.link i).pktCredit = 64 ∧ (t.link i).byteCredit = 262144 ∧ (t.link i).txSeq = 1 ∧
        (t.link i).unacked = [] ∧ t.link i.other = m.link i.other) ∧
      (∀ b, m.isOpen i sid = true → l.state ≠ 2 → l.downTick = some b → b + 100000 ≤ m.tick.now →
        ∃ t, exec (.sessionLinkTimeout i sid) s = .next { s with cur := t } ∧ t.isOpen i sid = false ∧ t.held = m.held ∧
          ∀ x ∈ m.sessions, x.link ≠ i ∨ x.id ≠ sid → x ∈ t.sessions) ∧
      (∀ b, l.backoff = some b → b ≤ m.tick.now →
        exec (.authBackoffEnd i) s = .next { s with cur := m.setLink i fun l => { l with backoff := none } }) ∧
      (∀ p rest, m.serving i = true → m.settling = false → l.waiting = p :: rest → l.canSend p.payload.length = true →
        ∃ t, exec (.creditedSend i) s = .next { s with cur := t } ∧ (t.link i).waiting = rest ∧
          (t.link i).pktCredit = l.pktCredit - 1 ∧ (t.link i).byteCredit = l.byteCredit - (m.stamp i p).payload.length ∧
          (t.link i).sent = l.sent ++ [m.stamp i p]) ∧
      ((∃ h ∈ m.held, h.link = i ∧ h.session = sid ∧ h.tag = tag ∧ h.final.isSome = true ∧ h.ready + 1000000 ≤ m.tick.now) →
        ∃ t, exec (.resultExpiry i sid tag) s = .next { s with cur := t } ∧
          ∀ h, h ∈ t.held ↔ h ∈ m.held ∧ ¬ (h.link = i ∧ h.session = sid ∧ h.tag = tag))

/-! ## The commit engine -/

/-- Commits (R92, R93, R96, R108, R110, R119, R122, R123, R125, R210). At a boundary, the plan at the head of the queue that passes its
LAUNCH checks runs, with the active leaf COMMITTING; one that fails them leaves the queue, a stale base or a stale plan with
E_CONFLICT and a damaged record with E_MEDIA; what the module reports follows at once. In a Commit step that is not carried, a host
commit that completes raises COMMIT_GEN by 1 here and in the Cornerstone and its outcome is kept, one that ends early raises it by 2
once anything fired; an engine commit leaves it, and starts at a boundary where orphans wait. A start that waits begins as soon as
its tile has one free, the oldest of the tile first. -/
def Obligations.CommitRowsComplete : Prop :=
  ∀ (s : State) (prefer bad : List Nat),
    let m := s.cur
    let reports (f : Mod → Mod) : State := atBoundary (onCur (fun m => (f m).stateEvent m.byte) s)
    let turned (t : Mod) (pl : Plan) : Prop := t.engine.run = m.engine.run ∧ pl.id ∉ t.engine.queue ∧
      t.engine.gen = m.engine.gen ∧ t.engine.members = m.engine.members
    (∀ pl, m.inPhase .boundary = true → m.launchable = true → m.headPlan = some pl →
        (pl.damaged = false → (∀ c ∈ pl.ctxs, c ∉ bad) → pl.base = m.engine.gen → pl.stale = false →
          m.touchCheck pl m.engine.members = none →
          exec (.commitLaunch prefer bad) s = .next (reports fun m => m.launch pl prefer) ∧
          (m.launch pl prefer).engine.run.isSome = true ∧ (m.launch pl prefer).engine.lastLaunch = m.tick.count ∧
          (m.launch pl prefer).engine.gen = m.engine.gen ∧ ((m.launch pl prefer).leaf m.worker).state = .committing) ∧
        (pl.damaged = false → (∀ c ∈ pl.ctxs, c ∉ bad) → pl.base ≠ m.engine.gen ∨ pl.stale = true →
          exec (.commitLaunch prefer bad) s = .next (reports fun m => m.unlaunch pl eCONFLICT plain) ∧
          turned (m.unlaunch pl eCONFLICT plain) pl) ∧
        (pl.damaged = true ∨ (∃ c ∈ pl.ctxs, c ∈ bad) →
          exec (.commitLaunch prefer bad) s = .next (reports fun m => (m.unlaunch pl eMEDIA plain).mediaRead) ∧
          turned (m.unlaunch pl eMEDIA plain) pl)) ∧
      (∀ r, m.inPhase .commit = true → m.tick.commitLate = false → m.completable = true → m.engine.run = some r →
        ∃ t, exec .commitComplete s = .next { s with cur := t } ∧ t.engine.run = none ∧ t.engine.fired = [] ∧
          t.engine.gen = (if r.engine then m.engine.gen else m.engine.gen + 1) ∧
          (r.engine = false → t.recs.csGen = m.engine.gen + 1 ∧ ∃ o ∈ t.engine.outcomes, o.planId = r.planId ∧
            o.counts = r.counts)) ∧
      (∀ r why, m.inPhase .commit = true → m.tick.commitLate = false → m.running = true → m.endReady = true →
        m.engine.run = some r → r.ending = some why →
        ∃ t, exec .commitEnd s = .next { s with cur := t } ∧ t.engine.run = none ∧
          t.engine.gen = (if r.engine || !r.begun then m.engine.gen else m.engine.gen + 2)) ∧
      (m.inPhase .boundary = true → m.engineMay = true → m.engineOrphans ≠ [] →
        ∃ t r, exec (.engineCommit prefer) s = .next { s with cur := t } ∧
          t.engine.run = some r ∧ r.engine = true ∧ r.planId = 0 ∧ t.engine.gen = m.engine.gen ∧
          t.engine.members = m.engine.members.map fun (x : Context) => { x with moved := false }) ∧
      (∀ pre x rest, m.trowel.starts = pre ++ x :: rest → m.canStart x.window = true →
        (∀ y ∈ pre, tileOfWindow y.window ≠ tileOfWindow x.window) →
        exec (.windowStart x.window) s = .next { s with cur :=
          { m with trowel := { m.trowel with starts := m.trowel.starts.filter fun y => y.window != x.window } }.beginStart x })

/-! ## The planner, the thermal model and the courses -/

/-- Solves and the determinism profile (R257, R264, R268, R270): the first waiting solve starts when none runs; one with a demand unmet
ends with E_CAPACITY naming it; one whose check failed runs once more, and the second time ends with E_INTEGRITY; a requested
profile is in force at the first boundary at which no job runs or pauses.
Feed-forward and the thermal model (R188, R254, R261 – R263), on a variant with windows: slices of a doubled model that disagree are
counted and miss the tick; an agreed slice is the prediction, each correction within ±4 mW; a miss keeps the prediction; four misses
lose the term and ten predictions on time restore it. An error of a course is counted, the third of a kind within a second makes it
FAILED, and a course that leaves the enabled set is FAILED and reserved no longer; a partner that no job holds is reserved again. -/
def Obligations.SolverAndThermalRowsComplete : Prop :=
  (
  ∀ (s : State) (prefer : List Nat) (result : SolveResult) (v : Solve) (rest : List Solve),
    let m := s.cur
    (m.mortar.solving = none → m.mortar.solves = v :: rest → m.reinitOn 3 = false →
        exec .solveStart s = .next { s with cur := { m with mortar :=
          { m.mortar with solving := some v, solves := rest } } }) ∧
      (m.engineUp = true → m.mortar.solving = some v →
        exec (.solveDone result prefer) s = .next { s with cur := solveDone result prefer v m } ∧
        (∀ d, exec (.solveDone (.unmet d) prefer) s =
          .next { s with cur := (m.solveOver v).final v.waiter eCAPACITY (detail 0 noField d) }) ∧
        (v.rerun = false → exec (.solveDone .checkFail prefer) s = .next { s with cur := { m with mortar :=
          { m.mortar with solving := some { v with rerun := true } } } }) ∧
        (v.rerun = true → exec (.solveDone .checkFail prefer) s =
          .next { s with cur := (m.solveOver v).final v.waiter eINTEGRITY plain })) ∧
      (m.inPhase .boundary = true → m.mortar.detPend = true →
        (∀ p ∈ m.mortar.jobs, p.2.state ≠ .running ∧ p.2.state ≠ .pausing) →
        exec .detProfileChange s = .next { s with cur := { m with mortar :=
          { m.mortar with open_ := m.mortar.detReq, detPend := false } } })) ∧ (
  ∀ (s : State) (x y : List (Nat × BitVec 16)) (c reason : Nat),
    let m := s.cur
    let tr (f : Trowel → Trowel) : State := { s with cur := { m with trowel := f m.trowel } }
    (m.sliceOpen = true → m.variant.windows = true → m.mortar.mode < 2 → m.reinitOn 4 = false → m.dieLink 4 = true →
        (m.mortar.mode = 0 → x ≠ y → ∃ t, exec (.thermalModelSlice x y) s = .next { s with cur := t } ∧
          t.mortar.compareFails = m.mortar.compareFails + 1 ∧ t.mortar.misses = m.mortar.misses + 1 ∧
          t.trowel.pred = m.trowel.pred) ∧
        (m.mortar.mode = 1 ∨ x = y → ∃ t, exec (.thermalModelSlice x y) s = .next { s with cur := t } ∧
          t.trowel.pred = x.map (fun p => (p.1, (clampCorrection p.2).1)) ∧ t.trowel.ffMisses = 0 ∧
          t.trowel.ffGood = m.trowel.ffGood + 1)) ∧
      (∀ w, -4 ≤ kfVal (clampCorrection w).1 ∧ kfVal (clampCorrection w).1 ≤ 4) ∧
      (m.running = true → m.variant.windows = true →
        (m.inPhase .sense = true → m.trowel.ffFor < m.ffTick →
          ∃ t, exec .ffMiss s = .next { s with cur := t } ∧ t.trowel.ffMisses = m.trowel.ffMisses + 1 ∧
            t.trowel.ffGood = 0 ∧ t.trowel.pred = m.trowel.pred ∧ t.mortar.misses = m.mortar.misses + 1) ∧
        (4 ≤ m.trowel.ffMisses → m.trowel.ffState ≠ 2 →
          exec .ffLost s = .next (tr fun t => { t with ffState := 2, ffDir := -1 })) ∧
        (10 ≤ m.trowel.ffGood → m.trowel.ffState = 2 →
          exec .ffRestore s = .next (tr fun t => { t with ffState := 0, ffDir := 1 }))) ∧
      (m.tick.running = true → m.enabled c = true → reason < 2 → c < m.mortar.courses.length →
        ∃ t, exec (.courseFail c reason) s = .next { s with cur := t } ∧
          (reason = 0 → t.mortar.mismatches = m.mortar.mismatches + 1) ∧
          (reason = 1 → t.mortar.sramUnc = m.mortar.sramUnc + 1) ∧
          (2 ≤ ((m.course c).errors.filter fun x => x.1 == reason && decide (m.tick.now < x.2 + 100000)).length →
            (t.course c).failing.isSome = true)) ∧
      (∀ r, c < m.mortar.courses.length → ((leavesSet c r m).course c).failed = true ∧
        c ∉ (leavesSet c r m).mortar.reserved) ∧
      (∀ k, m.partnerMay = true → m.partner = some k → (∀ p ∈ m.mortar.jobs, k ∉ p.2.courses) →
        ∃ t, exec .thermalPartnerReturn s = .next { s with cur := t } ∧ k ∈ t.mortar.reserved ∧ t.mortar.reclaim = none))

/-- Jobs and their transfers (R25, R275, R278, R283, R285): a package that passes is LOADED and one that does not is REJECTED; a pausing
job stops, and is PAUSED with the state of its courses saved once no transfer is left; a job at its limit ends for that reason and
gives its courses back; over a memory port that is up the oldest transfer of a tag completes, or an uncorrectable read is counted
and ends the job. -/
def Obligations.JobRowsComplete : Prop :=
  ∀ (s : State) (k : Nat) (j : Job) (proof : Option Proven), s.cur.job k = some j →
    let m := s.cur
    (j.state = .verifying →
        (m.packageBad j proof = none →
          exec (.jobVerifyDone k proof) s = .next { s with cur := m.setJob k fun j => { j with state := .loaded } }) ∧
        (∀ reason, m.packageBad j proof = some reason →
          ∃ t, exec (.jobVerifyDone k proof) s = .next { s with cur := t } ∧ t.mortar = (m.setJob k fun j =>
            { j with state := .rejected }).mortar)) ∧
      (j.state = .pausing → j.stopped = false →
        exec (.jobPauseStopped k) s = .next { s with cur := m.setJob k fun j => { j with stopped := true } }) ∧
      (j.state = .pausing → j.stopped = true → (∀ c ∈ j.courses, (m.course c).dma = []) →
        ∃ t x, exec (.jobSaveDone k) s = .next { s with cur := t } ∧ t.job k = some x ∧ x.state = .paused ∧ x.courses = [] ∧
          x.saved = j.courses.map m.course ∧ x.resumeOn = j.courses) ∧
      (j.state = .running → 0 < field j.package 36 8 → field j.package 36 8 ≤ j.ticks →
        ∃ t x, exec (.jobTimeLimit k) s = .next { s with cur := t } ∧ t.job k = some x ∧ x.state = .ended ∧
          x.exit = exitWord 5 0 ∧ x.courses = [] ∧ x.mem = []) ∧
      (∀ (c : Nat) (t : Dma) (bad : Option Nat), (m.mortar.jobs.find? fun p => p.2.courses.contains c) = some (k, j) →
        ((m.course c).dma.find? fun x => x.tag == t.tag) = some t →
        m.die.up.getLsbD 10 = true ∨ m.die.up.getLsbD 11 = true →
        (t.into = false ∨ bad = none → exec (.dmaDone c t.tag bad) s =
          .next { s with cur := (m.dmaMove c k t j.mem).setCourse c fun k =>
            ({ k with dma := k.dma.erase t } : Course).waitOver }) ∧
        (∀ ch, t.into = true → bad = some ch → ∃ u, exec (.dmaDone c t.tag bad) s = .next { s with cur := u } ∧
          u.die.media = m.die.media + 1 ∧ ∃ x, u.job k = some x ∧ x.state = .ended ∧ x.exit = exitWord 7 0))

/-! ## Loops and traces -/

/-- Loop rows (R214, R215, R218): after a Compute phase that found its eighth mismatch, an automatic loop is in hold at its last
output, and one in manual mode keeps its own; a loop held so is released after 1,000 ticks in tolerance, at most three times an hour,
and is preset; a triggered trace with its samples taken is done.
Calibration rows (R301, R306, R322, R326 – R330). References are checked in a Sense phase once a second, and one further than
0.20 % from their median is suspect. A run begins in its gap and is under way, or is over at once and takes its unit out of those
that wait; it moves no circuit. The final of CAL_RUN leaves when every class named is done or a second has passed. A window on the
wrong lane is flagged with its members no longer ACTIVE; a sweep of it begins in a free tick; the end of a sweep takes the flag away,
has the window park and relock, and is counted as confirmed, with its lane shift one more, or as false; a flag not swept for 100 ms
makes its members LOST. -/
def Obligations.LoopAndCalibrationRowsComplete : Prop :=
  (
  ∀ (s : State) (k : Nat), s.cur.running = true →
    let m := s.cur
    let l := m.loop k
    (m.inPhase .compute = true → m.variant.loop k = true → loopClass k ≠ some .monitor → 8 ≤ l.mism → m.inHold k = false →
        ∃ t, exec (.implausibleHold k) s = .next { s with cur := t } ∧ (t.loop k).mism = 0 ∧
          (l.mode = .auto → (t.loop k).causes = l.causes ||| 2 ∧ (t.loop k).u = l.uPrev) ∧
          (l.mode = .manual → (t.loop k).causes = l.causes ∧ (t.loop k).u = l.u)) ∧
      (l.causes.getLsbD 1 = true → 1000 ≤ l.calm → (l.releasesAt m.tick.now).length < 3 →
        ∃ t, exec (.implausibleRelease k) s = .next { s with cur := t } ∧ (t.loop k).causes.getLsbD 1 = false ∧
          (t.loop k).preset = true ∧ (t.loop k).releases = l.releasesAt m.tick.now ++ [m.tick.now]) ∧
      ((m.trowel.trace.get m.worker).state = .triggered → 4096 - (m.trowel.trace.get m.worker).pre ≤
          (m.trowel.trace.get m.worker).after →
        ∃ t, exec .traceDone s = .next { s with cur := t } ∧ (t.trowel.trace.get m.worker).state = .done ∧
          (t.trowel.trace.get m.worker).samples = (m.trowel.trace.get m.worker).samples ∧ t.trowel.loops = m.trowel.loops)) ∧ (
  ∀ (s : State) (w c u : Nat) (refs : List Nat) (taps : List CalTap) (lit peak : Bool),
    let m := s.cur
    let flagged : Prop := ∃ f ∈ m.cal.flagged, f.1 = w
    (m.inPhase .sense = true → m.running = true → refs.length = 10 → (∀ b, m.cal.refAt = some b → b + 100000 ≤ m.tick.now) →
        ∃ t, exec (.refCheck refs) s = .next { s with cur := t } ∧ t.cal.refAt = some m.tick.now ∧ t = { m with cal := t.cal } ∧
          ∀ k < 10, median2 refs < refOff (median2 refs) (lget 0 refs k) * 500 → t.cal.suspect.getLsbD k = true) ∧
      (m.calGap c u = true → m.reinitOn 2 = false → c < m.cal.classes.length →
        ∃ t, exec (.calibrationRun c u taps) s = .next { s with cur := t } ∧ t.engine = m.engine ∧ t.fabric = m.fabric ∧
          ((∃ r ∈ t.cal.tests, r.cls = c ∧ r.unit = u) ∨
            ((∀ q ∈ (t.calClass c).pending, q.1 ≠ u) ∧ u ∈ (t.calClass c).ran))) ∧
      (∀ x cs b, m.running = true → m.cal.waiter = some (x, cs, b) →
        (∀ k ∈ bitsSet 6 cs.toNat, m.calFinished k = true) ∨ b + 100000 ≤ m.tick.now →
        exec .calRunDone s = .next { s with cur := (({ m with cal := { m.cal with waiter := none } }).final x
          (if (bitsSet 6 cs.toNat).all m.calClean then stOK else eDEGRADED)
          ((if (bitsSet 6 cs.toNat).all m.calClean then [] else plain) ++ (bitsSet 6 cs.toNat).flatMap m.calEntry)) }) ∧
      (m.running = true → w < m.variant.windowCount → (m.loop w).lockRun = 64 → m.inAuto w = true → ¬ flagged →
        m.wrongLane w = true → ∃ t, exec (.wrongLaneCheck w) s = .next { s with cur := t } ∧ (∃ f ∈ t.cal.flagged, f.1 = w) ∧
          t.cal.wlLast = w ∧ ∀ x ∈ t.engine.members, w ∈ x.circ.windows → x.state ≠ .active) ∧
      (m.inPhase .boundary = true → m.driving = true → m.freeTick = true → m.reinitOn 2 = false → flagged →
        m.sweepAt w = none → m.canStart w = true → m.inHold w = false →
        ∃ t x, exec (.signatureSweep w () ()) s = .next { s with cur := t } ∧ t.cal.sweeps = m.cal.sweeps ++ [x] ∧ x.window = w ∧
          x.steps = 0 ∧ t.cal.flagged = m.cal.flagged ∧ t.startsOn w = m.startsOn w + 1) ∧
      ((∀ f ∈ (sweepEnd w lit peak m).cal.flagged, f.1 ≠ w) ∧ w ∈ (sweepEnd w lit peak m).cal.relock ∧
        (sweepEnd w lit peak m).cal.confirmed = m.cal.confirmed + (if confirmed w lit peak then 1 else 0) ∧
        (sweepEnd w lit peak m).cal.falses = m.cal.falses + (if confirmed w lit peak then 0 else 1) ∧
        (confirmed w lit peak = true → aget 0 (sweepEnd w lit peak m).cal.laneShift w = aget 0 m.cal.laneShift w + 1)) ∧
      (m.running = true → w ∉ m.cal.lostFlag → m.sweepAt w = none →
        (∃ f ∈ m.cal.flagged, f.1 = w ∧ f.2.1 + 10000 ≤ m.tick.now) →
        ∃ t, exec (.wrongLaneTimeout w) s = .next { s with cur := t } ∧ w ∈ t.cal.lostFlag ∧
          ∀ x ∈ t.engine.members, w ∈ x.circ.windows → x.state ≠ .active ∧ x.state ≠ .atRisk))

/-! ## Calibration, lasers and signals -/

/-- Laser rows (R334 – R338). An aged OSC laser with a READY spare is due to hand over: its switch is set in the next tick, and
both are then HANDOVER; an aged probe laser is replaced by its spare at once. A laser in service that fails is FAILED, and its
READY spare is WORKING in its place; a READY spare that fails is FAILED. Without a spare, the end of life of a laser is a degraded
cause. A probe laser that fails is FAILED and every other laser stays.
Loss of signal and shutters (R341 – R345): 20 low readings in a row are a loss of signal and the neighbour state is NONE, 100 high
ones in a row end it; a shutter that is to stay open and reports open emits; a probing pulse opens the shutter of a port in loss of
signal 10 s after it closed, and ends after 200 ticks of emission, dark and closed. -/
def Obligations.LaserAndSignalRowsComplete : Prop :=
  (
  ∀ (s : State) (k : Nat),
    let m := s.cur
    (∀ x, m.driving = true → m.dieLink 2 = true → m.variant.laser k = true → m.aged k = true → m.readySpare k = some x →
        (m.laser k).switchAt = none → (20 ≤ k → ∀ r ∈ m.cal.tests, r.cls ≠ 4) →
        ∃ t, exec (.laserHandover k) s = .next { s with cur := t } ∧
          (k < 20 → (t.laser k).switchAt = some (m.tick.now + 1) ∧ (t.laser k).role = 0 ∧ t.laser x = m.laser x) ∧
          (20 ≤ k → (t.laser k).role = 3 ∧ (t.laser x).role = 0 ∧ (t.laser x).partner = m.laserHome k)) ∧
      (∀ x, m.readySpare k = some x → (m.laser k).role = 0 → ((m.setSwitch k).laser k).role = 2 ∧
        ((m.setSwitch k).laser x).role = 2 ∧ ((m.setSwitch k).laser x).partner = m.laserHome k) ∧
      (m.tick.running = true → k < 20 → m.inService k = true ∨ (m.laser k).role = 1 →
        ∃ t, exec (.laserFailover k) s = .next { s with cur := t } ∧ t.trowel = m.trowel ∧ t.engine = m.engine ∧
          (k < 16 ∨ (m.laser k).partner ≠ k → (t.laser k).role = 4) ∧
          ∀ x, m.inService k = true → k < 16 → (∀ p ∈ m.osc.lasers, p.2.role ≠ 2) → m.readySpare k = some x →
            (t.laser x).role = 0 ∧ (t.laser x).partner = m.laserHome k) ∧
      (m.running = true → m.dieLink 2 = true → m.variant.laser k = true → (m.laser k).role = 0 → m.readySpare k = none →
        Config.laserEolBias k ≤ m.biasMean k → ∃ t, exec (.laserEol k) s = .next { s with cur := t } ∧
          t = { m with osc := { m.osc with eol := true } } ∧ t.causes.getLsbD 15 = true) ∧
      (m.tick.running = true → m.dieLink 2 = true → m.variant.laser k = true → 24 ≤ k → m.inService k = true →
        ∃ t, exec (.probeLaserFailure k) s = .next { s with cur := t } ∧ (t.laser k).role = 4 ∧
          ∀ j, j ≠ k → t.laser j = m.laser j)) ∧ (
  ∀ (s : State) (p : Nat),
    let m := s.cur
    let h := m.shutter p
    (m.running = true → p < 512 → h.los = false → 20 ≤ h.lowRun → ∃ t, exec (.losEntry p) s = .next { s with cur := t } ∧
        (t.shutter p).los = true ∧ (t.neigh p).nstate = .none) ∧
      (m.running = true → p < 512 → h.los = true → 100 ≤ h.highRun → ∃ t, exec (.losExit p) s = .next { s with cur := t } ∧
        (t.shutter p).los = false ∧ (t.shutter p).pulse = none) ∧
      (p < 512 → h.opening = true → m.keepsOpen p = true → ∃ t, exec (.shutterOpened p) s = .next { s with cur := t } ∧
        (t.shutter p).isOpen = true ∧ (t.shutter p).emitting = true ∧ (t.shutter p).opening = false) ∧
      (m.dieLink 2 = true → p < 512 → m.mayEmit p = true → h.los = true → h.isOpen = false → h.opening = false → h.closedAt + 1000000 ≤ m.tick.now →
        ∃ t, exec (.probingPulse p) s = .next { s with cur := t } ∧ (t.shutter p).opening = true ∧
          (t.shutter p).pulse.isSome = true ∧ t.osc.pulses = m.osc.pulses + 1) ∧
      (∀ b, h.isOpen = true → h.pulse = some b → b + 200 ≤ m.tick.now →
        ∃ t, exec (.probingPulseEnd p) s = .next { s with cur := t } ∧ (t.shutter p).isOpen = false ∧
          (t.shutter p).emitting = false ∧ (t.shutter p).pulse = none ∧ (t.shutter p).closedAt = m.tick.now))

/-! ## The supervisory channel and time -/

/-- Supervisory rows (R363, R364, R367, R369, R376, R377), with the laser bank reached: a frame to an aligned receiver that does not
pass FCHK is counted and takes nothing from its payload; a valid one is the port's last; a neighbour is UP after 4 valid frames in a
row and lost after 16 ticks without one; after 1 s UP its pair is recorded; a blink window ends, after the Commit step, with the
ports found dark.
Time rows (R381, R384, R392, R394, R395): a follower takes the upstream that is due; 64 frames in a row within 100 ns lock fabric
time and 8 beyond 1 µs unlock it; PPS_IN is valid from the fourth edge in its time and lost after 1.001 s without one; PPS_OUT is
high for 10 ticks; at a boundary, the scheduled launch that goes next leaves the list. -/
def Obligations.NeighbourAndTimeRowsComplete : Prop :=
  (
  ∀ (s : State) (p : Nat) (f : OscFrame),
    let m := s.cur
    let n := m.neigh p
    (m.running = true → m.dieLink 2 = true → f.port < 512 → (m.neigh f.port).aligned = true → f.syncOk = true →
        OscFrame_ok f = false → ∃ t, exec (.oscFrameRx f) s = .next { s with cur := t } ∧ t.osc.failed = m.osc.failed + 1 ∧
          (t.neigh f.port).last = (m.neigh f.port).last ∧ (t.neigh f.port).goodRun = 0 ∧ t.time = m.time) ∧
      (m.running = true → m.dieLink 2 = true → f.port < 512 → (m.neigh f.port).aligned = true → f.syncOk = true →
        OscFrame_ok f = true → field f.payload 0 1 = 1 → ∃ t, exec (.oscFrameRx f) s = .next { s with cur := t } ∧
          (t.neigh f.port).last = f.payload ∧ (t.neigh f.port).sinceValid = 0 ∧ (t.neigh f.port).lastRx = f.pdRx ∧
          t.osc.failed = m.osc.failed) ∧
      (m.running = true → m.dieLink 2 = true → f.port < 512 → exec (.oscFrameRx f) s = .next { s with cur := oscRx f m }) ∧
      (m.running = true → p < 512 → m.nstateOf p = .darkOsc → n.nstate ≠ .up → n.sinceValid < 16 → 4 ≤ n.goodRun →
        ∃ t, exec (.neighbourUp p) s = .next { s with cur := t } ∧ (t.neigh p).nstate = .up ∧ (t.neigh p).last = n.last) ∧
      (m.running = true → n.nstate = .up → 16 ≤ n.sinceValid →
        ∃ t, exec (.neighbourLost p) s = .next { s with cur := t } ∧ (t.neigh p).nstate = .darkOsc ∧ (t.neigh p).delays = []) ∧
      (m.running = true → n.nstate = .up → 100000 ≤ n.sameRun → n.recorded ≠ some (identity n.last) →
        ∃ t, exec (.neighbourRecord p) s = .next { s with cur := t } ∧ (t.neigh p).recorded = some (identity n.last) ∧
          (n.changed = false → n.recorded ≠ none → (t.neigh p).prev = n.recorded)) ∧
      (∀ b, m.afterCommit = true → m.running = true → m.osc.blink = some b → b.start + b.ticks ≤ m.tick.count →
        exec .blinkClose s = .next { s with cur := (({ m with osc := { m.osc with blink := none } }).final b.waiter stOK
          (le 64 b.dark.toNat ++ le 8 (b.first.getD 0))) })) ∧ (
  ∀ (s : State) (p e : Nat),
    let m := s.cur
    let withTime (t : TimeSt) : State := { s with cur := { m with time := t } }
    (m.running = true → m.isRoot = false → m.upstreamDue = some (some p) → p ≠ 0x3FF →
        ∃ t, exec (.upstreamChange p) s = .next (withTime t) ∧ t.upstream = some p ∧ t.hops = field (m.neigh p).last 26 1 + 1) ∧
      (m.running = true → m.isRoot = false → m.upstreamDue = some none → m.time.fstate = 2 →
        ∃ t, exec (.upstreamChange 0x3FF) s = .next (withTime t) ∧ t.upstream = none ∧ t.fstate = 3) ∧
      (m.running = true → m.isRoot = false → m.time.fstate = 1 → 64 ≤ m.time.lockRun → exec .fabricTimeLock s =
        .next (withTime { m.time with fstate := 2, everLocked := true, stepNeeded := false, offRun := 0 })) ∧
      (m.running = true → m.isRoot = false → m.time.fstate = 2 → 8 ≤ m.time.offRun →
        ∃ t, exec .fabricTimeUnlock s = .next (withTime t) ∧ t.fstate = 1 ∧ t.fabric = m.time.fabric) ∧
      (m.tick.running = true → e < two64 → m.isRoot = false ∨ m.ppsIn = false → ∃ t, exec (.ppsInEdge e) s = .next (withTime t) ∧
        t.ppsEdges.head? = some e ∧ (t.ppsValid = true ↔ 4 ≤ t.ppsEdges.length) ∧ t.fabric = m.time.fabric) ∧
      (m.tick.running = true → e < two64 → exec (.ppsInEdge e) s = .next { s with cur := ppsEdge e m }) ∧
      (∀ l rest, m.tick.running = true → m.time.ppsValid = true → m.time.ppsEdges = l :: rest → ppsGap ≤ diff64 m.tickTime l →
        ∃ t, exec .ppsInLoss s = .next (withTime t) ∧ t.ppsValid = false ∧ t.ppsEdges = [] ∧
          (m.isRoot = true → m.ppsIn = true → m.time.fstate ≠ 0 → t.fstate = 3)) ∧
      (m.tick.running = true → m.time.cfg.getLsbD 2 = true → m.ppsDue.isSome = true →
        ∃ t, exec .ppsOutPulse s = .next (withTime t) ∧ t.ppsOut = some m.tick.now ∧ some t.ppsLast = m.ppsDue) ∧
      (∀ b, m.time.ppsOut = some b → b + 10 ≤ m.tick.now →
        exec .ppsOutEnd s = .next (withTime { m.time with ppsOut := none })) ∧
      (∀ l, m.inPhase .boundary = true → m.running = true → m.nextLaunch = some l → ∃ t, exec .scheduledLaunch s = .next { s with cur := t } ∧
        t = launchBody l m ∧ t.time.sched.length < m.time.sched.length))

/-! ## Power, firmware and records -/

/-- Firmware and key rows (R482, R486, R490, R492, R493, R510): the next attestation batch is made ready once 768 keys are used, and comes
into use when none is left; a staged image is written as it was received and the other slots stay; a healthy trial image is confirmed
by itself where SEC_CFG says so, raising the anti-rollback counter to its version, and its copy becomes golden; a trial that runs out,
or has had three resets of a leaf, falls back to golden; an unlock ends after an hour, alone.
Record rows (R25, R500, R501, R503 – R505): over an always-on link that is up, the oldest queued record becomes the newest of the log,
which keeps the last 65,536; a snapshot takes the values of the used slots under the next SEQ; a freeze ends by itself after a
minute. -/
def Obligations.FirmwareAndRecordRowsComplete : Prop :=
  (
  ∀ (s : State) (k : Nat),
    let m := s.cur
    (m.sup.rails = true → m.sec.batchReady = false →
        (m.sec.keysLeft = 0 → exec .attBatchPrepare s = .next { s with cur := { m with sec :=
          { m.sec with batch := m.sec.batch + 1, keysLeft := 1024 } } }) ∧
        (0 < m.sec.keysLeft → m.sec.keysLeft ≤ 256 → exec .attBatchPrepare s = .next { s with cur := { m with sec :=
          { m.sec with batchReady := true } } })) ∧
      (∀ b w, m.sec.writing = some (b, w) → ∃ t, exec .fwStageWriteDone s = .next { s with cur := t } ∧ t.sec.writing = none ∧
        t.sec.staged = b.slot ∧ t.sec.staged.image = b.header ++ b.data ∧ t.sec.primary = m.sec.primary ∧ t.sec.golden = m.sec.golden) ∧
      (m.sec.cfg.getLsbD 1 = true → m.onTrial = true → m.sec.health = true → m.running = true →
        ∃ t, exec .autoConfirm s = .next { s with cur := t } ∧ t.sec.counter = m.sec.primary.version ∧
          t.sec.primary = { m.sec.primary with sstate := 3 } ∧ t.sec.mode = 0 ∧ t.sec.confirming = some none) ∧
      (m.sec.confirming.isSome = true → m.sup.rails = true → exec .goldenCopyDone s = .next { s with cur := { m with sec :=
        { m.sec with confirming := none, golden := { m.sec.primary with sstate := 3 }, staged := .empty } } }) ∧
      (m.onTrial = true → m.leaves.active.isSome = true → 3 ≤ m.sec.trialResets ∨ (∃ b, m.sec.trialEnd = some b ∧ b ≤ m.tick.now) →
        ∃ t, exec .fwTrialExpiry s = .next { s with cur := t } ∧ t.sec.primary = { m.sec.golden with sstate := 3 } ∧
          t.sec.counter = m.sec.counter) ∧
      ((∃ p ∈ m.felso.unlocked, p.1 = k ∧ p.2 + 360000000 ≤ m.tick.now) →
        ∃ t, exec (.felsoRelock k) s = .next { s with cur := t } ∧ t.isUnlocked k = false ∧
          (∀ j, j ≠ k → t.isUnlocked j = m.isUnlocked j) ∧ ∀ c ∈ t.felso.halted, targetOfCore c ≠ k)) ∧ (
  ∀ (s : State) (r : CRec) (rest : List CRec),
    let m := s.cur
    (m.sup.vaux = true → m.die.up.getLsbD 0 = true ∨ m.die.up.getLsbD 1 = true → m.recs.queue = r :: rest →
        m.recs.log.length < 65536 → m.recs.dropped = 0 →
        ∃ t, exec .cornerstoneWrite s = .next { s with cur := t } ∧ t.recs.log = m.recs.log ++ [r] ∧ t.recs.queue = rest ∧
          t.recs.csSeq = m.recs.csSeq) ∧
      (m.sup.vaux = true → m.die.up.getLsbD 0 = true ∨ m.die.up.getLsbD 1 = true → m.recs.queue = r :: rest →
        m.recs.log.length = 65536 →
        ∃ t, exec .cornerstoneWrite s = .next { s with cur := t } ∧ t.recs.log = m.recs.log.drop 1 ++ [r] ∧
          t.recs.wrapped = true) ∧
      (m.tick.running = true → m.keyhole.due ≠ 0 → m.keyhole.ring.length < 4096 →
        exec .keyholeSnapshot s = .next { s with cur := { m with keyhole := { m.keyhole with
          ring := m.keyhole.ring ++ [{ seq := m.keyhole.seq, triggers := m.keyhole.due, values := s.slotValues }]
          seq := m.keyhole.seq + 1, due := 0 } } }) ∧
      (∀ b, m.tick.running = true → m.keyhole.frozen = some b → b + 6000000 ≤ m.tick.now →
        exec .keyholeAutoResume s = .next { s with cur := { m with keyhole := { m.keyhole with frozen := none } } }))

/-! ## Felso -/

/-- A Felso transaction whose CRC-8 is wrong is answered with STATUS 2, and one that needs a target not unlocked with STATUS 1 (R506,
R507); nothing else of the module changes but the port's own fields and the counter of free values.
The operations of Felso (R506, R509, R530), on an unlocked target: registers read and written as REG_READ and REG_WRITE would, the
selected core halted, resumed, stepped, with up to eight breakpoints, and its memory read and written. -/
def Obligations.FelsoTransactions : Prop :=
  (
  ∀ (i : Instr) (op : Nat) (x : FelsoTx) (s : State), felsoOf i = some (op, x) → s.cur.serving s.cur.felsoLeaf = true →
    (felsoCrc op x ≠ x.crc → exec i s = .next { s with cur := s.cur.felsoSays fCrc }) ∧
      (felsoCrc op x = x.crc → op ≠ 0x01 → op ≠ 0x10 →
        s.cur.isUnlocked (if op = 0x02 then 0 else if op = 0x11 then targetOfCore (x.addr.toNat % 256) else s.cur.coreTarget) =
          false →
        exec i s = .next { s with cur := (s.cur.felsoSays fLocked).felsoKept x }) ∧
      (felsoCrc op x = x.crc → op = 0x01 → s.cur.isUnlocked 0 = false → 0x18 < x.addr.toNat →
        exec i s = .next { s with cur := (s.cur.felsoSays fLocked).felsoKept x })) ∧ (
  ∀ (s : State) (x : FelsoTx), s.cur.serving s.cur.felsoLeaf = true →
    let m := s.cur
    let f := m.felso
    let a := x.addr.toNat
    let good (op : Nat) : Prop := felsoCrc op x = x.crc
    let ends (i : Instr) (t : Mod) : Prop := exec i s = .next { s with cur := t.felsoKept x }
    let withF (g : Felso) : Mod := { m with felso := g }
    (∀ v, good 0x01 → m.isUnlocked 0 = true ∨ a ≤ 0x18 → s.regValue m.felsoLeaf (m.selOf .felso) a = some v →
        exec (.felsoRegisterRead x) s = .next (onCur (fun m => (m.felsoAnswer fDone (s.readReg .felso m.felsoLeaf a).1).felsoKept x)
          (s.readReg .felso m.felsoLeaf a).2)) ∧
      (good 0x02 → m.isUnlocked 0 = true → legal 0xA1 (m.leaf m.felsoLeaf).state = .a →
        m.writeBad f.sel a x.data f.prevData = none →
        ends (.felsoRegisterWrite x)
          (((m.felsoJournal stOK x f.prevData).acceptWrite .felso a x.data f.prevData none).felsoSays fDone)) ∧
      (good 0x10 → ends (.felsoStatus x) (m.felsoAnswer fDone ((s.regValue m.felsoLeaf .init 0xE0004).getD 0))) ∧
      (good 0x11 → m.isUnlocked (targetOfCore (a % 256)) = true → m.variant.core (a % 256) = true →
        m.coreBarred (a % 256) = false → ends (.selectCore x) ((withF { f with core := a % 256 }).felsoSays fDone)) ∧
      (m.isUnlocked m.coreTarget = true →
        (good 0x20 → m.coreBarred f.core = false →
          ends (.felsoHalt x) ((withF { f with halted := insertNew f.core f.halted }).felsoSays fDone)) ∧
        (good 0x21 → ∃ t, ends (.felsoResume x) t ∧ f.core ∉ t.felso.halted ∧ t.felso.breaks = f.breaks) ∧
        (good 0x22 → f.core ∈ f.halted → 16 ≤ f.core →
          ends (.felsoStep x) ((withF { f with steps := amod 0 f.steps f.core (· + 1) }).felsoSays fDone)) ∧
        (good 0x23 → m.coreBarred f.core = false → x.addr ∉ m.breaksOf f.core → (m.breaksOf f.core).length < 8 →
          ends (.setBreakpoint x) ((withF { f with breaks := f.breaks ++ [(f.core, x.addr)] }).felsoSays fDone)) ∧
        (good 0x24 → m.coreBarred f.core = false → ∃ t, ends (.clearBreakpoint x) t ∧ x.addr ∉ t.breaksOf f.core ∧
          ∀ c, c ≠ f.core → t.breaksOf c = m.breaksOf c) ∧
        (good 0x30 → m.inSram a = true → ends (.memoryRead x)
          (m.felsoAnswer fDone (BitVec.ofNat 32 (unle (memBytes (m.course (f.core - 16)).sram a 4))))) ∧
        (good 0x31 → m.inSram a = true → ends (.memoryWrite x)
          ((m.setCourse (f.core - 16) fun k => { k with sram := memWrite k.sram a (le 4 x.data.toNat) }).felsoSays fDone)) ∧
        (good 0x31 → m.inSram a = false → ∃ t, ends (.memoryWrite x) t ∧
          (t.felso.coreMem.find? fun e => e.1 == (f.core, a)) = some ((f.core, a), x.data))))

/-! ## Mortar -/

/-- Matrix and elementwise instructions (R242, R247 – R249, R252, R253): issued with a legal encoding and every tensor inside the
allocation, each leaves its result in DST, its course at the next instruction. A product goes by blocks of 32 along K, the partial
sum aligned to ACC_EXP by one rounding and each addition saturating; with CHK the checked rows are recomputed, from A itself or from
the shadow tensor, and mismatches are counted; an elementwise value takes one rounding in DST's format, saturating. -/
def Obligations.MatrixAndVectorInstructionsComplete : Prop :=
  ∀ (s : State) (c : Nat) (w : MWord),
    let m := s.cur
    let t (n : BitVec 8) : Desc := m.tensor c n w.fmt.toNat
    let a := t w.srcA
    let b := t w.srcB
    let d4 := m.tensor c w.dst 4
    let d := t w.dst
    let st := m.start c
    let mem := (m.course c).sram
    let ends (cls op : Nat) (i : Instr) (srcs dsts : List Desc) (r : Mod) : Prop :=
      m.executes cls op c w = true → m.tensorStop c srcs dsts = none → exec i s = .next (s.after cls c r)
    let sh : Desc := { m.desc c (w.imm.setWidth 8) with fmt := 0 }
    let bad (k : Desc → Made) : Nat :=
      ((checkedRows (m.course c).count0 d4).filter (rowBad (bits m.mortar.guardCfg.toNat 3 0) (k a).mem (k sh).mem d4)).length
    let goesOn (n : Nat) : Prop := n = 0 ∨ ∀ p, m.jobOf c = some p → p.2.stopsOnGuard = false
    let product0 (op : Nat) (i : Instr) (rest : List Desc) (k : Desc → Made) : Prop :=
      (w.chk = false → ends 0 op i (a :: rest) [d4] (m.made c (k a))) ∧
        (w.chk = true → (m.course c).shadowChk = false →
          ends 0 op i (a :: rest) [d4] ((m.made c (k a)).courseErrors c 0 0)) ∧
        (w.chk = true → (m.course c).shadowChk = true → goesOn (bad k) →
          ends 0 op i (a :: (rest ++ [sh])) [d4] ((m.made c (k a)).mismatched c (bad k)))
    let each1 (op : Nat) (i : Instr) (srcs : List Desc) (f : Nat → Rat) : Prop :=
      ends 1 op i srcs [d] (m.made c (st.fill d f))
    let va := valNth mem a
    let vb := valNth mem b
    let vd := valNth mem d
    let raw (op : Nat) (i : Instr) (f : Nat → Nat → Nat) : Prop :=
      ends 1 op i [a, b] [d] (m.made c { st with mem := (List.range d.count).foldl (fun x n =>
        putRaw x d n (f (rawNth mem a n) (rawNth mem b n))) mem })
    let block : Nat := 32 * 2 ^ w.mod.toNat
    let table (t n : Nat) (k : Made) : Made :=
      let v := Config.microcodeTable t d.fmt (rawNth mem a n)
      if d.fmt = 3 then k.kf d n ((v : Rat) * pow2 (-39)) else k.i32 d n v
    (product0 0 (.mma c w) [b] (fun x => product st d4 a.cols w.acc (valAt mem x) (valAt mem b) everyK everyRow) ∧
      product0 1 (.mmat c w) [b]
        (fun x => product st d4 a.rows w.acc (fun r j => valAt mem x j r) (valAt mem b) everyK everyRow) ∧
      product0 3 (.mmas c w) [] (fun x => product st d4 a.cols w.acc (valAt mem x) (m.course c).weight everyK everyRow) ∧
      product0 4 (.mmad c w) [b] (fun x => product st d4 a.cols w.acc
        (fun r j => if r / block = j / block then valAt mem x r j else 0) (valAt mem b) (fun q j => q / block == j / block) everyRow) ∧
      product0 5 (.mmax c w) [b] (fun x => product st d4 a.cols w.acc (valAt mem x) (valAt mem b) everyK (rowMask c w m)) ∧
      product0 6 (.outer c w) [b]
        (fun x => product st d4 1 true (fun r _ => valNth mem x r) (fun n _ => valNth mem b n) everyK everyRow) ∧
      product0 7 (.conv1 c w) [b] (fun x => (List.range d4.count).foldl (fun k e =>
        let q := dot (fun j => valAt mem x (e / d4.cols) (e % d4.cols + j)) (fun j => valAt mem b (e / d4.cols % b.rows) j)
          (w.mod.toNat + 1) d4.accExp (fun _ => true) (if w.acc then intElem mem d4 e else 0)
        { k with mem := putRaw k.mem d4 e (wrapInt 4 q.1), sat := k.sat || q.2 }) st) ∧
      ends 0 2 (.mmaw c w) [b] [] (m.setCourse c fun k => { k with weights := some (b, k.sram) }) ∧
      ends 0 8 (.accz c w) [] [d4] (m.made c ((List.range d4.count).foldl (fun k n => k.i32 d4 n 0) st)) ∧
      (m.executes 0 9 c w = true → exec (.accset c w) s = .next (s.after 0 c (m.setCourse c fun k =>
        { k with descs := aput k.descs w.dst.toNat { m.desc c w.dst with accExp := signed 8 (w.imm.toNat % 256) } })))) ∧
    (each1 0 (.vadd c w) [a, b] (fun n => if w.acc then va n + vb n + vd n else va n + vb n) ∧
      each1 1 (.vsub c w) [a, b] (fun n => va n - vb n) ∧
      each1 2 (.vmul c w) [a, b] (fun n => va n * vb n) ∧
      each1 3 (.vfma c w) [a, b] (fun n => va n * vb n + vd n) ∧
      each1 4 (.vmax c w) [a, b] (fun n => if va n < vb n then vb n else va n) ∧
      each1 5 (.vmin c w) [a, b] (fun n => if vb n < va n then vb n else va n) ∧
      each1 6 (.vabs c w) [a] (fun n => if va n < 0 then -va n else va n) ∧
      each1 7 (.vneg c w) [a] (fun n => -va n) ∧
      each1 8 (.vclamp c w) [a] (fun n => clampVal (boundVal d (m.reg c (w.mod.toNat % 32)))
        (boundVal d (m.reg c (w.mod.toNat % 32 + 1))) (va n)) ∧
      each1 14 (.vsel c w) [a, b, t (w.imm.setWidth 8)] (fun n =>
        if n < (t (w.imm.setWidth 8)).count ∧ rawElem mem (t (w.imm.setWidth 8)) n = maskOne w.fmt.toNat then va n else vb n) ∧
      ends 1 13 (.vcmp c w) [a, b] [d] (m.made c { st with mem := (List.range d.count).foldl (fun x n =>
        putRaw x d n (if compares w.mod.toNat (va n) (vb n) then maskOne w.fmt.toNat else 0)) mem }) ∧
      raw 15 (.vand c w) (· &&& ·) ∧ raw 16 (.vor c w) (· ||| ·) ∧ raw 17 (.vxor c w) (· ^^^ ·) ∧
      ends 1 18 (.vshl c w) [m.tensor c w.srcA 4] [d4] (m.made c ((List.range d4.count).foldl (fun k n =>
        k.i32 d4 n (intNth mem (m.tensor c w.srcA 4) n * 2 ^ w.mod.toNat)) st)) ∧
      ends 1 19 (.vshr c w) [m.tensor c w.srcA 4] [d4] (m.made c ((List.range d4.count).foldl (fun k n =>
        k.i32 d4 n (intNth mem (m.tensor c w.srcA 4) n / 2 ^ w.mod.toNat)) st)) ∧
      ∀ t op k, (t, op, k) ∈ [(0, 9, Instr.vrcp c w), (1, 10, .vrsq c w), (2, 11, .vexp2 c w), (3, 12, .vlog2 c w)] →
        ends 1 op k [a] [d] (m.made c ((List.range d.count).foldl (fun x n => table t n x) st)))

/-- Format, reduction and exchange instructions (R238 – R241, R245, R249, R256): a conversion takes every element of SRCA to DST's
format by one rounding, random where RND asks for it under OPEN; a reduction goes in index order; an exchange goes on once every
course of the client has come, and until then its course waits. -/
def Obligations.FormatAndReductionInstructionsComplete : Prop :=
  ∀ (s : State) (c : Nat) (w : MWord),
    let m := s.cur
    let mem := (m.course c).sram
    let st := m.start c
    let a := m.tensor c w.srcA w.fmt.toNat
    let converts (op : Nat) (i : Instr) (src dst : Nat) : Prop :=
      m.executes 2 op c w = true → m.tensorStop c [m.tensor c w.srcA src] [m.tensor c w.dst dst] = none →
        exec i s = .next (s.after 2 c ((m.made c (st.values (m.tensor c w.dst dst) (m.ups w)
          ((List.range (m.tensor c w.dst dst).count).map (valNth mem (m.tensor c w.srcA src))))).useFree
            (if w.rnd = 1 then (m.tensor c w.dst dst).count else 0)))
    let reduces (op : Nat) (i : Instr) (f : Memory → Desc → Desc → Nat → Rat × Bool) : Prop :=
      m.executes 3 op c w = true → m.tensorStop c (if w.acc then [a, m.desc c w.dst] else [a]) [m.desc c w.dst] = none →
        exec i s = .next (s.after 3 c (m.made c (st.pairs (m.desc c w.dst) (f mem a (m.desc c w.dst)))))
    let own := (m.desc c w.srcA).fmt
    (converts 0 (.qnt c w) own w.fmt.toNat ∧ converts 1 (.reqnt c w) own w.fmt.toNat ∧
      converts 3 (.dqnt c w) own w.fmt.toNat ∧ converts 4 (.cvtfi c w) 3 4 ∧ converts 5 (.cvtif c w) 4 3 ∧
      (m.executes 2 2 c w = true → w.imm.toNat % 256 ≠ 255 →
        m.tensorStop c [m.desc c w.srcA] [m.tensor c w.dst w.fmt.toNat] = none →
        ∃ r, exec (.expal c w) s = .next (s.after 2 c r) ∧ r.engine = m.engine) ∧
      (m.executes 2 6 c w = true → m.tensorStop c [m.kbTensor c w.srcA] [m.tensor c w.dst 4] = none →
        exec (.exprd c w) s = .next (s.after 2 c (m.made c ((List.range (m.tensor c w.dst 4).count).foldl (fun k n =>
          k.i32 (m.tensor c w.dst 4) n (if n < (m.kbTensor c w.srcA).blocks
            then ((memGet mem ((m.kbTensor c w.srcA).expAddr + n)).toNat : Int)
            else Config.mortarOpen 7 [((m.kbTensor c w.srcA).addr : Int), n])) st)))) ∧
      (m.executes 2 7 c w = true → m.tensorStop c [m.tensor c w.srcA 4] [m.kbTensor c w.dst] = none →
        ∃ r, exec (.expwr c w) s = .next (s.after 2 c r) ∧ r.engine = m.engine) ∧
      (m.executes 2 8 c w = true → m.tensorStop c [m.tensor c w.srcA 0] [m.tensor c w.dst (packFmt w)] = none →
        ∃ r, exec (.pack c w) s = .next (s.after 2 c r) ∧ r.engine = m.engine) ∧
      (m.executes 2 9 c w = true → m.tensorStop c [m.tensor c w.srcA (packFmt w)] [m.tensor c w.dst 0] = none →
        ∃ r, exec (.unpack c w) s = .next (s.after 2 c r) ∧ r.engine = m.engine)) ∧
    (reduces 0 (.rsumr c w) (rowSum w.acc) ∧ reduces 1 (.rsumc c w) (colSum w.acc) ∧
      reduces 2 (.rmaxr c w) (rowBest above) ∧ reduces 3 (.rminr c w) (rowBest below) ∧
      reduces 4 (.rargmax c w) (rowArg above) ∧ reduces 5 (.rargmin c w) (rowArg below) ∧
      reduces 6 (.pscan c w) prefixSum) ∧
    (let come : Mod := m.setCourse c fun x => { x with wait := .exchange (m.arrivals (m.team c)).length };
      let meets (op : Nat) (i : Instr) (srcs : List Desc) : Prop :=
        m.executes 3 op c w = true → m.tensorStop c srcs [m.desc c w.dst] = none →
          ((come.arrivals (m.team c)).length ≠ (m.team c).length → exec i s = .next (s.placed c come)) ∧
          ((come.arrivals (m.team c)).length = (m.team c).length → exec i s = .next (s.placed c (come.exchanged (m.team c))))
      meets 7 (.xred c w) [a] ∧ meets 8 (.xredo c w) [a] ∧
        meets 9 (.xbcast c w) (if (m.team c)[w.imm.toNat % 16]? = some c then [a] else []) ∧ meets 10 (.xgath c w) [a] ∧
        (m.executes 3 11 c w = true →
          let wait : Mod := m.setCourse c fun x => { x with wait := .barrier }
          ((∃ x ∈ m.team c, (wait.course x).wait ≠ .barrier) → exec (.xbar c w) s = .next (s.placed c wait)) ∧
          ((∀ x ∈ m.team c, (wait.course x).wait = .barrier) → exec (.xbar c w) s = .next (s.placed c
            ((m.team c).foldl (fun m x => (m.setCourse x fun y => { y with wait := .none }).passed 3 x) wait)))))

/-- Memory and DMA instructions (R277, R278, R279): inside the allocation each stores or loads what it names, in little-endian order; a
transfer is in flight until it is done, and a wait holds the course while one it names is; an index out of range, or an address
outside, ends the job with reason 3. -/
def Obligations.MemoryInstructionsComplete : Prop :=
  ∀ (s : State) (c : Nat) (w : MWord) (n : Nat) (j : Job), s.cur.jobOf c = some (n, j) →
    let m := s.cur
    let mem := (m.course c).sram
    let st := m.start c
    let d := m.desc c w.dst
    let a := m.desc c w.srcA
    let ends (op : Nat) (i : Instr) (r : Mod) : Prop := m.executes 4 op c w = true → exec i s = .next (s.after 4 c r)
    let store (f : Memory → Memory) : Mod := m.setCourse c fun k => { k with sram := f k.sram }
    let at' := 8 * w.imm.toNat
    let moves (op : Nat) (i : Instr) : Prop := m.tensorStop c [a] [d] = none →
      (a.fmt ≠ d.fmt ∨ a.count ≠ d.count → ends op i (m.made c (st.fill d (valNth mem a)))) ∧
      (a.fmt = d.fmt → a.count = d.count →
        let body := (List.range d.count).foldl (fun x k => putRaw x d k (rawElem mem a k)) mem
        ends op i (m.made c { st with mem := if isKb d.fmt then (List.range d.blocks).foldl (fun x k =>
          memPut x (d.expAddr + k) (memGet mem (a.expAddr + k))) body else body }))
    let flight (into : Bool) (desc : BitVec 8) (off : BitVec 64) (stride : Option (BitVec 64)) : Dma :=
      { tag := w.imm.setWidth 8, into := into, desc := desc.toNat, tensor := m.desc c desc, offset := off.toNat
        stride := stride.map BitVec.toNat }
    let fits (t : Dma) : Prop := t.tensor.inside j.sramLimit = true ∧ ∀ q ∈ dmaMap t, q.1 < j.region ∧ q.2 < j.sramLimit
    let starts (op : Nat) (i : Instr) (t : Dma) : Prop :=
      fits t → ends op i (m.setCourse c fun k => { k with dma := k.dma ++ [t] })
    let v := fillElem d (m.reg c w.srcA.toNat)
    let filled := (List.range d.count).foldl (fun x k => putRaw x d k v) mem
    let b := m.tensor c w.srcB 4
    let ix := (List.range b.count).map (intElem mem b)
    moves 0 (.ld c w) ∧ moves 1 (.st c w) ∧ moves 4 (.copy c w) ∧
      (at' + 8 ≤ m.sramLimit c → ends 2 (.lds c w) (m.setReg c w.dst (BitVec.ofNat 64 (unle (memBytes mem at' 8))))) ∧
      (at' + 8 ≤ m.sramLimit c → ends 3 (.sts c w) (store fun x => memWrite x at' (le 8 (m.reg c w.srcA.toNat).toNat))) ∧
      (m.sramLimit c < at' + 8 → m.executes 4 3 c w = true →
        exec (.sts c w) s = .next (s.placed c (m.endJob n 3 0))) ∧
      (m.tensorStop c [] [d] = none →
        ((isKb d.fmt = false ∨ v ≠ 0) → ends 5 (.fill c w) (m.made c { st with mem := filled })) ∧
        (isKb d.fmt = true → v = 0 → ends 5 (.fill c w) (m.made c { st with
          mem := (List.range d.blocks).foldl (fun x k => memPut x (d.expAddr + k) 0) filled
          exps := List.replicate d.blocks 0 }))) ∧
      starts 6 (.dmain c w) (flight true w.dst (m.reg c w.srcA.toNat) none) ∧
      starts 7 (.dmaout c w) (flight false w.srcA (m.reg c w.dst.toNat) none) ∧
      (w.mod.getLsbD 0 = true →
        starts 8 (.dma2d c w) (flight false w.srcA (m.reg c w.dst.toNat) (some (m.reg c w.srcB.toNat)))) ∧
      (w.mod.getLsbD 0 = false →
        starts 8 (.dma2d c w) (flight true w.dst (m.reg c w.srcA.toNat) (some (m.reg c w.srcB.toNat)))) ∧
      ends 9 (.dmawait c w) (m.setCourse c fun k =>
        if (k.dma.any fun t => t.tag == w.imm.setWidth 8) then { k with wait := .dma (w.imm.setWidth 8) } else k) ∧
      (m.tensorStop c [a, b] [d] = none →
        ((∀ v ∈ ix, 0 ≤ v ∧ v < a.count) → m.executes 4 10 c w = true →
          ∃ r, exec (.gather c w) s = .next (s.after 4 c r) ∧ r.engine = m.engine) ∧
        ((∃ v ∈ ix, v < 0 ∨ (a.count : Int) ≤ v) → m.executes 4 10 c w = true →
          exec (.gather c w) s = .next (s.placed c (m.endJob n 3 0)))) ∧
      (m.tensorStop c [a, b, d] [d] = none →
        ((∀ v ∈ ix, 0 ≤ v ∧ v < d.count) → m.executes 4 11 c w = true →
          ∃ r, exec (.scatter c w) s = .next (s.after 4 c r) ∧ r.engine = m.engine) ∧
        ((∀ v ∈ ix, 0 ≤ v ∧ v < d.count) → m.executes 4 12 c w = true →
          ∃ r, exec (.scatadd c w) s = .next (s.after 4 c r) ∧ r.engine = m.engine) ∧
        ((∃ v ∈ ix, v < 0 ∨ (d.count : Int) ≤ v) → m.executes 4 11 c w = true →
          exec (.scatter c w) s = .next (s.placed c (m.endJob n 3 0)))) ∧
      (let bs := snapBytes s.snap w.mod.toNat;
        (w.imm.getLsbD 15 = false → d.addr + bs.length ≤ j.sramLimit →
          ends 13 (.snap c w) (store fun x => memWrite x d.addr bs)) ∧
        (w.imm.getLsbD 15 = true → (m.reg c (w.imm.toNat % 32)).toNat + bs.length ≤ j.region →
          ends 13 (.snap c w) (m.setJob n fun j => { j with mem := memWrite j.mem (m.reg c (w.imm.toNat % 32)).toNat bs })))

/-- Control, guard and system instructions (R249, R280, R285): branches go where their offset says, a call pushes its return and a
return pops it, a loop runs its body its count of times; scalar arithmetic saturates to 64 bits; HALT and TRAP end the job with
reasons 0 and 2 and their code, and FFIN and FFOUT, which no job may hold, with reason 4. -/
def Obligations.ControlInstructionsComplete : Prop :=
  ∀ (s : State) (c : Nat) (w : MWord) (n : Nat) (j : Job), s.cur.jobOf c = some (n, j) →
    let m := s.cur
    let k := m.course c
    let ends (cls op : Nat) (i : Instr) (r : Mod) : Prop := m.executes cls op c w = true → exec i s = .next (s.after cls c r)
    let jumps (op : Nat) (i : Instr) (f : Course → Course) (pc : Nat) : Prop :=
      m.executes 5 op c w = true → exec i s = .next (s.placed c ((m.setCourse c f).setCourse c fun x => { x with pc := pc }))
    let tgt := m.target c w.imm
    let ra := (m.reg c w.srcA.toNat).toInt
    let rb := (m.reg c w.srcB.toNat).toInt
    let scalar (op : Nat) (i : Instr) (v : Int) : Prop := ends 5 op i (m.setReg c w.dst (sat64 v))
    let inside : Prop := 0 ≤ (k.pc : Int) + w.imm.toInt ∧ (k.pc : Int) + w.imm.toInt < j.codeWords
    (inside → (tgt : Int) = k.pc + w.imm.toInt) ∧
      jumps 0 (.br c w) id tgt ∧
      (compares w.mod.toNat (ra : Rat) 0 = true → jumps 1 (.brc c w) id tgt) ∧
      (compares w.mod.toNat (ra : Rat) 0 = false → jumps 1 (.brc c w) id (k.pc + 1)) ∧
      (k.calls.length < 16 → jumps 2 (.call c w) (fun x => { x with calls := (k.pc + 1) :: k.calls }) tgt) ∧
      (∀ r t, k.calls = r :: t → jumps 3 (.ret c w) (fun x => { x with calls := t }) r) ∧
      (ra < 1 → jumps 4 (.loop c w) id (tgt + 1)) ∧
      (1 ≤ ra → jumps 4 (.loop c w) (fun x => { x with loopStack := (k.pc + 1, tgt, ra.toNat) :: x.loopStack }) (k.pc + 1)) ∧
      (∀ b e q t, k.loopStack = (b, e, q) :: t →
        (1 < q → jumps 5 (.endl c w) (fun x => { x with loopStack := (b, e, q - 1) :: t }) b) ∧
        (q ≤ 1 → jumps 5 (.endl c w) (fun x => { x with loopStack := t }) (k.pc + 1))) ∧
      ends 5 6 (.setr c w) (m.setReg c w.dst (w.imm.signExtend 64)) ∧
      scalar 7 (.addr c w) (ra + rb) ∧ scalar 8 (.mulr c w) (ra * rb) ∧
      scalar 9 (.cmpr c w) (if compares w.mod.toNat (ra : Rat) (rb : Rat) then 1 else 0) ∧
      (m.executes 5 10 c w = true → ∃ x, exec (.tdesc c w) s = .next (s.after 5 c (m.setCourse c fun k =>
        { k with descs := aput k.descs w.dst.toNat x }))) ∧
      ends 5 11 (.waitd c w) (m.setCourse c fun k =>
        if (k.dma.any fun t => t.desc == w.srcA.toNat) then { k with wait := .desc w.srcA.toNat } else k) ∧
      ends 5 12 (.yield c w) m ∧ ends 6 8 (.instrNop c w) m ∧
      (m.executes 5 13 c w = true → exec (.halt c w) s = .next (s.placed c (m.endJob n 0 w.imm.toNat))) ∧
      (m.executes 6 7 c w = true → exec (.trap c w) s = .next (s.placed c (m.endJob n 2 w.imm.toNat))) ∧
      (m.issues 6 9 c w = true → exec (.ffin c w) s = .next (s.placed c (m.endJob n 4 0))) ∧
      (m.issues 6 10 c w = true → exec (.ffout c w) s = .next (s.placed c (m.endJob n 4 0))) ∧
      ends 6 0 (.gcfg c w) (m.setCourse c fun k => { k with shadowChk := w.mod.getLsbD 0 }) ∧
      ends 6 1 (.gstat c w) (m.setReg c w.dst (j.flags.setWidth 64)) ∧
      ends 6 2 (.flagclr c w) (m.setJob n fun j => { j with flags := j.flags &&& ~~~(w.imm.setWidth 3) }) ∧
      ends 6 3 (.tickrd c w) (m.setReg c w.dst (BitVec.ofNat 64 m.tick.count)) ∧
      (m.executes 6 4 c w = true → ∃ v, exec (.perf c w) s = .next (s.after 6 c ((m.useFree 1).setReg c w.dst v))) ∧
      (m.executes 6 5 c w = true → ∃ v, exec (.rng c w) s = .next (s.after 6 c ((m.useFree 8).setReg c w.dst v))) ∧
      (m.executes 6 6 c w = true → (m.reg c w.srcA.toNat).toNat + (m.reg c w.srcB.toNat).toNat ≤ j.region →
        c < m.mortar.courses.length → ∃ r, exec (.prop c w) s = .next (s.after 6 c r) ∧ r.reg c 1 = (propId n j.props).setWidth 64)

/-! ## Reset, and what every command keeps -/

/-- What reset leaves (R41, R131, R137, R228, R405, R461 and the reset values of the registers): both leaves in BOOT with the
power-on cause and no leaf active, no link up, no session, no plan and generation 0, no lease, no SET element as the model's
choice for a new module (assumption log 3), every window COLD, nothing waiting, and each register at its reset value. -/
def Obligations.ResetState : Prop :=
  let s := State.reset
  (∀ i : Side, (s.cur.leaf i).state = .boot ∧ (s.cur.leaf i).causeLast = 1 ∧ (s.cur.link i).state = 0 ∧
      (∀ r ∈ resetValues, s.regValue i .init r.1 = some r.2) ∧ ∀ a ∈ resetZeros, s.regValue i .init a = some 0) ∧
    s.cur.leaves.active = none ∧ s.cur.sessions = [] ∧ s.cur.held = [] ∧ s.cur.deferred = [] ∧ s.pending = [] ∧
    s.cur.engine = .init ∧ s.cur.fabric.set = [] ∧ (∀ k, (s.cur.sill k).lease = .none) ∧ (∀ w, s.cur.wstate w = .cold) ∧
    s.sessionLimit ∧ s.reported

/-- No row of the supplies, the resets, the reinits or the sills moves an element (R70): whatever the next state is, the elements
that are SET are those that were. -/
def Obligations.ElementsLatched : Prop :=
  ∀ (c : Instr) (s t : State), powerRow c = true → exec c s = .next t → t.cur.fabric.set = s.cur.fabric.set

/-- Between boundaries no command changes what the module reports of the last one (R35): only the tick boundary, a warm reset, a
launch and the reads that clear RC fields touch it, and only these and GUARD touch the mirror. -/
def Obligations.ReportsStayBetweenBoundaries : Prop :=
  ∀ (c : Instr) (s t : State), exec c s = .next t → atBoundaryRow c = false →
    t.snap = s.snap ∧ ((∀ ok, c ≠ .guard ok) → t.mirror = s.mirror)

/-- In every state that a step reaches from one where it holds, the state bytes that the module reports are those of its leaves
at the last boundary (R35, R41, R42), and so they have bits 6 to 4 clear. -/
def Obligations.ReportedStateKept : Prop :=
  ∀ s t : State, s.reported → step s = .next t →
    t.reported ∧ ∀ i : Side, (BitVec.ofNat 8 (t.snap.leaves.moduleByte.get i)) &&& 0x70 = 0

/-- No step opens a ninth session on a link (R148): the limit holds of the live module, of the last boundary and of the mirror
after every step from a state where it holds. -/
def Obligations.SessionLimitKept : Prop :=
  ∀ s t : State, s.sessionLimit → step s = .next t → t.sessionLimit
end

