-- ==== Sys2Proof/Laws/Memory.lean ====
section
/-! SUPPORT. The addressed memories: every write keeps the canonical form, a byte reads back as written, and every other byte reads
as before. -/

namespace Sys2Proof.Machine

/-- A lower bound may be lowered. -/
theorem wfFrom_mono (m : Memory) {lo hi : Nat} (h : lo ≤ hi) (w : wfFrom hi m = true) : wfFrom lo m = true := by
  cases m with
  | nil => rfl
  | cons p t =>
    simp only [wfFrom, Bool.and_eq_true, decide_eq_true_eq] at w ⊢
    exact ⟨⟨le_trans h w.1.1, w.1.2⟩, w.2⟩

/-- Below its lower bound a canonical memory reads 0. -/
theorem memGet_below (m : Memory) (lo k : Nat) (w : wfFrom lo m = true) (h : k < lo) : memGet m k = 0 := by
  induction m generalizing lo with
  | nil => rfl
  | cons p t ih =>
    simp only [wfFrom, Bool.and_eq_true, decide_eq_true_eq] at w
    rw [memGet, if_neg (by omega)]
    exact ih (p.1 + 1) w.2 (by omega)

/-- One write keeps the form. -/
theorem memPut_wfFrom (m : Memory) (lo k : Nat) (x : BitVec 8) (h : lo ≤ k) (w : wfFrom lo m = true) :
    wfFrom lo (memPut m k x) = true := by
  induction m generalizing lo with
  | nil =>
    unfold memPut
    split
    · rfl
    · next hx => simp only [wfFrom, Bool.and_eq_true, decide_eq_true_eq, bne_iff_ne, ne_eq]; exact ⟨⟨h, hx⟩, trivial⟩
  | cons p t ih =>
    obtain ⟨a, b⟩ := p
    simp only [wfFrom, Bool.and_eq_true, decide_eq_true_eq] at w
    obtain ⟨⟨h1, h2⟩, h3⟩ := w
    unfold memPut
    split
    · next hk =>
      split
      · simp only [wfFrom, Bool.and_eq_true, decide_eq_true_eq]; exact ⟨⟨h1, h2⟩, h3⟩
      · next hx =>
        simp only [wfFrom, Bool.and_eq_true, decide_eq_true_eq, bne_iff_ne, ne_eq] at h2 ⊢
        exact ⟨⟨h, hx⟩, ⟨by omega, h2⟩, h3⟩
    · split
      · subst k
        split
        · exact wfFrom_mono t (by omega) h3
        · next hx =>
          simp only [wfFrom, Bool.and_eq_true, decide_eq_true_eq, bne_iff_ne, ne_eq]
          exact ⟨⟨h, hx⟩, h3⟩
      · simp only [wfFrom, Bool.and_eq_true, decide_eq_true_eq]
        exact ⟨⟨h1, h2⟩, ih _ (by omega) h3⟩

theorem memPut_wf (m : Memory) (k : Nat) (x : BitVec 8) (w : Memory.wf m = true) : Memory.wf (memPut m k x) = true :=
  memPut_wfFrom m 0 k x (Nat.zero_le _) w

theorem memWrite_wf (m : Memory) (a : Nat) (bs : List (BitVec 8)) (w : Memory.wf m = true) :
    Memory.wf (memWrite m a bs) = true := by
  induction bs generalizing m a with
  | nil => exact w
  | cons b t ih => exact ih _ _ (memPut_wf m a b w)

/-- Writing an element of a tensor keeps the form. -/
theorem putRaw_wf (m : Memory) (d : Desc) (n v : Nat) (w : Memory.wf m = true) : Memory.wf (putRaw m d n v) = true := by
  unfold putRaw
  split <;> first | exact memPut_wf _ _ _ w | exact memWrite_wf _ _ _ w

/-- A byte reads back as written, and every other one as before. -/
theorem memGet_memPut (m : Memory) (lo k j : Nat) (x : BitVec 8) (w : wfFrom lo m = true) :
    memGet (memPut m k x) j = if j = k then x else memGet m j := by
  induction m generalizing lo with
  | nil =>
    unfold memPut
    split
    · next hx => split <;> simp_all [memGet]
    · simp only [memGet, eq_comm (a := k)]
  | cons p t ih =>
    obtain ⟨a, b⟩ := p
    simp only [wfFrom, Bool.and_eq_true, decide_eq_true_eq] at w
    obtain ⟨⟨h1, h2⟩, h3⟩ := w
    unfold memPut
    split
    · by_cases hx : x = 0
      · by_cases hj : j = k
        · subst hj
          rw [if_pos hx, if_pos rfl, memGet, if_neg (by omega), hx]
          exact memGet_below t (a + 1) j h3 (by omega)
        · rw [if_pos hx, if_neg hj]
      · rw [if_neg hx]
        by_cases hj : j = k
        · rw [memGet, if_pos hj.symm, if_pos hj]
        · rw [memGet, if_neg (Ne.symm hj), if_neg hj]
    · split
      · subst k
        by_cases hj : j = a
        · subst hj
          by_cases hx : x = 0
          · rw [if_pos hx, if_pos rfl, hx]
            exact memGet_below t (j + 1) j h3 (by omega)
          · rw [if_neg hx, memGet, if_pos rfl, if_pos rfl]
        · by_cases hx : x = 0
          · rw [if_pos hx, if_neg hj, memGet, if_neg (Ne.symm hj)]
          · rw [if_neg hx, memGet, if_neg (Ne.symm hj), if_neg hj, memGet, if_neg (Ne.symm hj)]
      · rw [memGet, memGet]
        by_cases hj : a = j
        · rw [if_pos hj, if_pos hj, if_neg (by omega)]
        · rw [if_neg hj, if_neg hj]
          exact ih (a + 1) h3

end Sys2Proof.Machine
end

