-- ==== Sys2Proof/Laws/State.lean ====
section
/-! SUPPORT. What each update of a part of the module leaves alone: one lemma per field per update, so that no proof unfolds a
record update; and what the updates do to the part itself. -/

namespace Sys2Proof.Machine

variable (m : Mod)

/-! ### setLeaf -/

@[simp] theorem setLeaf_variant (i : Side) (f : LeafSt → LeafSt) : (m.setLeaf i f).variant = m.variant := rfl
@[simp] theorem setLeaf_tick (i : Side) (f : LeafSt → LeafSt) : (m.setLeaf i f).tick = m.tick := rfl
@[simp] theorem setLeaf_aux (i : Side) (f : LeafSt → LeafSt) : (m.setLeaf i f).aux = m.aux := rfl
@[simp] theorem setLeaf_sup (i : Side) (f : LeafSt → LeafSt) : (m.setLeaf i f).sup = m.sup := rfl
@[simp] theorem setLeaf_sills (i : Side) (f : LeafSt → LeafSt) : (m.setLeaf i f).sills = m.sills := rfl
@[simp] theorem setLeaf_links (i : Side) (f : LeafSt → LeafSt) : (m.setLeaf i f).links = m.links := rfl
@[simp] theorem setLeaf_sessions (i : Side) (f : LeafSt → LeafSt) : (m.setLeaf i f).sessions = m.sessions := rfl
@[simp] theorem setLeaf_nextSid (i : Side) (f : LeafSt → LeafSt) : (m.setLeaf i f).nextSid = m.nextSid := rfl
@[simp] theorem setLeaf_held (i : Side) (f : LeafSt → LeafSt) : (m.setLeaf i f).held = m.held := rfl
@[simp] theorem setLeaf_deferred (i : Side) (f : LeafSt → LeafSt) : (m.setLeaf i f).deferred = m.deferred := rfl
@[simp] theorem setLeaf_engine (i : Side) (f : LeafSt → LeafSt) : (m.setLeaf i f).engine = m.engine := rfl
@[simp] theorem setLeaf_fabric (i : Side) (f : LeafSt → LeafSt) : (m.setLeaf i f).fabric = m.fabric := rfl
@[simp] theorem setLeaf_trowel (i : Side) (f : LeafSt → LeafSt) : (m.setLeaf i f).trowel = m.trowel := rfl
@[simp] theorem setLeaf_mortar (i : Side) (f : LeafSt → LeafSt) : (m.setLeaf i f).mortar = m.mortar := rfl
@[simp] theorem setLeaf_cal (i : Side) (f : LeafSt → LeafSt) : (m.setLeaf i f).cal = m.cal := rfl
@[simp] theorem setLeaf_osc (i : Side) (f : LeafSt → LeafSt) : (m.setLeaf i f).osc = m.osc := rfl
@[simp] theorem setLeaf_time (i : Side) (f : LeafSt → LeafSt) : (m.setLeaf i f).time = m.time := rfl
@[simp] theorem setLeaf_power (i : Side) (f : LeafSt → LeafSt) : (m.setLeaf i f).power = m.power := rfl
@[simp] theorem setLeaf_sec (i : Side) (f : LeafSt → LeafSt) : (m.setLeaf i f).sec = m.sec := rfl
@[simp] theorem setLeaf_recs (i : Side) (f : LeafSt → LeafSt) : (m.setLeaf i f).recs = m.recs := rfl
@[simp] theorem setLeaf_keyhole (i : Side) (f : LeafSt → LeafSt) : (m.setLeaf i f).keyhole = m.keyhole := rfl
@[simp] theorem setLeaf_felso (i : Side) (f : LeafSt → LeafSt) : (m.setLeaf i f).felso = m.felso := rfl
@[simp] theorem setLeaf_die (i : Side) (f : LeafSt → LeafSt) : (m.setLeaf i f).die = m.die := rfl
@[simp] theorem setLeaf_freeCtr (i : Side) (f : LeafSt → LeafSt) : (m.setLeaf i f).freeCtr = m.freeCtr := rfl

/-! ### setLink -/

@[simp] theorem setLink_variant (i : Side) (f : LinkSt → LinkSt) : (m.setLink i f).variant = m.variant := rfl
@[simp] theorem setLink_tick (i : Side) (f : LinkSt → LinkSt) : (m.setLink i f).tick = m.tick := rfl
@[simp] theorem setLink_aux (i : Side) (f : LinkSt → LinkSt) : (m.setLink i f).aux = m.aux := rfl
@[simp] theorem setLink_sup (i : Side) (f : LinkSt → LinkSt) : (m.setLink i f).sup = m.sup := rfl
@[simp] theorem setLink_leaves (i : Side) (f : LinkSt → LinkSt) : (m.setLink i f).leaves = m.leaves := rfl
@[simp] theorem setLink_sills (i : Side) (f : LinkSt → LinkSt) : (m.setLink i f).sills = m.sills := rfl
@[simp] theorem setLink_sessions (i : Side) (f : LinkSt → LinkSt) : (m.setLink i f).sessions = m.sessions := rfl
@[simp] theorem setLink_nextSid (i : Side) (f : LinkSt → LinkSt) : (m.setLink i f).nextSid = m.nextSid := rfl
@[simp] theorem setLink_held (i : Side) (f : LinkSt → LinkSt) : (m.setLink i f).held = m.held := rfl
@[simp] theorem setLink_deferred (i : Side) (f : LinkSt → LinkSt) : (m.setLink i f).deferred = m.deferred := rfl
@[simp] theorem setLink_engine (i : Side) (f : LinkSt → LinkSt) : (m.setLink i f).engine = m.engine := rfl
@[simp] theorem setLink_fabric (i : Side) (f : LinkSt → LinkSt) : (m.setLink i f).fabric = m.fabric := rfl
@[simp] theorem setLink_trowel (i : Side) (f : LinkSt → LinkSt) : (m.setLink i f).trowel = m.trowel := rfl
@[simp] theorem setLink_mortar (i : Side) (f : LinkSt → LinkSt) : (m.setLink i f).mortar = m.mortar := rfl
@[simp] theorem setLink_cal (i : Side) (f : LinkSt → LinkSt) : (m.setLink i f).cal = m.cal := rfl
@[simp] theorem setLink_osc (i : Side) (f : LinkSt → LinkSt) : (m.setLink i f).osc = m.osc := rfl
@[simp] theorem setLink_time (i : Side) (f : LinkSt → LinkSt) : (m.setLink i f).time = m.time := rfl
@[simp] theorem setLink_power (i : Side) (f : LinkSt → LinkSt) : (m.setLink i f).power = m.power := rfl
@[simp] theorem setLink_sec (i : Side) (f : LinkSt → LinkSt) : (m.setLink i f).sec = m.sec := rfl
@[simp] theorem setLink_recs (i : Side) (f : LinkSt → LinkSt) : (m.setLink i f).recs = m.recs := rfl
@[simp] theorem setLink_keyhole (i : Side) (f : LinkSt → LinkSt) : (m.setLink i f).keyhole = m.keyhole := rfl
@[simp] theorem setLink_felso (i : Side) (f : LinkSt → LinkSt) : (m.setLink i f).felso = m.felso := rfl
@[simp] theorem setLink_die (i : Side) (f : LinkSt → LinkSt) : (m.setLink i f).die = m.die := rfl
@[simp] theorem setLink_freeCtr (i : Side) (f : LinkSt → LinkSt) : (m.setLink i f).freeCtr = m.freeCtr := rfl

/-! ### setSill -/

@[simp] theorem setSill_variant (k : Nat) (f : Sill → Sill) : (m.setSill k f).variant = m.variant := rfl
@[simp] theorem setSill_tick (k : Nat) (f : Sill → Sill) : (m.setSill k f).tick = m.tick := rfl
@[simp] theorem setSill_aux (k : Nat) (f : Sill → Sill) : (m.setSill k f).aux = m.aux := rfl
@[simp] theorem setSill_sup (k : Nat) (f : Sill → Sill) : (m.setSill k f).sup = m.sup := rfl
@[simp] theorem setSill_leaves (k : Nat) (f : Sill → Sill) : (m.setSill k f).leaves = m.leaves := rfl
@[simp] theorem setSill_links (k : Nat) (f : Sill → Sill) : (m.setSill k f).links = m.links := rfl
@[simp] theorem setSill_sessions (k : Nat) (f : Sill → Sill) : (m.setSill k f).sessions = m.sessions := rfl
@[simp] theorem setSill_nextSid (k : Nat) (f : Sill → Sill) : (m.setSill k f).nextSid = m.nextSid := rfl
@[simp] theorem setSill_held (k : Nat) (f : Sill → Sill) : (m.setSill k f).held = m.held := rfl
@[simp] theorem setSill_deferred (k : Nat) (f : Sill → Sill) : (m.setSill k f).deferred = m.deferred := rfl
@[simp] theorem setSill_engine (k : Nat) (f : Sill → Sill) : (m.setSill k f).engine = m.engine := rfl
@[simp] theorem setSill_fabric (k : Nat) (f : Sill → Sill) : (m.setSill k f).fabric = m.fabric := rfl
@[simp] theorem setSill_trowel (k : Nat) (f : Sill → Sill) : (m.setSill k f).trowel = m.trowel := rfl
@[simp] theorem setSill_mortar (k : Nat) (f : Sill → Sill) : (m.setSill k f).mortar = m.mortar := rfl
@[simp] theorem setSill_cal (k : Nat) (f : Sill → Sill) : (m.setSill k f).cal = m.cal := rfl
@[simp] theorem setSill_osc (k : Nat) (f : Sill → Sill) : (m.setSill k f).osc = m.osc := rfl
@[simp] theorem setSill_time (k : Nat) (f : Sill → Sill) : (m.setSill k f).time = m.time := rfl
@[simp] theorem setSill_power (k : Nat) (f : Sill → Sill) : (m.setSill k f).power = m.power := rfl
@[simp] theorem setSill_sec (k : Nat) (f : Sill → Sill) : (m.setSill k f).sec = m.sec := rfl
@[simp] theorem setSill_recs (k : Nat) (f : Sill → Sill) : (m.setSill k f).recs = m.recs := rfl
@[simp] theorem setSill_keyhole (k : Nat) (f : Sill → Sill) : (m.setSill k f).keyhole = m.keyhole := rfl
@[simp] theorem setSill_felso (k : Nat) (f : Sill → Sill) : (m.setSill k f).felso = m.felso := rfl
@[simp] theorem setSill_die (k : Nat) (f : Sill → Sill) : (m.setSill k f).die = m.die := rfl
@[simp] theorem setSill_freeCtr (k : Nat) (f : Sill → Sill) : (m.setSill k f).freeCtr = m.freeCtr := rfl

/-! ### setSession -/

@[simp] theorem setSession_variant (i : Side) (n : Word) (f : Session → Session) : (m.setSession i n f).variant = m.variant := rfl
@[simp] theorem setSession_tick (i : Side) (n : Word) (f : Session → Session) : (m.setSession i n f).tick = m.tick := rfl
@[simp] theorem setSession_aux (i : Side) (n : Word) (f : Session → Session) : (m.setSession i n f).aux = m.aux := rfl
@[simp] theorem setSession_sup (i : Side) (n : Word) (f : Session → Session) : (m.setSession i n f).sup = m.sup := rfl
@[simp] theorem setSession_leaves (i : Side) (n : Word) (f : Session → Session) : (m.setSession i n f).leaves = m.leaves := rfl
@[simp] theorem setSession_sills (i : Side) (n : Word) (f : Session → Session) : (m.setSession i n f).sills = m.sills := rfl
@[simp] theorem setSession_links (i : Side) (n : Word) (f : Session → Session) : (m.setSession i n f).links = m.links := rfl
@[simp] theorem setSession_nextSid (i : Side) (n : Word) (f : Session → Session) : (m.setSession i n f).nextSid = m.nextSid := rfl
@[simp] theorem setSession_held (i : Side) (n : Word) (f : Session → Session) : (m.setSession i n f).held = m.held := rfl
@[simp] theorem setSession_deferred (i : Side) (n : Word) (f : Session → Session) : (m.setSession i n f).deferred = m.deferred := rfl
@[simp] theorem setSession_engine (i : Side) (n : Word) (f : Session → Session) : (m.setSession i n f).engine = m.engine := rfl
@[simp] theorem setSession_fabric (i : Side) (n : Word) (f : Session → Session) : (m.setSession i n f).fabric = m.fabric := rfl
@[simp] theorem setSession_trowel (i : Side) (n : Word) (f : Session → Session) : (m.setSession i n f).trowel = m.trowel := rfl
@[simp] theorem setSession_mortar (i : Side) (n : Word) (f : Session → Session) : (m.setSession i n f).mortar = m.mortar := rfl
@[simp] theorem setSession_cal (i : Side) (n : Word) (f : Session → Session) : (m.setSession i n f).cal = m.cal := rfl
@[simp] theorem setSession_osc (i : Side) (n : Word) (f : Session → Session) : (m.setSession i n f).osc = m.osc := rfl
@[simp] theorem setSession_time (i : Side) (n : Word) (f : Session → Session) : (m.setSession i n f).time = m.time := rfl
@[simp] theorem setSession_power (i : Side) (n : Word) (f : Session → Session) : (m.setSession i n f).power = m.power := rfl
@[simp] theorem setSession_sec (i : Side) (n : Word) (f : Session → Session) : (m.setSession i n f).sec = m.sec := rfl
@[simp] theorem setSession_recs (i : Side) (n : Word) (f : Session → Session) : (m.setSession i n f).recs = m.recs := rfl
@[simp] theorem setSession_keyhole (i : Side) (n : Word) (f : Session → Session) : (m.setSession i n f).keyhole = m.keyhole := rfl
@[simp] theorem setSession_felso (i : Side) (n : Word) (f : Session → Session) : (m.setSession i n f).felso = m.felso := rfl
@[simp] theorem setSession_die (i : Side) (n : Word) (f : Session → Session) : (m.setSession i n f).die = m.die := rfl
@[simp] theorem setSession_freeCtr (i : Side) (n : Word) (f : Session → Session) : (m.setSession i n f).freeCtr = m.freeCtr := rfl

/-! ### setLoop -/

@[simp] theorem setLoop_variant (k : Nat) (f : Loop → Loop) : (m.setLoop k f).variant = m.variant := rfl
@[simp] theorem setLoop_tick (k : Nat) (f : Loop → Loop) : (m.setLoop k f).tick = m.tick := rfl
@[simp] theorem setLoop_aux (k : Nat) (f : Loop → Loop) : (m.setLoop k f).aux = m.aux := rfl
@[simp] theorem setLoop_sup (k : Nat) (f : Loop → Loop) : (m.setLoop k f).sup = m.sup := rfl
@[simp] theorem setLoop_leaves (k : Nat) (f : Loop → Loop) : (m.setLoop k f).leaves = m.leaves := rfl
@[simp] theorem setLoop_sills (k : Nat) (f : Loop → Loop) : (m.setLoop k f).sills = m.sills := rfl
@[simp] theorem setLoop_links (k : Nat) (f : Loop → Loop) : (m.setLoop k f).links = m.links := rfl
@[simp] theorem setLoop_sessions (k : Nat) (f : Loop → Loop) : (m.setLoop k f).sessions = m.sessions := rfl
@[simp] theorem setLoop_nextSid (k : Nat) (f : Loop → Loop) : (m.setLoop k f).nextSid = m.nextSid := rfl
@[simp] theorem setLoop_held (k : Nat) (f : Loop → Loop) : (m.setLoop k f).held = m.held := rfl
@[simp] theorem setLoop_deferred (k : Nat) (f : Loop → Loop) : (m.setLoop k f).deferred = m.deferred := rfl
@[simp] theorem setLoop_engine (k : Nat) (f : Loop → Loop) : (m.setLoop k f).engine = m.engine := rfl
@[simp] theorem setLoop_fabric (k : Nat) (f : Loop → Loop) : (m.setLoop k f).fabric = m.fabric := rfl
@[simp] theorem setLoop_mortar (k : Nat) (f : Loop → Loop) : (m.setLoop k f).mortar = m.mortar := rfl
@[simp] theorem setLoop_cal (k : Nat) (f : Loop → Loop) : (m.setLoop k f).cal = m.cal := rfl
@[simp] theorem setLoop_osc (k : Nat) (f : Loop → Loop) : (m.setLoop k f).osc = m.osc := rfl
@[simp] theorem setLoop_time (k : Nat) (f : Loop → Loop) : (m.setLoop k f).time = m.time := rfl
@[simp] theorem setLoop_power (k : Nat) (f : Loop → Loop) : (m.setLoop k f).power = m.power := rfl
@[simp] theorem setLoop_sec (k : Nat) (f : Loop → Loop) : (m.setLoop k f).sec = m.sec := rfl
@[simp] theorem setLoop_recs (k : Nat) (f : Loop → Loop) : (m.setLoop k f).recs = m.recs := rfl
@[simp] theorem setLoop_keyhole (k : Nat) (f : Loop → Loop) : (m.setLoop k f).keyhole = m.keyhole := rfl
@[simp] theorem setLoop_felso (k : Nat) (f : Loop → Loop) : (m.setLoop k f).felso = m.felso := rfl
@[simp] theorem setLoop_die (k : Nat) (f : Loop → Loop) : (m.setLoop k f).die = m.die := rfl
@[simp] theorem setLoop_freeCtr (k : Nat) (f : Loop → Loop) : (m.setLoop k f).freeCtr = m.freeCtr := rfl

/-! ### setCourse -/

@[simp] theorem setCourse_variant (k : Nat) (f : Course → Course) : (m.setCourse k f).variant = m.variant := rfl
@[simp] theorem setCourse_tick (k : Nat) (f : Course → Course) : (m.setCourse k f).tick = m.tick := rfl
@[simp] theorem setCourse_aux (k : Nat) (f : Course → Course) : (m.setCourse k f).aux = m.aux := rfl
@[simp] theorem setCourse_sup (k : Nat) (f : Course → Course) : (m.setCourse k f).sup = m.sup := rfl
@[simp] theorem setCourse_leaves (k : Nat) (f : Course → Course) : (m.setCourse k f).leaves = m.leaves := rfl
@[simp] theorem setCourse_sills (k : Nat) (f : Course → Course) : (m.setCourse k f).sills = m.sills := rfl
@[simp] theorem setCourse_links (k : Nat) (f : Course → Course) : (m.setCourse k f).links = m.links := rfl
@[simp] theorem setCourse_sessions (k : Nat) (f : Course → Course) : (m.setCourse k f).sessions = m.sessions := rfl
@[simp] theorem setCourse_nextSid (k : Nat) (f : Course → Course) : (m.setCourse k f).nextSid = m.nextSid := rfl
@[simp] theorem setCourse_held (k : Nat) (f : Course → Course) : (m.setCourse k f).held = m.held := rfl
@[simp] theorem setCourse_deferred (k : Nat) (f : Course → Course) : (m.setCourse k f).deferred = m.deferred := rfl
@[simp] theorem setCourse_engine (k : Nat) (f : Course → Course) : (m.setCourse k f).engine = m.engine := rfl
@[simp] theorem setCourse_fabric (k : Nat) (f : Course → Course) : (m.setCourse k f).fabric = m.fabric := rfl
@[simp] theorem setCourse_trowel (k : Nat) (f : Course → Course) : (m.setCourse k f).trowel = m.trowel := rfl
@[simp] theorem setCourse_cal (k : Nat) (f : Course → Course) : (m.setCourse k f).cal = m.cal := rfl
@[simp] theorem setCourse_osc (k : Nat) (f : Course → Course) : (m.setCourse k f).osc = m.osc := rfl
@[simp] theorem setCourse_time (k : Nat) (f : Course → Course) : (m.setCourse k f).time = m.time := rfl
@[simp] theorem setCourse_power (k : Nat) (f : Course → Course) : (m.setCourse k f).power = m.power := rfl
@[simp] theorem setCourse_sec (k : Nat) (f : Course → Course) : (m.setCourse k f).sec = m.sec := rfl
@[simp] theorem setCourse_recs (k : Nat) (f : Course → Course) : (m.setCourse k f).recs = m.recs := rfl
@[simp] theorem setCourse_keyhole (k : Nat) (f : Course → Course) : (m.setCourse k f).keyhole = m.keyhole := rfl
@[simp] theorem setCourse_felso (k : Nat) (f : Course → Course) : (m.setCourse k f).felso = m.felso := rfl
@[simp] theorem setCourse_die (k : Nat) (f : Course → Course) : (m.setCourse k f).die = m.die := rfl
@[simp] theorem setCourse_freeCtr (k : Nat) (f : Course → Course) : (m.setCourse k f).freeCtr = m.freeCtr := rfl

/-! ### setJob -/

@[simp] theorem setJob_variant (k : Nat) (f : Job → Job) : (m.setJob k f).variant = m.variant := rfl
@[simp] theorem setJob_tick (k : Nat) (f : Job → Job) : (m.setJob k f).tick = m.tick := rfl
@[simp] theorem setJob_aux (k : Nat) (f : Job → Job) : (m.setJob k f).aux = m.aux := rfl
@[simp] theorem setJob_sup (k : Nat) (f : Job → Job) : (m.setJob k f).sup = m.sup := rfl
@[simp] theorem setJob_leaves (k : Nat) (f : Job → Job) : (m.setJob k f).leaves = m.leaves := rfl
@[simp] theorem setJob_sills (k : Nat) (f : Job → Job) : (m.setJob k f).sills = m.sills := rfl
@[simp] theorem setJob_links (k : Nat) (f : Job → Job) : (m.setJob k f).links = m.links := rfl
@[simp] theorem setJob_sessions (k : Nat) (f : Job → Job) : (m.setJob k f).sessions = m.sessions := rfl
@[simp] theorem setJob_nextSid (k : Nat) (f : Job → Job) : (m.setJob k f).nextSid = m.nextSid := rfl
@[simp] theorem setJob_held (k : Nat) (f : Job → Job) : (m.setJob k f).held = m.held := rfl
@[simp] theorem setJob_deferred (k : Nat) (f : Job → Job) : (m.setJob k f).deferred = m.deferred := rfl
@[simp] theorem setJob_engine (k : Nat) (f : Job → Job) : (m.setJob k f).engine = m.engine := rfl
@[simp] theorem setJob_fabric (k : Nat) (f : Job → Job) : (m.setJob k f).fabric = m.fabric := rfl
@[simp] theorem setJob_trowel (k : Nat) (f : Job → Job) : (m.setJob k f).trowel = m.trowel := rfl
@[simp] theorem setJob_cal (k : Nat) (f : Job → Job) : (m.setJob k f).cal = m.cal := rfl
@[simp] theorem setJob_osc (k : Nat) (f : Job → Job) : (m.setJob k f).osc = m.osc := rfl
@[simp] theorem setJob_time (k : Nat) (f : Job → Job) : (m.setJob k f).time = m.time := rfl
@[simp] theorem setJob_power (k : Nat) (f : Job → Job) : (m.setJob k f).power = m.power := rfl
@[simp] theorem setJob_sec (k : Nat) (f : Job → Job) : (m.setJob k f).sec = m.sec := rfl
@[simp] theorem setJob_recs (k : Nat) (f : Job → Job) : (m.setJob k f).recs = m.recs := rfl
@[simp] theorem setJob_keyhole (k : Nat) (f : Job → Job) : (m.setJob k f).keyhole = m.keyhole := rfl
@[simp] theorem setJob_felso (k : Nat) (f : Job → Job) : (m.setJob k f).felso = m.felso := rfl
@[simp] theorem setJob_die (k : Nat) (f : Job → Job) : (m.setJob k f).die = m.die := rfl
@[simp] theorem setJob_freeCtr (k : Nat) (f : Job → Job) : (m.setJob k f).freeCtr = m.freeCtr := rfl

/-! ### setShutter -/

@[simp] theorem setShutter_variant (k : Nat) (f : Shutter → Shutter) : (m.setShutter k f).variant = m.variant := rfl
@[simp] theorem setShutter_tick (k : Nat) (f : Shutter → Shutter) : (m.setShutter k f).tick = m.tick := rfl
@[simp] theorem setShutter_aux (k : Nat) (f : Shutter → Shutter) : (m.setShutter k f).aux = m.aux := rfl
@[simp] theorem setShutter_sup (k : Nat) (f : Shutter → Shutter) : (m.setShutter k f).sup = m.sup := rfl
@[simp] theorem setShutter_leaves (k : Nat) (f : Shutter → Shutter) : (m.setShutter k f).leaves = m.leaves := rfl
@[simp] theorem setShutter_sills (k : Nat) (f : Shutter → Shutter) : (m.setShutter k f).sills = m.sills := rfl
@[simp] theorem setShutter_links (k : Nat) (f : Shutter → Shutter) : (m.setShutter k f).links = m.links := rfl
@[simp] theorem setShutter_sessions (k : Nat) (f : Shutter → Shutter) : (m.setShutter k f).sessions = m.sessions := rfl
@[simp] theorem setShutter_nextSid (k : Nat) (f : Shutter → Shutter) : (m.setShutter k f).nextSid = m.nextSid := rfl
@[simp] theorem setShutter_held (k : Nat) (f : Shutter → Shutter) : (m.setShutter k f).held = m.held := rfl
@[simp] theorem setShutter_deferred (k : Nat) (f : Shutter → Shutter) : (m.setShutter k f).deferred = m.deferred := rfl
@[simp] theorem setShutter_engine (k : Nat) (f : Shutter → Shutter) : (m.setShutter k f).engine = m.engine := rfl
@[simp] theorem setShutter_fabric (k : Nat) (f : Shutter → Shutter) : (m.setShutter k f).fabric = m.fabric := rfl
@[simp] theorem setShutter_trowel (k : Nat) (f : Shutter → Shutter) : (m.setShutter k f).trowel = m.trowel := rfl
@[simp] theorem setShutter_mortar (k : Nat) (f : Shutter → Shutter) : (m.setShutter k f).mortar = m.mortar := rfl
@[simp] theorem setShutter_cal (k : Nat) (f : Shutter → Shutter) : (m.setShutter k f).cal = m.cal := rfl
@[simp] theorem setShutter_time (k : Nat) (f : Shutter → Shutter) : (m.setShutter k f).time = m.time := rfl
@[simp] theorem setShutter_power (k : Nat) (f : Shutter → Shutter) : (m.setShutter k f).power = m.power := rfl
@[simp] theorem setShutter_sec (k : Nat) (f : Shutter → Shutter) : (m.setShutter k f).sec = m.sec := rfl
@[simp] theorem setShutter_recs (k : Nat) (f : Shutter → Shutter) : (m.setShutter k f).recs = m.recs := rfl
@[simp] theorem setShutter_keyhole (k : Nat) (f : Shutter → Shutter) : (m.setShutter k f).keyhole = m.keyhole := rfl
@[simp] theorem setShutter_felso (k : Nat) (f : Shutter → Shutter) : (m.setShutter k f).felso = m.felso := rfl
@[simp] theorem setShutter_die (k : Nat) (f : Shutter → Shutter) : (m.setShutter k f).die = m.die := rfl
@[simp] theorem setShutter_freeCtr (k : Nat) (f : Shutter → Shutter) : (m.setShutter k f).freeCtr = m.freeCtr := rfl

/-! ### setNeigh -/

@[simp] theorem setNeigh_variant (k : Nat) (f : Neigh → Neigh) : (m.setNeigh k f).variant = m.variant := rfl
@[simp] theorem setNeigh_tick (k : Nat) (f : Neigh → Neigh) : (m.setNeigh k f).tick = m.tick := rfl
@[simp] theorem setNeigh_aux (k : Nat) (f : Neigh → Neigh) : (m.setNeigh k f).aux = m.aux := rfl
@[simp] theorem setNeigh_sup (k : Nat) (f : Neigh → Neigh) : (m.setNeigh k f).sup = m.sup := rfl
@[simp] theorem setNeigh_leaves (k : Nat) (f : Neigh → Neigh) : (m.setNeigh k f).leaves = m.leaves := rfl
@[simp] theorem setNeigh_sills (k : Nat) (f : Neigh → Neigh) : (m.setNeigh k f).sills = m.sills := rfl
@[simp] theorem setNeigh_links (k : Nat) (f : Neigh → Neigh) : (m.setNeigh k f).links = m.links := rfl
@[simp] theorem setNeigh_sessions (k : Nat) (f : Neigh → Neigh) : (m.setNeigh k f).sessions = m.sessions := rfl
@[simp] theorem setNeigh_nextSid (k : Nat) (f : Neigh → Neigh) : (m.setNeigh k f).nextSid = m.nextSid := rfl
@[simp] theorem setNeigh_held (k : Nat) (f : Neigh → Neigh) : (m.setNeigh k f).held = m.held := rfl
@[simp] theorem setNeigh_deferred (k : Nat) (f : Neigh → Neigh) : (m.setNeigh k f).deferred = m.deferred := rfl
@[simp] theorem setNeigh_engine (k : Nat) (f : Neigh → Neigh) : (m.setNeigh k f).engine = m.engine := rfl
@[simp] theorem setNeigh_fabric (k : Nat) (f : Neigh → Neigh) : (m.setNeigh k f).fabric = m.fabric := rfl
@[simp] theorem setNeigh_trowel (k : Nat) (f : Neigh → Neigh) : (m.setNeigh k f).trowel = m.trowel := rfl
@[simp] theorem setNeigh_mortar (k : Nat) (f : Neigh → Neigh) : (m.setNeigh k f).mortar = m.mortar := rfl
@[simp] theorem setNeigh_cal (k : Nat) (f : Neigh → Neigh) : (m.setNeigh k f).cal = m.cal := rfl
@[simp] theorem setNeigh_time (k : Nat) (f : Neigh → Neigh) : (m.setNeigh k f).time = m.time := rfl
@[simp] theorem setNeigh_power (k : Nat) (f : Neigh → Neigh) : (m.setNeigh k f).power = m.power := rfl
@[simp] theorem setNeigh_sec (k : Nat) (f : Neigh → Neigh) : (m.setNeigh k f).sec = m.sec := rfl
@[simp] theorem setNeigh_recs (k : Nat) (f : Neigh → Neigh) : (m.setNeigh k f).recs = m.recs := rfl
@[simp] theorem setNeigh_keyhole (k : Nat) (f : Neigh → Neigh) : (m.setNeigh k f).keyhole = m.keyhole := rfl
@[simp] theorem setNeigh_felso (k : Nat) (f : Neigh → Neigh) : (m.setNeigh k f).felso = m.felso := rfl
@[simp] theorem setNeigh_die (k : Nat) (f : Neigh → Neigh) : (m.setNeigh k f).die = m.die := rfl
@[simp] theorem setNeigh_freeCtr (k : Nat) (f : Neigh → Neigh) : (m.setNeigh k f).freeCtr = m.freeCtr := rfl

/-! ### setLaser -/

@[simp] theorem setLaser_variant (k : Nat) (f : Laser → Laser) : (m.setLaser k f).variant = m.variant := rfl
@[simp] theorem setLaser_tick (k : Nat) (f : Laser → Laser) : (m.setLaser k f).tick = m.tick := rfl
@[simp] theorem setLaser_aux (k : Nat) (f : Laser → Laser) : (m.setLaser k f).aux = m.aux := rfl
@[simp] theorem setLaser_sup (k : Nat) (f : Laser → Laser) : (m.setLaser k f).sup = m.sup := rfl
@[simp] theorem setLaser_leaves (k : Nat) (f : Laser → Laser) : (m.setLaser k f).leaves = m.leaves := rfl
@[simp] theorem setLaser_sills (k : Nat) (f : Laser → Laser) : (m.setLaser k f).sills = m.sills := rfl
@[simp] theorem setLaser_links (k : Nat) (f : Laser → Laser) : (m.setLaser k f).links = m.links := rfl
@[simp] theorem setLaser_sessions (k : Nat) (f : Laser → Laser) : (m.setLaser k f).sessions = m.sessions := rfl
@[simp] theorem setLaser_nextSid (k : Nat) (f : Laser → Laser) : (m.setLaser k f).nextSid = m.nextSid := rfl
@[simp] theorem setLaser_held (k : Nat) (f : Laser → Laser) : (m.setLaser k f).held = m.held := rfl
@[simp] theorem setLaser_deferred (k : Nat) (f : Laser → Laser) : (m.setLaser k f).deferred = m.deferred := rfl
@[simp] theorem setLaser_engine (k : Nat) (f : Laser → Laser) : (m.setLaser k f).engine = m.engine := rfl
@[simp] theorem setLaser_fabric (k : Nat) (f : Laser → Laser) : (m.setLaser k f).fabric = m.fabric := rfl
@[simp] theorem setLaser_trowel (k : Nat) (f : Laser → Laser) : (m.setLaser k f).trowel = m.trowel := rfl
@[simp] theorem setLaser_mortar (k : Nat) (f : Laser → Laser) : (m.setLaser k f).mortar = m.mortar := rfl
@[simp] theorem setLaser_cal (k : Nat) (f : Laser → Laser) : (m.setLaser k f).cal = m.cal := rfl
@[simp] theorem setLaser_time (k : Nat) (f : Laser → Laser) : (m.setLaser k f).time = m.time := rfl
@[simp] theorem setLaser_power (k : Nat) (f : Laser → Laser) : (m.setLaser k f).power = m.power := rfl
@[simp] theorem setLaser_sec (k : Nat) (f : Laser → Laser) : (m.setLaser k f).sec = m.sec := rfl
@[simp] theorem setLaser_recs (k : Nat) (f : Laser → Laser) : (m.setLaser k f).recs = m.recs := rfl
@[simp] theorem setLaser_keyhole (k : Nat) (f : Laser → Laser) : (m.setLaser k f).keyhole = m.keyhole := rfl
@[simp] theorem setLaser_felso (k : Nat) (f : Laser → Laser) : (m.setLaser k f).felso = m.felso := rfl
@[simp] theorem setLaser_die (k : Nat) (f : Laser → Laser) : (m.setLaser k f).die = m.die := rfl
@[simp] theorem setLaser_freeCtr (k : Nat) (f : Laser → Laser) : (m.setLaser k f).freeCtr = m.freeCtr := rfl

/-! ### setDomain -/

@[simp] theorem setDomain_variant (k : Nat) (f : Domain → Domain) : (m.setDomain k f).variant = m.variant := rfl
@[simp] theorem setDomain_tick (k : Nat) (f : Domain → Domain) : (m.setDomain k f).tick = m.tick := rfl
@[simp] theorem setDomain_aux (k : Nat) (f : Domain → Domain) : (m.setDomain k f).aux = m.aux := rfl
@[simp] theorem setDomain_sup (k : Nat) (f : Domain → Domain) : (m.setDomain k f).sup = m.sup := rfl
@[simp] theorem setDomain_leaves (k : Nat) (f : Domain → Domain) : (m.setDomain k f).leaves = m.leaves := rfl
@[simp] theorem setDomain_sills (k : Nat) (f : Domain → Domain) : (m.setDomain k f).sills = m.sills := rfl
@[simp] theorem setDomain_links (k : Nat) (f : Domain → Domain) : (m.setDomain k f).links = m.links := rfl
@[simp] theorem setDomain_sessions (k : Nat) (f : Domain → Domain) : (m.setDomain k f).sessions = m.sessions := rfl
@[simp] theorem setDomain_nextSid (k : Nat) (f : Domain → Domain) : (m.setDomain k f).nextSid = m.nextSid := rfl
@[simp] theorem setDomain_held (k : Nat) (f : Domain → Domain) : (m.setDomain k f).held = m.held := rfl
@[simp] theorem setDomain_deferred (k : Nat) (f : Domain → Domain) : (m.setDomain k f).deferred = m.deferred := rfl
@[simp] theorem setDomain_engine (k : Nat) (f : Domain → Domain) : (m.setDomain k f).engine = m.engine := rfl
@[simp] theorem setDomain_fabric (k : Nat) (f : Domain → Domain) : (m.setDomain k f).fabric = m.fabric := rfl
@[simp] theorem setDomain_trowel (k : Nat) (f : Domain → Domain) : (m.setDomain k f).trowel = m.trowel := rfl
@[simp] theorem setDomain_mortar (k : Nat) (f : Domain → Domain) : (m.setDomain k f).mortar = m.mortar := rfl
@[simp] theorem setDomain_cal (k : Nat) (f : Domain → Domain) : (m.setDomain k f).cal = m.cal := rfl
@[simp] theorem setDomain_osc (k : Nat) (f : Domain → Domain) : (m.setDomain k f).osc = m.osc := rfl
@[simp] theorem setDomain_time (k : Nat) (f : Domain → Domain) : (m.setDomain k f).time = m.time := rfl
@[simp] theorem setDomain_sec (k : Nat) (f : Domain → Domain) : (m.setDomain k f).sec = m.sec := rfl
@[simp] theorem setDomain_recs (k : Nat) (f : Domain → Domain) : (m.setDomain k f).recs = m.recs := rfl
@[simp] theorem setDomain_keyhole (k : Nat) (f : Domain → Domain) : (m.setDomain k f).keyhole = m.keyhole := rfl
@[simp] theorem setDomain_felso (k : Nat) (f : Domain → Domain) : (m.setDomain k f).felso = m.felso := rfl
@[simp] theorem setDomain_die (k : Nat) (f : Domain → Domain) : (m.setDomain k f).die = m.die := rfl
@[simp] theorem setDomain_freeCtr (k : Nat) (f : Domain → Domain) : (m.setDomain k f).freeCtr = m.freeCtr := rfl

/-! ### setCalClass -/

@[simp] theorem setCalClass_variant (k : Nat) (f : CalClass → CalClass) : (m.setCalClass k f).variant = m.variant := rfl
@[simp] theorem setCalClass_tick (k : Nat) (f : CalClass → CalClass) : (m.setCalClass k f).tick = m.tick := rfl
@[simp] theorem setCalClass_aux (k : Nat) (f : CalClass → CalClass) : (m.setCalClass k f).aux = m.aux := rfl
@[simp] theorem setCalClass_sup (k : Nat) (f : CalClass → CalClass) : (m.setCalClass k f).sup = m.sup := rfl
@[simp] theorem setCalClass_leaves (k : Nat) (f : CalClass → CalClass) : (m.setCalClass k f).leaves = m.leaves := rfl
@[simp] theorem setCalClass_sills (k : Nat) (f : CalClass → CalClass) : (m.setCalClass k f).sills = m.sills := rfl
@[simp] theorem setCalClass_links (k : Nat) (f : CalClass → CalClass) : (m.setCalClass k f).links = m.links := rfl
@[simp] theorem setCalClass_sessions (k : Nat) (f : CalClass → CalClass) : (m.setCalClass k f).sessions = m.sessions := rfl
@[simp] theorem setCalClass_nextSid (k : Nat) (f : CalClass → CalClass) : (m.setCalClass k f).nextSid = m.nextSid := rfl
@[simp] theorem setCalClass_held (k : Nat) (f : CalClass → CalClass) : (m.setCalClass k f).held = m.held := rfl
@[simp] theorem setCalClass_deferred (k : Nat) (f : CalClass → CalClass) : (m.setCalClass k f).deferred = m.deferred := rfl
@[simp] theorem setCalClass_engine (k : Nat) (f : CalClass → CalClass) : (m.setCalClass k f).engine = m.engine := rfl
@[simp] theorem setCalClass_fabric (k : Nat) (f : CalClass → CalClass) : (m.setCalClass k f).fabric = m.fabric := rfl
@[simp] theorem setCalClass_trowel (k : Nat) (f : CalClass → CalClass) : (m.setCalClass k f).trowel = m.trowel := rfl
@[simp] theorem setCalClass_mortar (k : Nat) (f : CalClass → CalClass) : (m.setCalClass k f).mortar = m.mortar := rfl
@[simp] theorem setCalClass_osc (k : Nat) (f : CalClass → CalClass) : (m.setCalClass k f).osc = m.osc := rfl
@[simp] theorem setCalClass_time (k : Nat) (f : CalClass → CalClass) : (m.setCalClass k f).time = m.time := rfl
@[simp] theorem setCalClass_power (k : Nat) (f : CalClass → CalClass) : (m.setCalClass k f).power = m.power := rfl
@[simp] theorem setCalClass_sec (k : Nat) (f : CalClass → CalClass) : (m.setCalClass k f).sec = m.sec := rfl
@[simp] theorem setCalClass_recs (k : Nat) (f : CalClass → CalClass) : (m.setCalClass k f).recs = m.recs := rfl
@[simp] theorem setCalClass_keyhole (k : Nat) (f : CalClass → CalClass) : (m.setCalClass k f).keyhole = m.keyhole := rfl
@[simp] theorem setCalClass_felso (k : Nat) (f : CalClass → CalClass) : (m.setCalClass k f).felso = m.felso := rfl
@[simp] theorem setCalClass_die (k : Nat) (f : CalClass → CalClass) : (m.setCalClass k f).die = m.die := rfl
@[simp] theorem setCalClass_freeCtr (k : Nat) (f : CalClass → CalClass) : (m.setCalClass k f).freeCtr = m.freeCtr := rfl

/-! ### Reading back -/

@[simp] theorem leaf_setLeaf_same (i : Side) (f : LeafSt → LeafSt) : (m.setLeaf i f).leaf i = f (m.leaf i) := by
  cases i <;> rfl

@[simp] theorem leaf_setLeaf_other (i : Side) (f : LeafSt → LeafSt) : (m.setLeaf i f).leaf i.other = m.leaf i.other := by
  cases i <;> rfl

@[simp] theorem link_setLink_same (i : Side) (f : LinkSt → LinkSt) : (m.setLink i f).link i = f (m.link i) := by
  cases i <;> rfl

@[simp] theorem link_setLink_other (i : Side) (f : LinkSt → LinkSt) : (m.setLink i f).link i.other = m.link i.other := by
  cases i <;> rfl

@[simp] theorem leaf_setLink (i j : Side) (f : LinkSt → LinkSt) : (m.setLink i f).leaf j = m.leaf j := rfl

@[simp] theorem link_setLeaf (i j : Side) (f : LeafSt → LeafSt) : (m.setLeaf i f).link j = m.link j := rfl

/-- An update of the live module leaves the reports and the queue. -/
@[simp] theorem onCur_snap (f : Mod → Mod) (s : State) : (onCur f s).snap = s.snap := rfl
@[simp] theorem onCur_mirror (f : Mod → Mod) (s : State) : (onCur f s).mirror = s.mirror := rfl
@[simp] theorem onCur_pending (f : Mod → Mod) (s : State) : (onCur f s).pending = s.pending := rfl
@[simp] theorem onCur_cur (f : Mod → Mod) (s : State) : (onCur f s).cur = f s.cur := rfl

end Sys2Proof.Machine
end

