-- ==== Sys2Proof/Laws/Ops.lean ====
section
/-! SUPPORT. What each shared operation can do, said once. -/

namespace Sys2Proof.Machine

/-! ### Events of the module -/

/-- Where its condition holds, an event changes the live module as it says. -/
theorem happens_holds (g : Mod → Bool) (f : Mod → Mod) (s : State) (h : g s.cur = true) :
    happens g f s = .next { s with cur := f s.cur } := by
  simp [happens, h, onCur]

/-- Where it does not hold, nothing changes. -/
theorem happens_not (g : Mod → Bool) (f : Mod → Mod) (s : State) (h : g s.cur = false) : happens g f s = .next s := by
  simp [happens, h]

/-- An event leaves the queue, the report of the boundary and the mirror. -/
theorem happens_frame (g : Mod → Bool) (f : Mod → Mod) (s t : State) (h : happens g f s = .next t) :
    t.pending = s.pending ∧ t.snap = s.snap ∧ t.mirror = s.mirror := by
  unfold happens at h
  split at h <;> (cases h; exact ⟨rfl, rfl, rfl⟩)

/-! ### Records, triggers, journal -/

theorem fire_changes (m : Mod) (n : Nat) : ∃ k, m.fire n = { m with keyhole := k } := by
  unfold Mod.fire
  split
  · split <;> exact ⟨_, rfl⟩
  · exact ⟨m.keyhole, rfl⟩

theorem record_changes (m : Mod) (ty origin : Nat) (data : List Byte) : ∃ r, m.record ty origin data = { m with recs := r } := by
  unfold Mod.record
  split <;> exact ⟨_, rfl⟩

theorem journal_changes (m : Mod) (e : JEntry) : ∃ r, m.journal e = { m with recs := r } := ⟨_, rfl⟩

theorem journalReq_changes (m : Mod) (r : Req) (st : Nat) : ∃ x, m.journalReq r st = { m with recs := x } := by
  unfold Mod.journalReq
  split
  · exact ⟨_, rfl⟩
  · exact ⟨m.recs, rfl⟩

/-! ### Sending -/

/-- What leaves changes its links, what is marked as seen, and the counts of lost events. -/
theorem sendNow_changes (m : Mod) (i : Side) (p : OutPkt) :
    ∃ l h t, m.sendNow i p = { m with links := l, held := h, sessions := t } := by
  simp only [Mod.sendNow]
  split
  · exact ⟨_, _, _, rfl⟩
  · exact ⟨_, _, m.sessions, rfl⟩

theorem sendAll_changes (i : Side) (q : List OutPkt) (m : Mod) :
    ∃ l h t, Mod.sendAll i q m = { m with links := l, held := h, sessions := t } := by
  induction q generalizing m with
  | nil => exact ⟨_, m.held, m.sessions, rfl⟩
  | cons p q ih =>
    rw [Mod.sendAll]
    split
    · obtain ⟨l, h, t, e⟩ := sendNow_changes m i p
      obtain ⟨l', h', t', e'⟩ := ih (m.sendNow i p)
      exact ⟨l', h', t', by rw [e', e]⟩
    · exact ⟨_, m.held, m.sessions, rfl⟩

/-- A packet sent or kept changes its link, what is marked as seen, and the counts of lost events. -/
theorem emit_changes (m : Mod) (i : Side) (p : OutPkt) :
    ∃ l h t, m.emit i p = { m with links := l, held := h, sessions := t } := by
  simp only [Mod.emit]
  split
  · exact ⟨_, m.held, m.sessions, rfl⟩
  · obtain ⟨l, h, t, e⟩ := sendAll_changes i _ (m.setLink i fun l => { l with waiting := l.waiting ++ [p] })
    exact ⟨l, h, t, by rw [Mod.pump, e]; rfl⟩

theorem sendReply_changes (m : Mod) (w : Waiter) (fl st : Nat) (pl : List Byte) :
    ∃ l h t d, m.sendReply w fl st pl = { m with links := l, held := h, sessions := t, deferred := d } := by
  simp only [Mod.sendReply]
  split
  · exact ⟨m.links, m.held, m.sessions, m.deferred, rfl⟩
  · split
    · exact ⟨m.links, m.held, m.sessions, _, rfl⟩
    · obtain ⟨l, h, t, e⟩ := emit_changes m w.link (replyPkt w fl st pl)
      exact ⟨l, h, t, m.deferred, by rw [e]⟩

theorem done_changes (m : Mod) (w : Waiter) (st : Nat) (pl : List Byte) :
    ∃ l h t d, m.done w st pl = { m with links := l, held := h, sessions := t, deferred := d } := by
  obtain ⟨l, h, t, d, e⟩ := sendReply_changes (m.hold w w.link st pl) w 0 st pl
  exact ⟨l, h, t, d, by rw [Mod.done, e]; rfl⟩

theorem final_changes (m : Mod) (w : Waiter) (st : Nat) (pl : List Byte) :
    ∃ l h t d, m.final w st pl = { m with links := l, held := h, sessions := t, deferred := d } := by
  simp only [Mod.final]
  split
  · split
    · exact ⟨m.links, _, m.sessions, _, rfl⟩
    · obtain ⟨l, h, t, e⟩ := emit_changes (m.hold w (m.holder w) st pl) w.link (replyPkt w 0 st pl)
      exact ⟨l, h, t, m.deferred, by rw [e]; rfl⟩
  · exact ⟨m.links, _, m.sessions, m.deferred, rfl⟩

/-- A first reply that is the final changes the links, the held results, what waits for the boundary, and the records. -/
theorem answer_changes (r : Req) (st : Nat) (pl : List Byte) (m : Mod) :
    ∃ l h t d x, answer r st pl m = { m with links := l, held := h, sessions := t, deferred := d, recs := x } := by
  obtain ⟨x, hx⟩ := journalReq_changes m r st
  obtain ⟨l, h, t, d, e⟩ := done_changes { m with recs := x } r.w st pl
  exact ⟨l, h, t, d, x, by rw [answer, hx, e]⟩

/-! ### Instructions of Mortar -/

/-- An instruction that nothing stops leaves what it computes, its course at the next instruction. -/
theorem instruct_ends (cls op c : Nat) (w : MWord) (run : Mod → Ran) (s : State) (r : Mod)
    (h : s.cur.executes cls op c w = true) (hr : run s.cur = (r, none)) :
    instruct cls op c w run s = .next (s.after cls c r) := by
  simp only [Mod.executes, Bool.and_eq_true] at h
  simp [instruct, Machine.control, happens, onCur, Mod.perform, h.1, h.2, hr, State.after]

/-- One that places the pc itself leaves what it computes. -/
theorem control_ends (cls op c : Nat) (w : MWord) (run : Mod → Ran) (s : State) (r : Mod)
    (h : s.cur.executes cls op c w = true) (hr : run s.cur = (r, none)) :
    Machine.control cls op c w run s = .next (s.placed c r) := by
  simp only [Mod.executes, Bool.and_eq_true] at h
  simp [Machine.control, happens, onCur, Mod.perform, h.1, h.2, hr, State.placed]

/-- Over tensors inside the allocation, what an instruction makes is stored with its flags. -/
theorem tensorOp_ends (c : Nat) (srcs dsts : List Desc) (f : Made → Made) (m : Mod) (h : m.tensorStop c srcs dsts = none) :
    tensorOp c srcs dsts f m = (m.made c (f (m.start c)), none) := by
  simp [tensorOp, h, Mod.start]

/-- One over a tensor outside it stops its client, and the module is as it was. -/
theorem tensorOp_stops (c : Nat) (srcs dsts : List Desc) (f : Made → Made) (m : Mod) (e : Stop)
    (h : m.tensorStop c srcs dsts = some e) : tensorOp c srcs dsts f m = (m, some e) := by
  simp [tensorOp, h]

end Sys2Proof.Machine
end

