-- ==== Sys2Proof/Laws/Protocol.lean ====
section
/-! SUPPORT. What acceptance of a packet can do (R154), one lemma for each way it ends, and the packet commands as one. -/

namespace Sys2Proof.Machine

variable (o : Op) (p : Packet) (run : Req → State → State) (s : State)

/-- A packet that the leaf does not take changes nothing. -/
theorem accept_not_taken (h : s.cur.takes p.link = false) : accept o p run s = s := by
  simp [accept, h]

/-- A packet without credit is discarded and counted. -/
theorem accept_no_credit (h : s.cur.takes p.link = true) (hc : (s.cur.link p.link).noCredit p.payload.length = true) :
    accept o p run s = { s with cur := s.cur.discard p.link } := by
  simp [accept, h, hc]

/-- The first failing check of steps 2 to 5 is what the sender hears. -/
theorem accept_header (st : Nat) (d : List Byte) (h : s.cur.takes p.link = true)
    (hc : (s.cur.link p.link).noCredit p.payload.length = false)
    (hh : headerCheck o p (s.cur.credited p) = some (st, d)) :
    accept o p run s = { s with cur := (s.cur.credited p).turnAway (packetReq p o) st d } := by
  simp [accept, h, hc, hh]

/-- A repeat is answered from what is held. -/
theorem accept_repeat (fl st : Nat) (pl : List Byte) (h : s.cur.takes p.link = true)
    (hc : (s.cur.link p.link).noCredit p.payload.length = false) (hh : headerCheck o p (s.cur.credited p) = none)
    (hr : (s.cur.credited p).repeatOf o p = some (fl, st, pl)) :
    accept o p run s = { s with cur := (s.cur.credited p).sendReply (packetReq p o).w fl st pl } := by
  simp [accept, h, hc, hh, hr]

/-- Past step 6, the cell of the legality table decides. -/
theorem accept_checked (h : s.cur.checked o p = true) :
    accept o p run s =
      match s.cur.cell o p with
      | .s => { s with cur := (s.cur.credited p).turnAway (packetReq p o) eSTATE plain }
      | .h => { s with cur := (s.cur.credited p).turnAway (packetReq p o) eSAFETY plain }
      | .a =>
        match limitCheck o (packetReq p o) (s.cur.cleared p) with
        | some (st, d) =>
          { s with cur := (s.cur.credited p).overLimit (packetReq p o) st d }
        | none => run (packetReq p o) { s with cur := s.cur.taken o p } := by
  simp only [Mod.checked, Bool.and_eq_true, Bool.not_eq_true', Option.isNone_iff_eq_none] at h
  obtain ⟨⟨⟨h1, h2⟩, h3⟩, h4⟩ := h
  simp only [accept, h1, h2, h3, h4, Bool.not_true, Bool.false_eq_true, ↓reduceIte]
  all_goals rfl

/-- An admitted packet's own step runs on the module that knows the command. -/
theorem accept_admitted (h : s.cur.admits o p = true) :
    accept o p run s = run (packetReq p o) { s with cur := s.cur.taken o p } := by
  simp only [Mod.admits, Bool.and_eq_true, Option.isNone_iff_eq_none, beq_iff_eq] at h
  rw [accept_checked o p run s h.1.1, h.1.2, h.2]

/-- An admitted command whose own step looks at the live module only. -/
theorem commandM_admitted (code : Nat) (run : Req → Mod → Mod) (h : s.cur.admits (opRow code) p = true) :
    commandM code p run s = .next (s.ran code p run) := by
  simp [commandM, command, accept_admitted (opRow code) p _ s h, State.ran, onCur]

/-- An admitted query answers from the view of its leaf. -/
theorem query_admitted (code : Nat) (f : Mod → Req → Mod → Mod) (h : s.cur.admits (opRow code) p = true) :
    query code p f s =
      .next (queryRun f (packetReq p (opRow code)) { s with cur := s.cur.taken (opRow code) p }) := by
  simp [query, command, accept_admitted (opRow code) p _ s h]

/-- Every packet command is acceptance of its packet, with its opcode's own step. -/
theorem exec_packet (c : Instr) (code : Nat) (h : packetOf c = some (code, p)) :
    ∃ run, exec c s = .next (accept (opRow code) p run s) := by
  cases c <;> simp only [packetOf, reduceCtorEq, Option.some.injEq, Prod.mk.injEq] at h <;>
    (obtain ⟨rfl, rfl⟩ := h; exact ⟨_, rfl⟩)

/-! ### Frames -/

/-- A 4-byte field at the end of the bytes before it. -/
theorem field_at_end (b : List Byte) (v : Nat) : field (b ++ le 4 v) b.length 4 = v % 4294967296 := by
  simp only [field, slice, List.drop_left, le, List.take, List.length_cons, List.length_nil]
  simp [unle]
  omega

/-- FCRC of 252 bytes followed by a number. -/
theorem frame_fcrc (b : List Byte) (v : Nat) (h : b.length = 252) :
    LinkFrame.fcrcOk { bytes := b ++ le 4 v } = (v % 4294967296 == (crc32c b).toNat) := by
  rw [LinkFrame.fcrcOk, LinkFrame.at_, ← h, field_at_end, List.take_left]

/-- A frame that the module forms passes its FCRC. -/
theorem frame_good (ftype flags seq ack pkts bytes8 : Nat) (data : List Byte) :
    LinkFrame.fcrcOk { bytes := frameBytes ftype flags seq ack pkts bytes8 data } = true := by
  rw [frameBytes, frame_fcrc]
  · rw [Nat.mod_eq_of_lt (crc32c _).isLt]; exact beq_self_eq_true _
  · simp [le, slice]

end Sys2Proof.Machine
end

