-- ==== Sys2Proof/WellFormed.lean ====
section
/-! DEFINITION. The operand ranges of a command: what a row's operands can be. Meanings are total and do not rest on it. -/

namespace Sys2Proof

/-- A packet's payload is LEN8 × 8 bytes long (R142). -/
def Packet.wf (p : Packet) : Bool :=
  decide (p.payload.length = 8 * p.len8.toNat)

/-- A window's loop index: fabric port × 7 + lane − 1, drop windows first (R183). -/
def windowIndex (w : Nat) : Bool :=
  decide (w < 7616)

/-- A loop index of R183: 14 bits. -/
def loopIndex (k : Nat) : Bool :=
  decide (k < 16384)

/-- A Sense set names fitted tiles and external ports. -/
def SenseIn.wf (i : SenseIn) : Bool :=
  (i.tileTemp.all fun t => decide (t.1 < 68)) && (i.ports.all fun p => decide (p.port < 544)) &&
    (i.oscPower.all fun p => decide (p.1 < 512))

/-- A Compute set names loops. -/
def ComputeIn.wf (c : ComputeIn) : Bool :=
  c.readings.all fun r => loopIndex r.1

/-- A link frame is 256 bytes (04 Table 1). -/
def LinkFrame.wf (f : LinkFrame) : Bool :=
  decide (f.bytes.length = 256)

/-- An OSC frame names an external port and carries 128 payload bytes of 192 symbols (R362, R363). -/
def OscFrame.wf (f : OscFrame) : Bool :=
  decide (f.port < 512) && decide (f.payload.length = 128) && decide (f.errors ≤ 192)

/-- Every operand of the command lies in its range. -/
def Instr.wf (i : Instr) : Bool :=
  match i with
  | .tickBoundary _ power => decide (power < 65536)
  | .sense inp => inp.wf
  | .compute inp => inp.wf
  | .actuate _ _ => true
  | .commitStep _ _ => true
  | .guard _ => true
  | .overrunCauseSet => true
  | .refclkLoss => true
  | .refclkReturn => true
  | .clockMove => true
  | .vauxRise _ => true
  | .vauxFall _ => true
  | .vanaRise _ => true
  | .vanaFall _ => true
  | .vin54Rise _ _ volts _ _ => decide (volts < 4096)
  | .vin54Loss _ volts => decide (volts < 4096)
  | .vin54Overvoltage _ volts => decide (volts < 4096)
  | .resetNAssert _ _ => true
  | .resetNRelease _ _ => true
  | .warmResetStart _ => true
  | .bootReadback => true
  | .journalRestart => true
  | .bootComplete _ => true
  | .watchdog _ => true
  | .leafRailCollapse _ => true
  | .leafRailReturn _ => true
  | .selfDiagnosisFailure _ _ => true
  | .release _ => true
  | .renew _ sill epoch => decide (sill < 8) && decide (epoch < 4294967296)
  | .grant _ sill epoch => decide (sill < 8) && decide (epoch < 4294967296)
  | .forcedGrant _ sill epoch => decide (sill < 8) && decide (epoch < 4294967296)
  | .leaseLapse sill => decide (sill < 8)
  | .lapseNotice _ sill _ => decide (sill < 8)
  | .revert => true
  | .standbyReport _ => true
  | .reportMissing => true
  | .crossLinkDown => true
  | .crossLinkUp _ => true
  | .dieLinkDown link _ => decide (link < 12)
  | .dieLinkUp link => decide (link < 12)
  | .sillLinkDown sill _ => decide (sill < 8)
  | .sillLost sill => decide (sill < 8)
  | .sillPowerLoss sill => decide (sill < 8)
  | .sillReturn sill => decide (sill < 8)
  | .memsRailFault => true
  | .tileOverTemperature tile => decide (tile < 68)
  | .safetyInterlockAssert => true
  | .safetyInterlockRelease => true
  | .packetDiscard _ => true
  | .linkFrameRx _ f => f.wf
  | .linkDownTimeout _ => true
  | .retrainComplete _ => true
  | .sessionLinkTimeout _ _ => true
  | .authBackoffEnd _ => true
  | .creditedSend _ => true
  | .resultExpiry _ _ _ => true
  | .nop p => p.wf
  | .sessionOpen p => p.wf
  | .sessionAuth p _ => p.wf
  | .sessionClose p => p.wf
  | .identify p => p.wf
  | .attest p => p.wf
  | .resultRead p => p.wf
  | .eventSubscribe p => p.wf
  | .resultRelease p => p.wf
  | .circuitSet p prefer => p.wf && (prefer.all fun k => decide (k < 34))
  | .circuitClear p prefer => p.wf && (prefer.all fun k => decide (k < 34))
  | .planStage p => p.wf
  | .planCheckDone _ prefer => (prefer.all fun k => decide (k < 34))
  | .planCommit p => p.wf
  | .planAbort p => p.wf
  | .planQuery p => p.wf
  | .planSolve p => p.wf
  | .circuitQuery p => p.wf
  | .portClassSet p => p.wf
  | .portQuery p => p.wf
  | .blinkOpen p => p.wf
  | .blinkClose => true
  | .neighbourQuery p => p.wf
  | .loopMode p => p.wf
  | .loopSetpoint p => p.wf
  | .traceArm p => p.wf
  | .traceRead p => p.wf
  | .calRun p => p.wf
  | .calRunDone => true
  | .calQuery p => p.wf
  | .jobLoad p => p.wf
  | .jobVerifyDone slot _ => decide (slot < 8)
  | .jobStart p => p.wf
  | .jobPause p => p.wf
  | .jobPauseStopped slot => decide (slot < 8)
  | .jobSaveDone slot => decide (slot < 8)
  | .jobResume p => p.wf
  | .jobStop p => p.wf
  | .jobQuery p => p.wf
  | .jobTimeLimit slot => decide (slot < 8)
  | .timeQuery p => p.wf
  | .hostTimeSet p => p.wf
  | .timeRate p => p.wf
  | .timeStep p => p.wf
  | .launchSchedule p => p.wf
  | .scheduledLaunch => true
  | .journalRead p => p.wf
  | .cornerstoneRead p => p.wf
  | .keyholeFreeze p => p.wf
  | .keyholeRead p => p.wf
  | .keyholeClear p => p.wf
  | .fwStageBegin p => p.wf
  | .fwStageData p => p.wf
  | .fwStageEnd p _ => p.wf
  | .fwStageWriteDone => true
  | .fwConfirm p => p.wf
  | .autoConfirm => true
  | .goldenCopyDone => true
  | .fwTrialExpiry => true
  | .fwQuery p => p.wf
  | .unlockChallenge p => p.wf
  | .unlockResponse p _ => p.wf
  | .keyEnrol p => p.wf
  | .powerQuery p => p.wf
  | .powerRequest p => p.wf
  | .idleTimerSet p => p.wf
  | .regRead p => p.wf
  | .regWrite p => p.wf
  | .functionReinit p => p.wf
  | .functionReinitDone function _ => (decide (function < 6))
  | .firmwareReinit function => (decide (function < 6))
  | .warmReset p => p.wf
  | .holdRelease p => p.wf
  | .leafSwitch p => p.wf
  | .recoveryEnter p => p.wf
  | .vendorService opcode p => decide (0xF0 ≤ opcode.toNat) && p.wf
  | .fabricCfg _ => true
  | .memsBudget _ => true
  | .brickSelect _ => true
  | .loopSelect _ => true
  | .paramSelect _ => true
  | .paramData _ => true
  | .paramApply _ => true
  | .expSelect _ => true
  | .expData _ => true
  | .mortarCfg _ => true
  | .detProfileChange => true
  | .guardCfg _ => true
  | .calCfg _ => true
  | .laserCfg _ => true
  | .laserSelect _ => true
  | .shutterForce w _ => decide (w < 16)
  | .timeCfg _ => true
  | .fabricId _ => true
  | .powerCfg _ => true
  | .idleTicks cls _ => decide (cls < 3)
  | .leafCfg _ => true
  | .secCfg _ => true
  | .keyholeCfg _ => true
  | .keyholeIndex _ => true
  | .keyholeAddr _ => true
  | .keyholeTrigger _ => true
  | .channelSelect _ => true
  | .keyholeSnapshot => true
  | .keyholeAutoResume => true
  | .cornerstoneWrite => true
  | .commitLaunch prefer _ => (prefer.all fun k => decide (k < 34))
  | .windowStart window => windowIndex window
  | .commitComplete => true
  | .commitEnd => true
  | .engineCommit prefer => (prefer.all fun k => decide (k < 34))
  | .solveStart => true
  | .solveDone _ prefer => (prefer.all fun k => decide (k < 34))
  | .thermalModelSlice _ _ => true
  | .ffMiss => true
  | .ffLost => true
  | .ffRestore => true
  | .courseFail course reason => decide (course < 16) && decide (reason < 2)
  | .thermalPartnerReturn => true
  | .dmaDone course _ _ => decide (course < 16)
  | .implausibleHold index => loopIndex index
  | .implausibleRelease index => loopIndex index
  | .traceDone => true
  | .refCheck _ => true
  | .calibrationRun cls _ _ => decide (cls < 6)
  | .wrongLaneCheck window => windowIndex window
  | .signatureSweep window _ _ => windowIndex window
  | .wrongLaneTimeout window => windowIndex window
  | .laserHandover laser => decide (laser < 30)
  | .laserFailover laser => decide (laser < 30)
  | .laserEol laser => decide (laser < 30)
  | .probeLaserFailure laser => decide (laser < 30)
  | .losEntry port => decide (port < 512)
  | .losExit port => decide (port < 512)
  | .probingPulse port => decide (port < 512)
  | .probingPulseEnd port => decide (port < 512)
  | .shutterOpened port => decide (port < 512)
  | .oscFrameRx f => f.wf
  | .neighbourUp port => decide (port < 512)
  | .neighbourLost port => decide (port < 512)
  | .neighbourRecord port => decide (port < 512)
  | .upstreamChange port => decide (port < 512)
  | .fabricTimeLock => true
  | .fabricTimeUnlock => true
  | .ppsInEdge _ => true
  | .ppsInLoss => true
  | .ppsOutPulse => true
  | .ppsOutEnd => true
  | .idleTimerExpiry domain => decide (domain < 65536)
  | .domainEntry domain _ => decide (domain < 65536)
  | .domainWake domain => decide (domain < 65536)
  | .throttle _ => true
  | .scrub _ => true
  | .channelFailure channel => decide (channel < 8)
  | .attBatchPrepare => true
  | .felsoRelock target => decide (target < 4)
  | .felsoRegisterRead _ => true
  | .felsoRegisterWrite _ => true
  | .felsoStatus _ => true
  | .selectCore _ => true
  | .felsoHalt _ => true
  | .felsoResume _ => true
  | .felsoStep _ => true
  | .setBreakpoint _ => true
  | .clearBreakpoint _ => true
  | .memoryRead _ => true
  | .memoryWrite _ => true
  | .mma course _ => decide (course < 16)
  | .mmat course _ => decide (course < 16)
  | .mmaw course _ => decide (course < 16)
  | .mmas course _ => decide (course < 16)
  | .mmad course _ => decide (course < 16)
  | .mmax course _ => decide (course < 16)
  | .outer course _ => decide (course < 16)
  | .conv1 course _ => decide (course < 16)
  | .accz course _ => decide (course < 16)
  | .accset course _ => decide (course < 16)
  | .vadd course _ => decide (course < 16)
  | .vsub course _ => decide (course < 16)
  | .vmul course _ => decide (course < 16)
  | .vfma course _ => decide (course < 16)
  | .vmax course _ => decide (course < 16)
  | .vmin course _ => decide (course < 16)
  | .vabs course _ => decide (course < 16)
  | .vneg course _ => decide (course < 16)
  | .vclamp course _ => decide (course < 16)
  | .vrcp course _ => decide (course < 16)
  | .vrsq course _ => decide (course < 16)
  | .vexp2 course _ => decide (course < 16)
  | .vlog2 course _ => decide (course < 16)
  | .vcmp course _ => decide (course < 16)
  | .vsel course _ => decide (course < 16)
  | .vand course _ => decide (course < 16)
  | .vor course _ => decide (course < 16)
  | .vxor course _ => decide (course < 16)
  | .vshl course _ => decide (course < 16)
  | .vshr course _ => decide (course < 16)
  | .qnt course _ => decide (course < 16)
  | .reqnt course _ => decide (course < 16)
  | .expal course _ => decide (course < 16)
  | .dqnt course _ => decide (course < 16)
  | .cvtfi course _ => decide (course < 16)
  | .cvtif course _ => decide (course < 16)
  | .exprd course _ => decide (course < 16)
  | .expwr course _ => decide (course < 16)
  | .pack course _ => decide (course < 16)
  | .unpack course _ => decide (course < 16)
  | .rsumr course _ => decide (course < 16)
  | .rsumc course _ => decide (course < 16)
  | .rmaxr course _ => decide (course < 16)
  | .rminr course _ => decide (course < 16)
  | .rargmax course _ => decide (course < 16)
  | .rargmin course _ => decide (course < 16)
  | .pscan course _ => decide (course < 16)
  | .xred course _ => decide (course < 16)
  | .xredo course _ => decide (course < 16)
  | .xbcast course _ => decide (course < 16)
  | .xgath course _ => decide (course < 16)
  | .xbar course _ => decide (course < 16)
  | .ld course _ => decide (course < 16)
  | .st course _ => decide (course < 16)
  | .lds course _ => decide (course < 16)
  | .sts course _ => decide (course < 16)
  | .copy course _ => decide (course < 16)
  | .fill course _ => decide (course < 16)
  | .dmain course _ => decide (course < 16)
  | .dmaout course _ => decide (course < 16)
  | .dma2d course _ => decide (course < 16)
  | .dmawait course _ => decide (course < 16)
  | .gather course _ => decide (course < 16)
  | .scatter course _ => decide (course < 16)
  | .scatadd course _ => decide (course < 16)
  | .snap course _ => decide (course < 16)
  | .br course _ => decide (course < 16)
  | .brc course _ => decide (course < 16)
  | .call course _ => decide (course < 16)
  | .ret course _ => decide (course < 16)
  | .loop course _ => decide (course < 16)
  | .endl course _ => decide (course < 16)
  | .setr course _ => decide (course < 16)
  | .addr course _ => decide (course < 16)
  | .mulr course _ => decide (course < 16)
  | .cmpr course _ => decide (course < 16)
  | .tdesc course _ => decide (course < 16)
  | .waitd course _ => decide (course < 16)
  | .yield course _ => decide (course < 16)
  | .halt course _ => decide (course < 16)
  | .gcfg course _ => decide (course < 16)
  | .gstat course _ => decide (course < 16)
  | .flagclr course _ => decide (course < 16)
  | .tickrd course _ => decide (course < 16)
  | .perf course _ => decide (course < 16)
  | .rng course _ => decide (course < 16)
  | .prop course _ => decide (course < 16)
  | .trap course _ => decide (course < 16)
  | .instrNop course _ => decide (course < 16)
  | .ffin course _ => decide (course < 16)
  | .ffout course _ => decide (course < 16)
  | .sillLinkRestored sill _ => decide (sill < 8)
  | .faultNAssert => true
  | .undefinedOpcode _ p => p.wf

end Sys2Proof
end

