-- ==== Sys2Proof/Tests/Slice0.lean ====
section
/-! SUPPORT. Tests: well-formedness refuses what it should, the registers reset as their rules say, worked values of the spec, and
for every statement a state and operands that meet its hypotheses. -/

namespace Sys2Proof.Tests

open Sys2Proof Sys2Proof.Machine

set_option Elab.async false

/-! ### Well-formedness: one ill-formed command for each check -/

def bare (n : BitVec 16) (payload : List Byte) : Packet :=
  { link := .a, tag := 7, role := 3, session := 1, len8 := n, payload := payload }

theorem test_wf_power : (Instr.tickBoundary 0 65536).wf = false := by decide
theorem test_wf_sense_tile : (Instr.sense { arrivedA := 0, arrivedB := 0, tileTemp := [(68, 0)] }).wf = false := by decide
theorem test_wf_sense_port :
    (Instr.sense { arrivedA := 0, arrivedB := 0, ports := [{ port := 544, inTap := 0, outTap := 0 }] }).wf = false := by decide
theorem test_wf_sense_osc : (Instr.sense { arrivedA := 0, arrivedB := 0, oscPower := [(512, 0)] }).wf = false := by decide
theorem test_wf_compute : (Instr.compute { readings := [(16384, 0)] }).wf = false := by decide
theorem test_wf_volts : (Instr.vin54Loss 0 4096).wf = false := by decide
theorem test_wf_sill : (Instr.grant .a 8 1).wf = false := by decide
theorem test_wf_epoch : (Instr.grant .a 7 4294967296).wf = false := by decide
theorem test_wf_die_link : (Instr.dieLinkUp 12).wf = false := by decide
theorem test_wf_tile : (Instr.tileOverTemperature 68).wf = false := by decide
theorem test_wf_frame : (Instr.linkFrameRx .a { bytes := [0] }).wf = false := by decide
theorem test_wf_payload : (Instr.nop (bare 1 [])).wf = false := by decide
theorem test_wf_middle : (Instr.circuitSet (bare 0 []) [34]).wf = false := by decide
theorem test_wf_slot : (Instr.jobTimeLimit 8).wf = false := by decide
theorem test_wf_function : (Instr.firmwareReinit 6).wf = false := by decide
theorem test_wf_vendor : (Instr.vendorService 0xEF (bare 0 [])).wf = false := by decide
theorem test_wf_shutter_word :
    (Instr.shutterForce 16 { link := .a, tag := 0, role := 2, session := 1, value := 0, mask := 0 }).wf = false := by decide
theorem test_wf_idle_class :
    (Instr.idleTicks 3 { link := .a, tag := 0, role := 2, session := 1, value := 0, mask := 0 }).wf = false := by decide
theorem test_wf_window : (Instr.windowStart 7616).wf = false := by decide
theorem test_wf_reason : (Instr.courseFail 0 3).wf = false := by decide
theorem test_wf_course : (Instr.br 16 {}).wf = false := by decide
theorem test_wf_loop : (Instr.implausibleHold 16384).wf = false := by decide
theorem test_wf_class : (Instr.calibrationRun 6 0 []).wf = false := by decide
theorem test_wf_laser : (Instr.laserEol 30).wf = false := by decide
theorem test_wf_port : (Instr.losEntry 512).wf = false := by decide
theorem test_wf_osc_errors :
    (Instr.oscFrameRx { port := 0, spacing := 0, syncOk := true, errors := 193, payload := List.replicate 128 0, pdRx := 0 }).wf
      = false := by decide +kernel
theorem test_wf_osc_payload :
    (Instr.oscFrameRx { port := 0, spacing := 0, syncOk := true, errors := 0, payload := [], pdRx := 0 }).wf = false := by decide
theorem test_wf_domain : (Instr.domainWake 65536).wf = false := by decide
theorem test_wf_channel : (Instr.channelFailure 8).wf = false := by decide
theorem test_wf_target : (Instr.felsoRelock 4).wf = false := by decide
theorem test_wf_good : (Instr.nop (bare 1 [0, 0, 0, 0, 0, 0, 0, 0])).wf = true := by decide

/-! ### A module at work: Leaf A active, Leaf B in STANDBY, both links UP, an administrator's session on Zudin A -/

def linkUp : LinkSt := { LinkSt.init with state := 2, pktCredit := 64, byteCredit := 262144 }

def me : Session :=
  { link := .a, id := 1, role := 3, nonce := [], opened := 1999000, keyId := some 0, mask := 0, evSeq := 0, lost := 0
    sel := .init, latch := .init }

def up : Mod :=
  { Mod.init with
    tick := { Tick.init with count := 1999000, now := 2000000, src := false, refclkValid := true, coreA := true, coreB := true }
    leaves := { Leaves.init with
      leaf :=
        { a := { LeafSt.init with state := .ready, epoch := 1, highest := 1, bootReads := true }
          b := { LeafSt.init with state := .standby, highest := 1, hasMirror := true, bootReads := true } }
      active := some .a, everHeld := true, xlinkUp := true, reportSeen := true, reportClean := true, rebuildDue := false
      moduleByte := { a := 4, b := 3 } }
    sills := List.replicate 8 { Sill.init with epoch := 1, lease := .valid }
    links := { a := linkUp, b := linkUp }
    sessions := [me]
    sec := { Sec.init with batch := 1, keysLeft := 1024 }
    recs := { Records.init with jUp := true, queue := [] } }

def at0 (m : Mod) : State := { cur := m, snap := m, mirror := m, pending := [] }

/-- A packet with the session's tag 7, in the administrator role. -/
def pk (payload : List Byte) : Packet := bare (BitVec.ofNat 16 (payload.length / 8)) payload

def adm (m : Mod) (code : Nat) (payload : List Byte) : Bool := m.admits (opRow code) (pk payload)

def tk (m : Mod) (code : Nat) (payload : List Byte) : Mod := m.taken (opRow code) (pk payload)

/-! ### The values of the spec: reset, worked examples -/

theorem test_reset_values : ∀ r ∈ resetValues, State.reset.regValue .a .init r.1 = some r.2 := by decide +kernel
theorem test_reset_zeros : ∀ a ∈ resetZeros, State.reset.regValue .b .init a = some 0 := by decide +kernel
theorem test_block_id : State.reset.regValue .a .init 0x60000 = some 0x00070001 := by decide +kernel
theorem test_no_register : State.reset.regValue .a .init 0x60034 = none := by decide +kernel
theorem test_table_has_no_bits : decodeTableWord 0 0 = none := by decide

/-! ### Hypotheses that can be met: packets -/

theorem witness_StepRunsFrontCommand : (({ at0 up with pending := [.guard true] } : State).pending = .guard true :: []) := rfl
theorem witness_QueueIsFifo : ∃ t, step { at0 up with pending := [.overrunCauseSet] } = .next t := ⟨_, rfl⟩
theorem witness_EveryCommandAnswers (op : Byte) (p : Packet) : Instr.guard true ≠ .vendorService op p := by simp
theorem witness_VendorServiceStops_not_legal : 0xF0 ≤ (0xF0 : Byte).toNat ∧ adm up 0xF0 [] = false := by decide +kernel
theorem witness_VendorServiceStops_legal :
    0xF0 ≤ (0xFF : Byte).toNat ∧
      Mod.admits { up with sessions := [{ me with role := 4 }] } (opRow 0xFF) { pk [] with role := 4 } = true := by decide +kernel
theorem witness_DiscardedPackets_credit :
    let m := up.setLink .a fun l => { l with owedPkts := 64 }
    packetOf (.nop (pk [])) = some (0x00, pk []) ∧ m.takes .a = true ∧ (m.link .a).noCredit 0 = true := by decide +kernel
theorem witness_DiscardedPackets_undefined : opOf (0x0A : Byte).toNat = none ∧ opOf (0xA7 : Byte).toNat = none := by decide +kernel
/-- The bytes of a packet with no payload, its CRC right. -/
def wholeNop : List Byte := let h := le 28 1; h ++ le 4 (crc32c h).toNat
theorem witness_DiscardedPackets_crc : (up.leaf .b).state ≠ .off ∧ (up.leaf .b).inReset = false ∧ (up.link .b).state = 2 ∧
    packetCrcOk [1] = false ∧ packetCrcOk wholeNop = true ∧ (up.link .b).noCredit (wholeNop.length - 32) = false := by decide +kernel
theorem witness_HeaderChecksInOrder : up.takes .a = true ∧ (up.link .a).noCredit 8 = false ∧
    packetClean { pk [] with role := 8 } = false ∧ 8192 < (bare 8193 []).len8.toNat ∧
    (up.session .a 2).isSome = false ∧ (up.session .a 1).elim 0 Session.role < 4 ∧
    minRole (opRow 0xA4) [] = 3 := by decide +kernel
theorem witness_HeaderChecksInOrder_member : headerCheck (opRow 0xA4) { pk [] with role := 2 } up =
    some (eAUTH, detail 8 noField noIndex) := by decide +kernel
def heldAs (f : Option (Nat × List Byte)) : Held :=
  { link := .a, session := 1, tag := 7, opcode := 0x04, role := 3, hash := paramHash 0x04 [], journaled := false, holder := .a
    mirrored := false, final := f, ready := 2000000, reserved := 72, seen := true }
theorem witness_DuplicateRule_waiting : Mod.knownFor { up with held := [heldAs none] } (pk []) = some (heldAs none) ∧
    headerCheck (opRow 0x04) (pk []) up = none := by decide +kernel
theorem witness_DuplicateRule_final :
    let m := { up with held := [heldAs (some (0, []))] }
    (m.knownFor (pk [])).isSome = true ∧ (packetReq (pk []) (opRow 0x00)).hash ≠ (heldAs none).hash := by decide +kernel
theorem witness_DuplicateRule_expired : Mod.knownFor { up with held := [{ heldAs (some (0, [])) with ready := 1000000 }] }
    (pk []) = none := by decide +kernel
theorem witness_LegalityByState_s : up.checked (opRow 0xA4) (pk []) = true ∧ legal 0xA4 (up.leaf .a).state = .s := by decide +kernel
theorem witness_LegalityByState_h :
    let m := up.setLeaf .a fun l => { l with state := .safeHold }
    m.checked (opRow 0x10) (pk []) = true ∧ legal 0x10 (m.leaf .a).state = .h := by decide +kernel
theorem witness_LegalityByState_a : up.checked (opRow 0x04) (pk []) = true ∧ legal 0x04 (up.leaf .a).state = .a ∧
    (limitCheck (opRow 0x04) (packetReq (pk []) (opRow 0x04)) (up.cleared (pk []))).isNone = true := by decide +kernel
theorem witness_PendingLimits :
    let m := { up with held := (List.range 1024).map fun k => { heldAs none with tag := BitVec.ofNat 16 (100 + k) } }
    m.checked (opRow 0x04) (pk []) = true ∧ 1024 ≤ (m.cleared (pk [])).awaiting .a := by decide +kernel
theorem witness_PendingLimits_store :
    let m := { up with held := [{ heldAs none with tag := 9, reserved := 33554432 }] }
    (m.cleared (pk [])).awaiting .a < 1024 ∧ 33554432 < (m.cleared (pk [])).storeUsed .a 1 + 32 + (opRow 0x04).size := by
  decide +kernel
theorem witness_RefusalHasNoEffect : packetOf (.holdRelease (pk [])) = some (0xA4, pk []) ∧ adm up 0xA4 [] = false := by
  decide +kernel
theorem witness_UndefinedOpcodeAnswered : opOf (0x0F : Byte).toNat = none ∧ up.takes .a = true ∧
    (up.link .a).noCredit 0 = false ∧ packetClean (pk []) = true := by decide +kernel
theorem witness_FirstReplyIsSentAndHeld :
    let r := packetReq (pk []) (opRow 0x04)
    let m := tk { up with tick := { up.tick with phase := .guard } } 0x04 []
    m.tick.phase ≠ .boundary ∧ (m.link r.w.link).state = 2 ∧ (m.link r.w.link).waiting = [] ∧ (m.link r.w.link).canSend 40 = true ∧
      m.blocked r.w = false ∧ (m.leaf r.w.link).state ≠ .standby := by decide +kernel
def entryB : JEntry :=
  { seq := 9, kind := 0, link := 1, role := 3, opcode := 0xA4, session := 1, host := none, status := 0, tag := 7, aux := 0, hash := []
    ref := 0, byB := true, launch := none }
theorem witness_JournalOfCommands : up.recs.journal.length < 262144 ∧ (packetReq (pk []) (opRow 0x04)).query = true ∧
    (packetReq (pk []) (opRow 0xA4)).query = false ∧ (packetReq (pk []) (opRow 0xA4)).w.link = .a ∧ entryB.lateB 9 = true ∧
    entryB.lateB 10 = false := by decide +kernel

/-! ### Hypotheses that can be met: commands -/

theorem witness_SessionCommandsComplete : adm up 0x00 [] = true ∧ adm up 0x04 [] = true ∧ adm up 0x07 (le 8 511) = true ∧
    sized (le 8 511) 8 = true ∧ field (le 8 511) 0 8 < 512 ∧ adm up 0x08 (pad8 (le 4 1)) = true ∧
    sized (pad8 (le 4 1)) 4 = true ∧ adm up 0x03 [] = true := by decide +kernel
def opens (n : Nat) (versions : Nat) : Mod × Packet :=
  ({ up with sessions := List.replicate n me }, { pk (le 16 versions) with session := 0, role := 0 })
theorem witness_SessionOpensAndAuthenticates_open :
    let x := opens 7 2
    x.1.admits (opRow 0x01) x.2 = true ∧ sized x.2.payload 16 = true ∧ zeros x.2.payload 1 7 = true ∧
      (field x.2.payload 0 1).testBit 1 = true := by decide +kernel
theorem witness_SessionOpensAndAuthenticates_ninth :
    let x := opens 8 2
    x.1.admits (opRow 0x01) x.2 = true ∧ ((x.1.taken (opRow 0x01) x.2).sessions.filter fun t => t.link == .a).length = 8 := by
  decide +kernel
theorem witness_SessionOpensAndAuthenticates_version :
    let x := opens 0 1
    x.1.admits (opRow 0x01) x.2 = true ∧ (field x.2.payload 0 1).testBit 1 = false := by decide +kernel
def proof : List Byte := le 4 0 ++ [3] ++ List.replicate 7859 0
theorem witness_SessionOpensAndAuthenticates_auth :
    adm up 0x02 proof = true ∧ sized proof 7864 = true ∧ zeros proof 5 3 = true ∧ (tk up 0x02 proof).session .a 1 = some me ∧
      (tk up 0x02 proof).tick.now ≤ me.opened + 1000000 ∧ (tk up 0x02 proof).keyProves 0 3 = true ∧
      ((tk up 0x02 proof).link .a).backoff = none := by decide +kernel
def other : Held := { heldAs (some (0, [])) with tag := 9 }
theorem witness_ResultRead :
    let m := { up with held := [other] }
    let pl := [0, 0] ++ le 2 9 ++ le 4 1
    adm m 0x06 pl = true ∧ sized pl 8 = true ∧ zeros pl 1 1 = true ∧
      ((tk m 0x06 pl).held.find? fun h => h.link == .a && h.session == 1 && h.tag == 9 && h.kept 2000000) = some other ∧
      other.role ≤ me.role ∧ other.holder = .a := by decide +kernel
theorem witness_QueriesReplyAndEnd : adm up 0x31 (pad8 (le 2 0 ++ le 2 512)) = true ∧ portRange 0 512 = true ∧
    adm up 0x45 [] = true ∧ adm up 0x60 [] = true ∧ adm up 0x90 [] = true ∧ adm up 0x84 [] = true ∧
    adm up 0x70 (pad8 (le 8 0 ++ le 2 1024)) = true ∧ adm up 0x71 (pad8 (le 8 0 ++ le 2 1)) = true ∧
    adm up 0x73 (pad8 (le 8 0 ++ le 2 1)) = true ∧ sized (pad8 (le 8 0 ++ le 2 1024)) 10 = true ∧
    adm up 0x33 (pad8 (le 2 511)) = true ∧ adm up 0x17 (pad8 (le 2 0 ++ le 2 1 ++ [1])) = true ∧
    adm up 0x43 (pad8 ([0, 0] ++ le 2 0 ++ le 2 4096)) = true := by decide +kernel
def plan (st : PState) : Plan :=
  { id := 5, base := 0, scope := 0, allowMove := false, override := false, makeFirst := false, entries := [], state := st
    origin := .host, waiter := none, commitW := none, accepted := 0, n := 0, w := 0, n2 := 0, w2 := 0, moves := 0, trans := 0
    route := [], moveTo := [], timed := none, lateAcc := false, gen := 0, damaged := false, ctxs := [], clear := false
    baseSet := [], baseOk := true, stale := false, waited := false }
def planned (st : PState) : Mod :=
  { up with engine := { up.engine with plans := [plan st], queue := if st = .queued then [5] else [] } }
theorem witness_QueriesReplyAndEnd_plan : adm (planned .staged) 0x15 (pad8 (le 4 5)) = true ∧
    ((at0 (planned .staged)).view .a).plan 5 = some (plan .staged) ∧
    ((at0 (planned .queued)).view .a).plan 5 = some (plan .queued) ∧
    ((at0 up).view .a).plan 5 = none := by decide +kernel
theorem witness_DeferredCommandsComplete :
    let pl := pad8 (le 2 511 ++ le 2 1 ++ [4])
    adm up 0x30 pl = true ∧ sized pl 5 = true ∧ portRange 511 1 = true := by decide +kernel
theorem witness_DeferredCommandsComplete_loop :
    let pl := pad8 (le 4 0 ++ [2, 0, 0, 0] ++ le 4 0)
    adm up 0x40 pl = true ∧ sized pl 12 = true ∧ (tk up 0x40 pl).loopCheck 0 = none ∧
      (tk up 0x40 pl).loopConflict 0 = false ∧ setpointOk 0 (fieldS (le 8 0) 4 4) = true ∧ adm up 0x41 (le 8 0) = true := by
  decide +kernel
theorem witness_DeferredCommandsComplete_time : adm up 0x61 (pad8 (le 12 0)) = true ∧ timeNsOk (le 12 0) 0 = true ∧
    (tk up 0x61 (pad8 (le 12 0))).hostSetDue = false ∧ adm up 0x62 ([1, 0, 0, 0] ++ le 4 200000) = true ∧
    adm up 0x63 ([1, 0, 0, 0] ++ le 12 0) = true ∧ sized ([1, 0, 0, 0] ++ le 12 0) 16 = true := by decide +kernel
theorem witness_DeferredCommandsComplete_step :
    let m := { up with time := { up.time with hostSet := true, upstream := some 3 } }
    (tk m 0x63 ([1, 0, 0, 0] ++ le 12 0)).time.hostSet = true ∧ (tk m 0x63 (le 16 0)).isRoot = false ∧
      (tk m 0x63 (le 16 0)).time.upstream ≠ none ∧ timeAtS (le 16 0) 4 = 0 := by decide +kernel
theorem witness_DeferredCommandsComplete_rest : adm up 0x72 (pad8 [1]) = true ∧ adm up 0x92 ([0, 0, 0, 0] ++ le 4 100000) = true ∧
    idleOk 0 100000 = true ∧ adm (planned .staged) 0x14 (pad8 (le 4 5)) = true ∧
    (tk (planned .staged) 0x14 (pad8 (le 4 5))).plan 5 = some (plan .staged) := by decide +kernel
theorem witness_PowerCommandsAndRows_request :
    let pl := pad8 (le 2 0x10 ++ [1])
    adm up 0x91 pl = true ∧ sized pl 3 = true ∧ domainCodes.contains 0x10 = true ∧ requestOk 0x10 1 = true ∧
      (tk up 0x91 pl).variant.domain 0x10 = true := by decide +kernel
theorem witness_PowerCommandsAndRows_refused :
    let m := { up with variant := .p }
    (m.variant.domain 0x1100 = false ∧ domainCodes.contains 0x1100 = true ∧ requestOk 0x1100 3 = true) ∧
      isCourse 0 = true ∧ (Mod.course (up.setCourse 0 fun k => { k with failed := true }) 0).failed = true ∧
      isBank 0x1100 = true ∧ Mod.state (up.setLeaf .a fun l => { l with state := .safeHold }) = .safeHold := by decide +kernel
theorem witness_HoldReleaseGuarded :
    let m := up.setLeaf .a fun l => { l with state := .safeHold }
    m.takes .a = true ∧ adm m 0xA4 [] = true ∧ (tk m 0xA4 []).holdNow = 0 ∧ (tk m 0xA4 []).leaves.wantHold = false ∧
      (tk { m with sup := { m.sup with interlock := true } } 0xA4 []).holdNow ≠ 0 := by decide +kernel
theorem witness_PlanCommandsComplete_stage :
    let pl := le 4 5 ++ le 4 0 ++ le 4 0 ++ le 2 0 ++ le 2 0 ++ le 64 1
    adm up 0x12 pl = true ∧ pl.length = 80 ∧ (tk up 0x12 pl).planIdFree 5 = true ∧ sized pl 80 = true := by decide +kernel
theorem witness_PlanCommandsComplete_commit :
    let pl := le 24 5
    adm (planned .staged) 0x13 pl = true ∧ sized pl 24 = true ∧ zeros pl 20 4 = true ∧ zeros pl 8 12 = true ∧
      (tk (planned .staged) 0x13 pl).plan (wordAt pl 0) = some (plan .staged) ∧
      (plan .staged).base = (tk (planned .staged) 0x13 pl).tailGen := by decide +kernel
theorem witness_PlanCommandsComplete_circuit :
    let pl := pad8 (le 4 6 ++ le 4 0 ++ le 2 1 ++ le 2 2 ++ [0, 0] ++ le 2 0 ++ le 4 0)
    let np := (tk up 0x10 pl).newPlan 6 (tk up 0x10 pl).tailGen 0 0 [entryAt pl 8] .circuit false none
    adm up 0x10 pl = true ∧ sized pl 20 = true ∧ (tk up 0x10 pl).planIdFree 6 = true ∧ entryBad none [] (entryAt pl 8) = none ∧
      ((entryCircuit (entryAt pl 8)).all up.variant.fits) = true ∧
      ((tk up 0x10 pl).checkPlan [] np).toBool = true := by decide +kernel
theorem witness_PlanChecksAndAborts : (planned .checking).engineUp = true ∧ (planned .checking).plan 5 = some (plan .checking) ∧
    ((planned .checking).checkAll [] (plan .checking)).toBool = true ∧ (planned .staged).plan 5 = some (plan .staged) ∧
    (planned .queued).plan 5 = some (plan .queued) := by decide +kernel
theorem witness_PlanChecksAndAborts_fails :
    Except.toBool ((planned .checking).checkAll [] { plan .checking with entries := [{ src := 512, dst := 0, kind := 0, eflags := 0, jobTag := 0 }] }) = false := by decide +kernel

theorem witness_PendingCommandsComplete_blink :
    let pl := pad8 (le 64 8 ++ le 4 100)
    adm up 0x32 pl = true ∧ sized pl 68 = true ∧ maskAt pl 0 = 8#512 ∧ (tk up 0x32 pl).isTrunk 3 = false ∧
      (tk up 0x32 pl).blinking = false := by decide +kernel
theorem witness_PendingCommandsComplete_cal : adm up 0x44 (pad8 (le 4 63)) = true ∧ sized (pad8 (le 4 63)) 4 = true ∧
    (tk up 0x44 (pad8 (le 4 63))).cal.waiter = none := by decide +kernel
def solvePl : List Byte := le 4 9 ++ le 4 0 ++ le 4 0 ++ le 4 9 ++ ([1, 0] ++ le 2 0 ++ le 4 0 ++ le 64 0)
theorem witness_PendingCommandsComplete_solve : adm up 0x16 solvePl = true ∧ 88 ≤ solvePl.length ∧
    (tk up 0x16 solvePl).solveIdFree 9 = true ∧ (tk up 0x16 solvePl).solveBad solvePl = none ∧
    (tk up 0x16 solvePl).mortar.solves = [] := by decide +kernel
theorem witness_PendingCommandsComplete_launch :
    let m := { up with time := { up.time with everLocked := true } }
    let pl := [1, 0] ++ le 2 0 ++ le 12 1 ++ le 32 0
    adm m 0x64 pl = true ∧ sized pl 48 = true ∧ timeNsOk pl 4 = true ∧ (tk m 0x64 pl).badInstant (timeAt pl 4) = false := by
  decide +kernel
theorem witness_PendingCommandsComplete_reinit : adm up 0xA2 (pad8 [5]) = true ∧ (tk up 0xA2 (pad8 [5])).reinitOn 5 = false ∧
    (tk up 0xA2 (pad8 [5])).reinitDue 5 = false := by decide +kernel
theorem witness_PendingCommandsComplete_switch : adm up 0xA5 (pad8 [1]) = true ∧ field (pad8 [1]) 0 1 = Side.b.num ∧
    (tk up 0xA5 (pad8 [1])).eligible .b = true ∧ (tk up 0xA5 (pad8 [0])).leaves.active = some .a := by decide +kernel
theorem witness_RecordAndImageCommandsComplete_trace :
    let pl := [1, 0, 0, 0] ++ le 2 4095 ++ le 10 0 ++ le 4 0 ++ [7, 0, 0, 0]
    adm up 0x42 pl = true ∧ sized pl 24 = true ∧ (loopClass 0).isSome = true ∧ (tk up 0x42 pl).variant.loop 0 = true := by
  decide +kernel
def hdr : List Byte :=
  [0x4B, 0x57, 0x46, 0x57] ++ le 2 1 ++ le 2 256 ++ le 4 2 ++ le 4 64 ++ [0x42, 0x30] ++ List.replicate 14 0 ++ le 4 0xFFFF0000 ++
    List.replicate 8076 0
def staging : Mod :=
  { up with sec := { up.sec with counter := 0, buffers := [{ link := .a, session := 1, header := hdr, len := 8192, got := 80, data := [] }] } }
theorem witness_RecordAndImageCommandsComplete_rest : adm up 0x74 [] = true ∧ adm up 0x05 (List.replicate 32 0) = true ∧
    (tk up 0x05 (List.replicate 32 0)).sec.keysLeft ≠ 0 := by decide +kernel
theorem witness_RecordAndImageCommandsComplete_begin :
    let pl := le 4 8192 ++ le 4 2 ++ hdr
    adm up 0x80 pl = true ∧ sized pl 8120 = true ∧ field pl 0 4 = 8128 + field (slice pl 8 8112) 12 4 ∧
      field pl 4 4 = field (slice pl 8 8112) 8 4 ∧ slice (slice pl 8 8112) 0 4 = [0x4B, 0x57, 0x46, 0x57] ∧ field (slice pl 8 8112) 4 2 = 1 ∧
      field (slice pl 8 8112) 6 2 = 256 ∧
      (tk up 0x80 pl).bufferOf (packetWaiter (pk pl) 0) = none := by decide +kernel
theorem witness_RecordAndImageCommandsComplete_data :
    let m := { staging with sec := { staging.sec with buffers := [{ link := .a, session := 1, header := hdr, len := 8192, got := 0, data := [] }] } }
    let pl := le 8 0 ++ List.replicate 80 0
    adm m 0x81 pl = true ∧ ((tk m 0x81 pl).bufferOf (packetWaiter (pk pl) 0)).isSome = true := by decide +kernel
theorem witness_RecordAndImageCommandsComplete_end : adm staging 0x82 [] = true ∧
    ((tk staging 0x82 []).bufferOf (packetWaiter (pk []) 0)).isSome = true ∧ steppingListed hdr = true ∧
    isKwefold (field hdr 32 4) = true ∧ (tk staging 0x82 []).ownedByOther (packetWaiter (pk []) 0x82) = none ∧
    (tk staging 0x82 []).sec.writing = none ∧ (tk staging 0x82 []).sec.counter.toNat ≤ field hdr 8 4 ∧ 80 + 8112 = 8192 := by decide +kernel
def trial : Mod := { up with sec := { up.sec with primary := { up.sec.primary with sstate := 2 }, mode := 1, health := true } }
theorem witness_RecordAndImageCommandsComplete_confirm : adm trial 0x83 [] = true ∧ (tk trial 0x83 []).onTrial = true ∧
    (tk trial 0x83 []).sec.health = true := by decide +kernel
theorem witness_KeyAndUnlockCommandsComplete_enrol :
    let pl := [0, 3, 0, 0] ++ le 4 5 ++ List.replicate 56 0
    adm up 0x87 pl = true ∧ sized pl 64 = true ∧ wordAt pl 4 ≠ 0 ∧
      ((tk up 0x87 pl).keysNext.find? fun k => k.id == wordAt pl 4) = none ∧ (tk up 0x87 pl).keysNext.length < 32 := by decide +kernel
def unlockKey : Key := { id := 6, purpose := 9, pub := [], label := [] }
theorem witness_KeyAndUnlockCommandsComplete_remove :
    let m := { up with sec := { up.sec with keys := up.sec.keys ++ [unlockKey] } }
    let pl := [1, 0, 0, 0] ++ le 4 6 ++ List.replicate 56 0
    adm m 0x87 pl = true ∧ ((tk m 0x87 pl).keysNext.find? fun k => k.id == wordAt pl 4) = some unlockKey ∧ unlockKey.purpose ≠ 3 := by decide +kernel
def unlocking : Mod :=
  { up with sec := { up.sec with keys := up.sec.keys ++ [unlockKey], challenge := some (1, 2000000, []) } }
def answerPl : List Byte := le 4 6 ++ List.replicate 7860 0
theorem witness_KeyAndUnlockCommandsComplete_unlock : adm up 0x85 (pad8 [3]) = true ∧ adm up 0x85 (pad8 [255]) = true ∧
    adm unlocking 0x86 answerPl = true ∧ sized answerPl 7864 = true ∧ (tk unlocking 0x86 answerPl).mayUnlock 6 = true ∧
    targetLeaf 1 = some .a ∧ targetLeaf 0 = none ∧
    Mod.eligible { tk unlocking 0x86 answerPl with sec := { unlocking.sec with challenge := none } } .b = true := by
  decide +kernel
/-- A job's package with 64 KiB of SRAM, one to sixteen courses, a time limit of 5 ticks, and this code. -/
def package (words : List (BitVec 64)) : List Byte :=
  List.replicate 8 0 ++ le 4 words.length ++ le 4 0 ++ le 4 0 ++ [1, 16, 0, 0] ++ le 4 0 ++ le 4 64 ++ le 4 0 ++ le 8 5 ++
    List.replicate 212 0 ++ words.flatMap fun w => le 8 w.toNat
def job (st : JState) (cs : List Nat) (words : List (BitVec 64)) : Job :=
  { id := 0x10, state := st, package := package words, nextSeg := 1, courses := cs, exit := 0, lpddrMib := 1, ticks := 5
    saveId := 0, saved := [], savedProf := false, savedMc := 0, props := 0, lastProp := 0, mismatches := 0
    reclaimed := false, flags := 0, seen := 0, mem := [], waiter := none, resumeOn := [], stopped := false }
def with1 (j : Job) : Mod := { up with mortar := { up.mortar with jobs := [(0, j)] } }
theorem witness_JobCommandsComplete_load :
    let pl := le 4 0 ++ le 2 0 ++ le 2 1 ++ le 4 8 ++ le 4 0 ++ le 8 0
    adm up 0x50 pl = true ∧ sized pl (16 + field pl 8 4) = true ∧ 8 ≤ (tk up 0x50 pl).poolFree ∧
      ((List.range 8).find? fun k => ((tk up 0x50 pl).job k).isNone) = some 0 := by decide +kernel
theorem witness_JobCommandsComplete_segment :
    let m := with1 (job .loading [] [])
    let pl := le 4 0x10 ++ le 2 1 ++ le 2 0 ++ le 4 8 ++ le 4 0 ++ le 8 0
    adm m 0x50 pl = true ∧ (tk m 0x50 pl).slotOf (wordAt pl 0) = some (0, job .loading [] []) := by decide +kernel
theorem witness_JobCommandsComplete_start :
    let m := with1 (job .loaded [] [0])
    let pl := pad8 (le 4 0x10 ++ le 2 4 ++ le 2 0 ++ le 4 1)
    let v := (tk m 0x51 pl).jobsNext
    adm m 0x51 pl = true ∧ sized pl 12 = true ∧ v.slotOf (wordAt pl 0) = some (0, job .loaded [] [0]) ∧
      bitsSet 16 (field pl 4 2) = [2] ∧ v.grantable 2 = true ∧ v.leavesPlanner [2] = true ∧ 1048576 ≤ v.poolFree ∧
      (job .loaded [] [0]).granted = false := by decide +kernel
theorem witness_JobCommandsComplete_pause :
    let m := with1 (job .running [2] [0])
    adm m 0x52 (pad8 (le 4 0x10)) = true ∧ (tk m 0x52 (pad8 (le 4 0x10))).slotOf 0x10 = some (0, job .running [2] [0]) ∧
      saveBytes ≤ (tk m 0x52 (pad8 (le 4 0x10))).poolFree ∧ (job .running [2] [0]).granted = true ∧
      adm m 0x54 (pad8 (le 4 0x10)) = true ∧ (job .loaded [] [0]).granted = false := by decide +kernel
theorem witness_JobCommandsComplete_resume :
    let j := { job .paused [] [0] with saved := [.init], resumeOn := [3], savedMc := 0 }
    let m := { with1 j with sec := { up.sec with ucode := 0 } }
    adm m 0x53 (le 4 0x10 ++ le 4 0) = true ∧ (tk m 0x53 (le 4 0x10 ++ le 4 0)).jobsNext.resumeCourses j = some [3] ∧
      j.savedMc = (tk m 0x53 (le 4 0x10 ++ le 4 0)).sec.ucode := by decide +kernel
theorem witness_ResetCommandsAndRowsComplete_commands : adm up 0xA3 (pad8 (le 4 0x5741524D)) = true ∧
    adm up 0xA6 (pad8 (le 4 0x52454356)) = true ∧ sized (pad8 (le 4 0x5741524D)) 4 = true := by decide +kernel
def booting : Mod := up.setLeaf .b fun l => { l with state := .boot }
theorem witness_ResetCommandsAndRowsComplete_rows : up.sup.vaux = true ∧ up.sup.resetN = false ∧
    ({ up.leaves with resetAt := some 5 } : Leaves).resetAt = some 5 ∧ State.reset.cur.recs.jUp = false ∧
    Mod.bootReady { booting with die := { booting.die with channels := List.replicate 8 0 } } .b = true ∧
    (booting.leaf .b).granting = false ∧ booting.reaches .b 7 = true ∧ (booting.sill 7).lease = .valid := by decide +kernel
theorem witness_ResetCommandsAndRowsComplete_readback :
    State.reset.cur.tick.running = true ∧ State.reset.cur.serving .a = true ∧ (State.reset.cur.leaf .a).state = .boot ∧
      (State.reset.cur.leaf .a).bootReads = false := by decide +kernel

/-! ### Hypotheses that can be met: registers -/

def fabricWrite : Packet := pk (pad8 (le 4 0x40004 ++ le 4 0xFF ++ le 4 0xFF))
theorem witness_RegisterWritesComplete :
    packetOf (.regWrite fabricWrite) = some (0xA1, fabricWrite) ∧ up.admits (opRow 0xA1) fabricWrite = true ∧
      sized fabricWrite.payload 12 = true ∧ isSelect 0x40004 = false ∧
      (up.taken (opRow 0xA1) fabricWrite).writeBad .init 0x40004 0xFF 0xFF = none := by decide +kernel
theorem witness_RegisterWritesComplete_select : isSelect 0x40010 = true ∧ (masksOf .init 0x40010).isSome = true ∧
    up.writeBad .init 0x40010 543 0x3FF = none ∧ up.writeBad .init 0x50010 1 0x3FFF = none ∧
    up.writeBad .init 0x80014 1 0xFFFFFFFF = none := by decide +kernel
theorem witness_RegisterReadsComplete : adm up 0xA0 (pad8 (le 4 0x40000 ++ le 2 3)) = true ∧
    ((at0 up).regValue .a .init 0x40008).isSome = true ∧ ((at0 up).regValue .a .init 0x40018).isNone = true := by decide +kernel
theorem witness_PreferredLeaf :
    (up.leaves.cfg.extractLsb' 8 2 = 0#2) ∧ ((0x101 : Word).extractLsb' 8 2 = 1#2) ∧ ((0x201 : Word).extractLsb' 8 2 = 2#2) := by
  decide +kernel
theorem test_le_bytes : le 4 0x12345678 = [0x78, 0x56, 0x34, 0x12] := by decide

/-! ### Hypotheses that can be met: rows -/

/-- The module at a place of the tick. -/
def inP (p : Phase) (m : Mod) : Mod := { m with tick := { m.tick with phase := p } }
theorem witness_TickPhasesComplete :
    [Phase.boundary, .sense, .compute, .actuate, .commit, .guard].all (fun p => (inP p up).inPhase p) = true ∧
      (inP .sense up).inPhase .guard = false ∧ up.leaves.xlinkUp = true ∧
      Mod.xlinkDown { up with leaves := { up.leaves with causes := 8 } } = true := by decide +kernel
theorem witness_OverrunAndClockRowsComplete :
    let m := inP .boundary { up with tick := { up.tick with carryRun := 100, cleanRun := 10000, refRun := 1000 } }
    m.tick.running = true ∧ m.leaves.causes.getLsbD 0 = false ∧ m.leftBoot = true ∧ State.reset.cur.leftBoot = false ∧
      (3 : Word).getLsbD 0 = true ∧ (3 : Word).getLsbD 1 = true ∧ m.inPhase .boundary = true ∧ m.leaves.causes.getLsbD 1 = false ∧
      m.serving .a = true ∧ State.reset.cur.tick.coreA = false := by decide +kernel
theorem witness_SupplyRowsComplete :
    let down := { up.sup with vin54 := false, armed := true, rails := false }
    up.sup.vaux = true ∧ up.sup.vana = true ∧ up.sup.vin54 = true ∧ up.sup.rails = true ∧ down.vin54 = false ∧
      Mod.mayConvert { up with sup := { down with vin54 := true } } (down.vanaAt + 1100) = true ∧ 1200 < 4095 := by
  decide +kernel
theorem witness_SupplyRowsComplete_early : Supply.vaux { up.sup with vana := false, vauxAt := 500 } = true ∧
    0 + 999 < 500 + 1000 ∧ 500 + 1000 ≤ 0 + 1500 ∧ up.sup.us = 0 := by decide +kernel
theorem witness_LeaseAndTakeoverRowsComplete_grant :
    let m := inP .guard ((up.setLeaf .b fun l => { l with granting := true, epoch := 2 }).setSill 7 fun k =>
      { k with lease := .lapsed, missed := 3 })
    m.inPhase .guard = true ∧ m.serving .b = true ∧ (m.leaf .b).granting = true ∧ (m.leaf .b).stopped = false ∧
      m.reaches .b 7 = true ∧ (m.leaf .b).epoch = 2 ∧ (m.sill 7).grant = none ∧ (m.sill 7).epoch < 2 ∧ (m.sill 7).lease ≠ .valid ∧
      (m.sill 0).lease = .valid ∧ Mod.grantsForced { m with leaves := { m.leaves with releasing := some .lapse } } .b = true := by
  decide +kernel
theorem witness_LeaseAndTakeoverRowsComplete_held :
    let m := inP .commit up
    m.inPhase .commit = true ∧ m.afterCommit = true ∧ m.holds .a = true ∧ m.reaches .a 0 = true ∧ (m.leaf .a).epoch = 1 ∧
      (m.sill 0).epoch = 1 ∧ 0 < m.sills.length ∧ m.leaves.active = some .a ∧
      ((m.setSill 0 fun k => { k with missed := 3 }).sill 0).lease = .valid ∧
      (let x : Sill := { Sill.init with lease := .lapsed, renewed := true }; x.grant = none) := by decide +kernel
theorem witness_LeaseAndTakeoverRowsComplete_notice :
    let m := inP .guard (up.setSill 0 fun k => { k with lease := .lapsed, notice := true })
    m.afterCommit = true ∧ m.serving .b = true ∧ (m.leaf .b).state = .standby ∧ (m.leaf .b).granting = false ∧
      (m.sill 0).notice = true ∧ m.reaches .b 0 = true ∧ m.isUnlocked 2 = false := by decide +kernel
theorem witness_LeaseAndTakeoverRowsComplete_revert :
    let m := inP .boundary { up with leaves := { up.leaves with cfg := 0x201, cleanTicks := 6000000 } }
    m.inPhase .boundary = true ∧ m.leaves.cfg.getLsbD 0 = true ∧ m.pref = .b ∧ m.standby = some .b ∧ m.eligible m.pref = true ∧
      m.leaves.active = some m.pref.other ∧ m.engine.run = none ∧ m.launchable = false ∧ m.leaves.releasing = none := by
  decide +kernel
theorem witness_LeafResetAndReinitRowsComplete : up.tick.running = true ∧ up.serving .a = true ∧ up.sup.rails = true ∧
    (up.leaf .b).railsDown = false ∧ (up.leaf .b).state ≠ .off ∧ up.running = true ∧ up.variant.windows = true ∧
    up.reinitOn 5 = false ∧ ((up.startReinit 4 none).leaves.reinit.find? fun r => r.1 == 4).isSome = true ∧
    ((up.startReinit 4 none).leaves.reinit.all fun r => decide (up.tick.now ≤ r.2.1 + reinitBound 4)) = true := by decide +kernel
theorem witness_LeafResetAndReinitRowsComplete_return :
    ((up.setLeaf .b fun l => { l with railsDown := true }).leaf .b).railsDown = true := by decide +kernel
theorem witness_HealthRowsComplete : up.itemsOf .a 1 ≠ 0 ∧ up.eligible .b = true ∧ up.standby = some .b ∧
    up.leaves.reportTick + 20000 ≤ up.tick.now ∧ up.sec.fallback = 0 ∧ up.leaves.reportSeen = true ∧ up.leaves.xlinkUp = true ∧
    up.leaves.releasing = none ∧ up.xlinkDown = false ∧
    Mod.eligible { up with leaves := { up.leaves with reportClean := false } } .b = false := by decide +kernel
theorem witness_HealthRowsComplete_cross :
    let m := { up with leaves := { up.leaves with xlinkMiss := 4 } }
    let d := { up with leaves := { up.leaves with causes := 8, xlinkGood := 100 } }
    4 ≤ m.leaves.xlinkMiss ∧ m.xlinkDown = false ∧ d.xlinkDown = true ∧ 100 ≤ d.leaves.xlinkGood := by decide +kernel
theorem witness_HealthRowsComplete_fault :
    let m := { up with leaves := { up.leaves with active := none, leaseEnded := some 1850000 } }
    m.tick.running = true ∧ m.leaves.active = none ∧ m.sup.faultN = false ∧ 1850000 + 150000 ≤ m.tick.now := by decide +kernel
theorem witness_SillAndDieRowsComplete :
    let m := up.setSill 7 fun k => { k with silent := 3, linkA := false }
    7 < m.sills.length ∧ (m.sill 7).linkTo .a = false ∧ (m.sill 7).linkTo .b = true ∧ (m.sill 7).away = false ∧
      3 ≤ (m.sill 7).silent ∧ (m.sill 7).powered = true ∧ Sill.away { m.sill 7 with lost := true } = true ∧ (m.sill 7).linkB = true ∧
      m.running = true := by decide +kernel
theorem witness_SillAndDieRowsComplete_die :
    let m := { up with die := { up.die with retrain := [3] } }
    up.tick.running = true ∧ up.die.up.getLsbD 11 = true ∧ 3 ∈ m.die.retrain ∧ 7 < up.die.channels.length ∧ up.channelOk 7 = true ∧
      up.recs.jUp = true ∧ up.channelOk (copyChannel 1048575 0) = true ∧ up.channelOk (copyChannel 1048575 1) = true ∧
      up.memPort (copyChannel 1048575 1 / 4) = true := by decide +kernel
theorem witness_SafetyRowsComplete :
    let m := { up with sup := { up.sup with memsBad := 2 }, fabric := { up.fabric with tileHot := [(67, 2)] } }
    m.tick.running = true ∧ 2 ≤ m.sup.memsBad ∧ 2 ≤ aget 0 m.fabric.tileHot 67 ∧ m.sup.interlock = false ∧
      ({ m.sup with interlock := true } : Supply).interlock = true := by decide +kernel

/-- A frame as it arrives, its FCRC right. -/
def frameOf (ftype flags seq ack : Nat) : LinkFrame := { bytes := frameBytes ftype flags seq ack 1 2 [] }
theorem test_wf_frame_good : (Instr.linkFrameRx .a (frameOf 0 0 0 0)).wf = true := by
  have h (n v : Nat) : (le n v).length = n := by induction n generalizing v <;> simp [le, *]
  show decide (List.length (frameBytes 0 0 0 0 1 2 []) = 256) = true
  simp only [frameBytes, List.length_append, h, slice, List.length_replicate, List.length_cons, List.length_nil, List.drop_nil,
    List.take_nil]
  decide
theorem witness_LinkRowsComplete_fcrc :
    up.linkUp .a = true ∧ (frameOf 2 4 0 9).fcrcOk = true ∧
      LinkFrame.fcrcOk { bytes := List.replicate 252 0 ++ le 4 ((crc32c (List.replicate 252 0)).toNat + 1) } = false := by
  refine ⟨by decide +kernel, frame_good .., ?_⟩
  rw [frame_fcrc _ _ List.length_replicate]
  simp only [beq_eq_false_iff_ne, ne_eq]
  have := (crc32c (List.replicate 252 0)).isLt
  omega
theorem witness_LinkRowsComplete_frames :
    (let f := frameOf 1 3 1 0; f.ftype = 1 ∧ f.nak = false ∧ f.sop = true ∧ f.eop = true ∧ f.seq = (up.link .a).rxAck + 1) ∧
    (let f := frameOf 0 0 0 0; f.ftype = 0 ∧ f.nak = false ∧ f.pktCredit = 1 ∧ f.byteCredit = 2) ∧
    (frameOf 3 0 0 0).ftype = 3 := by decide +kernel
theorem witness_LinkRowsComplete_nak :
    let f := frameOf 2 4 0 9
    let x : DataFrame := { seq := 10, sop := true, eop := true, data := [] }
    let m := up.setLink .a fun l => { l with unacked := [x], failReplay := 8, idleTicks := 10 }
    f.ftype = 2 ∧ f.nak = true ∧ m.linkUp .a = true ∧ (m.link .a).unacked ≠ [] ∧
      ((m.link .a).unacked.all fun x => x.seq != f.ack) = true ∧ 8 ≤ (m.link .a).failReplay ∧ (up.link .a).failReplay < 8 ∧
      10 ≤ (m.link .a).idleTicks := by decide +kernel
theorem witness_LinkRowsComplete :
    let m := up.setLink .b fun l => { l with state := 1, downTick := some 1000000, backoff := some 2000000 }
    m.serving .b = true ∧ (m.link .b).state = 1 ∧
      Mod.isOpen { m with sessions := [{ me with link := .b }] } .b 1 = true ∧ 1000000 + 100000 ≤ m.tick.now ∧
      (m.link .b).backoff = some 2000000 ∧ 2000000 ≤ m.tick.now ∧ (inP .guard up).settling = false ∧
      (up.link .a).canSend 8 = true ∧ Held.ready { other with ready := 1000000 } + 1000000 ≤ up.tick.now := by decide +kernel
theorem witness_LinkRowsComplete_send :
    let w : OutPkt := replyPkt (packetWaiter (pk []) 0x00) 0 0 []
    let m := inP .guard (up.setLink .a fun l => { l with waiting := [w] })
    m.serving .a = true ∧ m.settling = false ∧ (m.link .a).waiting = w :: [] ∧ (m.link .a).canSend w.payload.length = true := by
  decide +kernel
theorem witness_CommitRowsComplete_launch :
    let m := inP .boundary (planned .queued)
    m.inPhase .boundary = true ∧ m.launchable = true ∧ m.headPlan = some (plan .queued) ∧ (plan .queued).base = m.engine.gen ∧
      (plan .queued).damaged = false ∧ (plan .queued).stale = false ∧ (plan .queued).ctxs = [] ∧
      m.touchCheck (plan .queued) m.engine.members = none := by decide +kernel
theorem witness_CommitRowsComplete_stale :
    let p := { plan .queued with base := 9 }
    let d := { plan .queued with damaged := true }
    let m (q : Plan) : Mod := inP .boundary { planned .queued with engine := { (planned .queued).engine with plans := [q] } }
    (m p).launchable = true ∧ (m p).headPlan = some p ∧ p.base ≠ (m p).engine.gen ∧ p.damaged = false ∧
      (m d).launchable = true ∧ (m d).headPlan = some d ∧ d.damaged = true := by decide +kernel
def running (ends : Option EndWhy) : Running :=
  { engine := false, planId := 5, launch := 1999990
    record := { planId := 5, gen := 0, tick := 1998990, req := none, time := 0, complete := 0, flags := 0 }
    items := [], stage := 1, n := 0, w := 0, n2 := 0, w2 := 0, batchMoves := [], batchRetry := [], ending := ends, stuck := 0
    lastFire := 0, settled := some 1999990, verified := true, begun := true, orph := [], budget := 1024, avail := [], sent := 0 }
def running1 (ends : Option EndWhy) : Mod :=
  inP .commit { planned .running with engine := { (planned .running).engine with run := some (running ends) } }
theorem witness_CommitRowsComplete_ends : (running1 none).inPhase .commit = true ∧ (running1 none).tick.commitLate = false ∧
    (running1 none).completable = true ∧ (running1 (some .abort)).endReady = true ∧ (running1 (some .abort)).running = true := by
  decide +kernel
theorem witness_CommitRowsComplete_engine :
    let m := inP .boundary { up with fabric := { up.fabric with set := [{ brick := 20, line := 0, rail := 0 }] } }
    m.inPhase .boundary = true ∧ m.engineMay = true ∧ m.engineOrphans ≠ [] := by decide +kernel
theorem witness_CommitRowsComplete_start : up.canStart 7615 = true ∧ up.trowel.starts = [] := by decide +kernel
def solve1 : Solve :=
  { waiter := packetWaiter (pk []) 0x16, planId := 9, base := 0, flags := 0, desc := [], accepted := 0, rerun := false }
theorem witness_SolverAndThermalRowsComplete :
    let m := inP .guard up
    m.mortar.solving = none ∧ m.reinitOn 3 = false ∧ m.engineUp = true ∧ m.mortar.mode = 0 ∧ m.reinitOn 4 = false ∧
      m.sliceOpen = true ∧ m.dieLink 4 = true ∧ m.variant.windows = true ∧ m.enabled 15 = true ∧ 15 < m.mortar.courses.length ∧
      m.mortar.jobs = [] ∧ m.running = true ∧ solve1.rerun = false := by decide +kernel
theorem witness_SolverAndThermalRowsComplete_miss :
    let m := inP .sense { up with trowel := { up.trowel with ffMisses := 4, ffGood := 10 } }
    m.inPhase .sense = true ∧ m.trowel.ffFor < m.ffTick ∧ 4 ≤ m.trowel.ffMisses ∧ m.trowel.ffState ≠ 2 ∧ 10 ≤ m.trowel.ffGood ∧
      (inP .boundary { up with mortar := { up.mortar with detPend := true } }).inPhase .boundary = true := by decide +kernel
theorem witness_SolverAndThermalRowsComplete_partner :
    let m := { up with mortar := { up.mortar with reserved := [0], mode := 1 } }
    m.partnerMay = true ∧ m.partner = some 1 := by decide +kernel
theorem witness_SolverAndThermalRowsComplete_third :
    let m := up.setCourse 15 fun k => { k with errors := [(0, up.tick.now), (0, up.tick.now)] }
    m.tick.running = true ∧ m.enabled 15 = true ∧ 15 < m.mortar.courses.length ∧
      2 ≤ ((m.course 15).errors.filter fun x => x.1 == 0 && decide (m.tick.now < x.2 + 100000)).length := by decide +kernel
theorem witness_JobRowsComplete :
    let j := { job .pausing [2] [0] with stopped := true }
    (with1 j).job 0 = some j ∧ ((with1 j).course 2).dma = [] ∧ 0 < field (job .running [2] [0]).package 36 8 ∧
      field (job .running [2] [0]).package 36 8 ≤ (job .running [2] [0]).ticks ∧
      ((with1 j).mortar.jobs.find? fun p => p.2.courses.contains 2) = some (0, j) ∧ up.die.up.getLsbD 10 = true ∧
      (up.packageBad (job .verifying [] [0]) none).isSome = true := by decide +kernel

theorem witness_PowerCommandsAndRows_lane : adm up 0x91 (pad8 (le 2 0x20 ++ [3])) = true ∧ sized (pad8 (le 2 0x20 ++ [3])) 3 = true ∧
    domainCodes.contains 0x20 = true ∧ requestOk 0x20 3 = true ∧ up.variant.domain 0x20 = true ∧ isCourse 0x20 = false ∧
    (tk up 0x91 (pad8 (le 2 0x21 ++ [3]))).held5 0x21 = false ∧ (tk up 0x91 (pad8 (le 2 0x20 ++ [3]))).held5 0x20 = true := by
  decide +kernel
theorem witness_PowerCommandsAndRows_turnedAway :
    let m := up.setLeaf .a fun l => { l with state := .safeHold }
    Mod.variant { up with variant := .p } = .p ∧ Variant.p.domain 0x1100 = false ∧ m.state = .safeHold ∧ isBank 0x1100 = true ∧
      (Mod.course (up.setCourse 3 fun k => { k with failed := true }) 3).failed = true ∧ isCourse 3 = true := by decide +kernel
def domainAs (d : Nat) (st goal : DState) : Mod := up.setDomain d fun x => { x with state := st, goal := goal, timer := 7000000 }
theorem witness_PowerCommandsAndRows_rows :
    let m := domainAs 0x21 .on .on
    (m.domain 0x21).isSome = true ∧ m.idleTicks 0x21 ≠ 0 ∧ m.held5 0x21 = false ∧ m.entryReady 0x21 = true ∧
      ((m.domain 0x21).map Domain.state) = some .on ∧
      ((domainAs 0x21 .entering .on).domain 0x21).map Domain.goal = some .on ∧
      ((domainAs 0x10 .entering .retention).domain 0x10).map Domain.goal = some .retention ∧
      ((domainAs 0x10 .waking .on).domain 0x10).map Domain.state = some .waking := by decide +kernel
theorem witness_PowerCommandsAndRows_throttle :
    let m := { up with mortar := { up.mortar with temp := 101, coolRun := 10000 } }
    m.power.stepTick + 1000 ≤ m.tick.now ∧ (m.course 0).opp < 2 ∧ 100 < m.mortar.temp ∧
      0 < ((m.setCourse 0 fun k => { k with opp := 1 }).course 0).opp := by decide +kernel

theorem witness_LoopAndCalibrationRowsComplete_hold :
    let m := inP .compute (up.setLoop 0 fun l => { l with mism := 8, wstate := .locked })
    m.running = true ∧ m.inPhase .compute = true ∧ m.variant.loop 0 = true ∧ loopClass 0 ≠ some .monitor ∧ 8 ≤ (m.loop 0).mism ∧
      m.inHold 0 = false ∧ (m.loop 0).mode = .auto := by decide +kernel
theorem witness_LoopAndCalibrationRowsComplete_release :
    let m := up.setLoop 0 fun l => { l with causes := 2, calm := 1000, releases := [5, 1999000] }
    (m.loop 0).causes.getLsbD 1 = true ∧ 1000 ≤ (m.loop 0).calm ∧ ((m.loop 0).releasesAt m.tick.now).length < 3 := by
  decide +kernel
theorem witness_LoopAndCalibrationRowsComplete_trace :
    let t : Trace := { up.trowel.trace.get up.worker with state := .triggered, after := 4000, pre := 96 }
    let m := { up with trowel := { up.trowel with trace := up.trowel.trace.set up.worker t } }
    (m.trowel.trace.get m.worker).state = .triggered ∧ 4096 - (m.trowel.trace.get m.worker).pre ≤
      (m.trowel.trace.get m.worker).after := by decide +kernel
def flag5 : Mod := inP .boundary { up with cal := { up.cal with flagged := [(5, 1000000, 9)] } }
theorem witness_LoopAndCalibrationRowsComplete_cal :
    let m := up.setCalClass 3 fun x => { x with pending := [(0, 2)] }
    m.calGap 3 0 = true ∧ m.reinitOn 2 = false ∧ 3 < m.cal.classes.length ∧ up.cal.refAt = none ∧
      (inP .sense up).inPhase .sense = true ∧ (List.replicate 10 5).length = 10 := by decide +kernel
theorem witness_LoopAndCalibrationRowsComplete_final :
    let m := { up with cal := { up.cal with waiter := some (packetWaiter (pk []) 0x44, 63, 1900000) } }
    m.cal.waiter = some (packetWaiter (pk []) 0x44, 63, 1900000) ∧ 1900000 + 100000 ≤ m.tick.now := by decide +kernel
theorem witness_LoopAndCalibrationRowsComplete_sweep : flag5.inPhase .boundary = true ∧ flag5.driving = true ∧ flag5.freeTick = true ∧
    flag5.reinitOn 2 = false ∧ (∃ f ∈ flag5.cal.flagged, f.1 = 5) ∧ flag5.sweepAt 5 = none ∧ flag5.canStart 5 = true ∧
    Mod.inHold (flag5.setLoop 5 fun l => { l with wstate := .locked }) 5 = false ∧ 5 ∉ flag5.cal.lostFlag ∧
    (∃ f ∈ flag5.cal.flagged, f.1 = 5 ∧ f.2.1 + 10000 ≤ flag5.tick.now) := by decide +kernel
theorem witness_LoopAndCalibrationRowsComplete_lane :
    let m := { up.setLoop 6 fun l => { l with lockRun := 64, wstate := .locked, y := 1000000000 } with cal := up.cal }
    6 < m.variant.windowCount ∧ (m.loop 6).lockRun = 64 ∧ m.inAuto 6 = true ∧ (∀ f ∈ m.cal.flagged, f.1 ≠ 6) := by decide +kernel

/-- Lasers with number 3 at a mean bias of 0.01 mA. -/
def worn : List (Nat × Laser) := aput up.osc.lasers 3 { Laser.init 0 with bias := { samples := [(2000000, 1)] } }
def wornMod : Mod := { up with osc := { up.osc with spareAt := 0, lasers := worn } }
theorem witness_LaserAndSignalRowsComplete_handover :
    wornMod.driving = true ∧ wornMod.dieLink 2 = true ∧ wornMod.variant.laser 3 = true ∧ wornMod.aged 3 = true ∧
      wornMod.readySpare 3 = some 16 ∧ (wornMod.laser 3).switchAt = none := by
  refine ⟨by decide +kernel, by decide +kernel, by decide +kernel, ?_, by decide +kernel, by decide +kernel⟩
  have h1 : (wornMod.laser 3).role = 0 := by decide +kernel
  have h2 : wornMod.biasMean 3 = 1 := by decide +kernel
  have h3 : wornMod.osc.spareAt = 0 := rfl
  simp [Mod.aged, h1, h2, h3]
theorem witness_LaserAndSignalRowsComplete_failures :
    let m := { up with osc := { up.osc with lasers := aput up.osc.lasers 16 (.init 7) } }
    up.tick.running = true ∧ up.inService 3 = true ∧ up.inService 24 = true ∧ up.variant.laser 24 = true ∧ (m.laser 3).role = 0 ∧
      m.readySpare 3 = none ∧ up.readySpare 3 = some 16 ∧ (up.osc.lasers.all fun p => p.2.role != 2) = true := by decide +kernel
theorem witness_LaserAndSignalRowsComplete_eol :
    let x : Laser := { Laser.init 0 with bias := { samples := [(2000000, Config.laserEolBias 3)] } }
    let m := { up with osc := { up.osc with lasers := [(3, x)] } }
    Config.laserEolBias 3 ≤ m.biasMean 3 := by
  intro x m
  have h : m.laser 3 = x := rfl
  rw [Mod.biasMean, h]
  simp [x, m, sumN, up]
def portAs (f : Shutter → Shutter) : Mod :=
  { up.setShutter 9 f with fabric := { up.fabric with classes := [(9, 4)] } }
theorem witness_LaserAndSignalRowsComplete_ports :
    ((portAs fun h => { h with lowRun := 20 }).shutter 9).los = false ∧
    100 ≤ ((portAs fun h => { h with los := true, highRun := 100 }).shutter 9).highRun ∧
    (portAs fun h => { h with opening := true }).keepsOpen 9 = true ∧
    (portAs fun h => { h with los := true, closedAt := 1000000 }).mayEmit 9 = true ∧
    ((portAs fun h => { h with isOpen := true, pulse := some 1999800 }).shutter 9).pulse = some 1999800 := by decide +kernel

def neighAs (f : Neigh → Neigh) : Mod := up.setNeigh 9 f
theorem witness_NeighbourAndTimeRowsComplete_frames :
    let m := neighAs fun n => { n with aligned := true }
    let f : OscFrame := { port := 9, spacing := 2000, syncOk := true, errors := 33, payload := List.replicate 128 0, pdRx := 0 }
    m.running = true ∧ m.dieLink 2 = true ∧ (m.neigh 9).aligned = true ∧ OscFrame_ok f = false := by decide +kernel
/-- A frame with VERSION 1 and the check it needs. -/
def goodFrame : OscFrame :=
  let body : List Byte := 1 :: List.replicate 123 0
  { port := 9, spacing := 2000, syncOk := true, errors := 0, payload := body ++ le 4 (crc32c body).toNat, pdRx := 0 }
theorem witness_NeighbourAndTimeRowsComplete_good : OscFrame_ok goodFrame = true ∧ field goodFrame.payload 0 1 = 1 := by
  refine ⟨?_, by decide +kernel⟩
  have e : field goodFrame.payload 124 4 = (crc32c (1 :: List.replicate 123 0)).toNat :=
    (field_at_end (1 :: List.replicate 123 0) _).trans (Nat.mod_eq_of_lt (crc32c _).isLt)
  have t : goodFrame.payload.take 124 = 1 :: List.replicate 123 0 := List.take_left' rfl
  rw [OscFrame_ok, e, t]
  simp [goodFrame]
theorem witness_NeighbourAndTimeRowsComplete_neighbours :
    let last := [1, 2, 0, 0] ++ List.replicate 120 0
    let m := neighAs fun n => { n with sinceValid := 0, goodRun := 4, last := last }
    let u := neighAs fun n => { n with nstate := .up, sinceValid := 16, sameRun := 100000, last := last }
    (m.nstateOf 9 = .darkOsc ∧ (m.neigh 9).nstate ≠ .up ∧ 4 ≤ (m.neigh 9).goodRun) ∧
      (u.neigh 9).nstate = .up ∧ 16 ≤ (u.neigh 9).sinceValid ∧ (u.neigh 9).recorded ≠ some (identity (u.neigh 9).last) := by
  decide +kernel
theorem witness_NeighbourAndTimeRowsComplete_blink :
    let b : Blink := { waiter := packetWaiter (pk []) 0x32, scope := 8, start := 1998000, ticks := 100, base := [], runs := []
                       dark := 0, first := none }
    let m := inP .commit { up with osc := { up.osc with blink := some b } }
    m.afterCommit = true ∧ m.osc.blink = some b ∧ b.start + b.ticks ≤ m.tick.count := by decide +kernel
def timeAs (f : TimeSt → TimeSt) : Mod := { up with time := f up.time }
theorem witness_NeighbourAndTimeRowsComplete_time :
    (timeAs fun t => { t with fstate := 1, lockRun := 64 }).isRoot = false ∧
    8 ≤ (timeAs fun t => { t with fstate := 2, offRun := 8 }).time.offRun ∧
    (timeAs fun t => { t with upstream := some 9, fstate := 2 }).upstreamDue = some none ∧
    ppsGap ≤ diff64 (timeAs fun t => { t with ppsValid := true, ppsEdges := [0] }).tickTime 0 ∧
    (timeAs fun t => { t with ppsOut := some 1999990 }).time.ppsOut = some 1999990 ∧ up.ppsIn = false := by decide +kernel
theorem witness_NeighbourAndTimeRowsComplete_pps :
    (timeAs fun t => { t with cfg := 4, fstate := 2, fabric := 0, ppsLast := -1 }).time.cfg.getLsbD 2 = true ∧
    (timeAs fun t => { t with cfg := 4, fstate := 2, fabric := 0, ppsLast := -1 }).ppsDue.isSome = true := by decide +kernel
theorem witness_NeighbourAndTimeRowsComplete_launch :
    let l : Sched := { waiter := packetWaiter (pk []) 0x64, kind := 1, port := 0, instant := 0, accepted := 1, late := false
                       body := [], delayed := false }
    (inP .boundary (timeAs fun t => { t with fstate := 2, fabric := 0, sched := [l] })).inPhase .boundary = true ∧
    (inP .boundary (timeAs fun t => { t with fstate := 2, fabric := 0, sched := [l] })).nextLaunch = some l := by decide +kernel

theorem witness_FirmwareAndRecordRowsComplete_keys :
    let m := { up with sec := { up.sec with keysLeft := 256 } }
    m.sup.rails = true ∧ m.sec.batchReady = false ∧ 0 < m.sec.keysLeft ∧ m.sec.keysLeft ≤ 256 := by decide +kernel
theorem witness_FirmwareAndRecordRowsComplete_images :
    let m := { trial with sec := { trial.sec with cfg := 2, trialResets := 3, confirming := some none } }
    m.sec.cfg.getLsbD 1 = true ∧ m.onTrial = true ∧ m.sec.health = true ∧ m.running = true ∧ m.sec.confirming.isSome = true ∧
      m.sup.rails = true ∧ m.leaves.active.isSome = true ∧ 3 ≤ m.sec.trialResets := by decide +kernel
def stagedBuf : Buffer := { link := .a, session := 1, header := hdr, len := 8192, got := 8192, data := [] }
theorem witness_FirmwareAndRecordRowsComplete_write :
    ∃ b w, Sec.writing { up.sec with writing := some (stagedBuf, packetWaiter (pk []) 0x82) } = some (b, w) := ⟨_, _, rfl⟩
theorem witness_FirmwareAndRecordRowsComplete_relock :
    let m := { up with tick := { up.tick with now := 400000000 }, felso := { up.felso with unlocked := [(2, 5)] } }
    ∃ p ∈ m.felso.unlocked, p.1 = 2 ∧ p.2 + 360000000 ≤ m.tick.now := by decide +kernel
def rec1 : CRec := { seq := 1, aux := 5, tick := some 9, type := 0x40, origin := 0, data := [] }
theorem witness_FirmwareAndRecordRowsComplete_records :
    let m := { up with recs := { up.recs with queue := [rec1] } }
    m.sup.vaux = true ∧ m.die.up.getLsbD 0 = true ∧ m.recs.queue = rec1 :: [] ∧ m.recs.log.length < 65536 ∧ m.recs.dropped = 0 := by
  decide +kernel
theorem witness_FirmwareAndRecordRowsComplete_full :
    Records.log { up.recs with log := List.replicate 65536 rec1 } = List.replicate 65536 rec1 ∧
      (List.replicate 65536 rec1).length = 65536 := ⟨rfl, List.length_replicate⟩
theorem witness_FirmwareAndRecordRowsComplete_keyhole :
    let m := { up with keyhole := { up.keyhole with due := 1, frozen := some 5 }, tick := { up.tick with now := 7000000 } }
    m.tick.running = true ∧ m.keyhole.due ≠ 0 ∧ m.keyhole.ring.length < 4096 ∧ 5 + 6000000 ≤ m.tick.now := by decide +kernel

/-- A Felso transaction with the right CRC. -/
def tx (op : Nat) (addr data : Word) : FelsoTx :=
  { addr := addr, data := data, crc := felsoCrc op { addr := addr, data := data, crc := 0 } }
/-- Every target unlocked, course 3 selected and halted. -/
def open5 : Mod :=
  { up with felso := { up.felso with unlocked := [(0, 1999000), (1, 1999000), (2, 1999000), (3, 1999000)], core := 19, halted := [19] } }
theorem witness_FelsoTransactions_refused : up.serving up.felsoLeaf = true ∧
    felsoCrc 0x20 (tx 0x21 0 0) ≠ (tx 0x21 0 0).crc ∧ felsoCrc 0x20 (tx 0x20 0 0) = (tx 0x20 0 0).crc ∧
    up.isUnlocked up.coreTarget = false ∧ up.isUnlocked 0 = false ∧ 0x18 < (tx 0x01 0x10004 0).addr.toNat := by decide +kernel
theorem witness_FelsoTransactions_registers : open5.isUnlocked 0 = true ∧
    ((at0 open5).regValue open5.felsoLeaf (open5.selOf .felso) 0x40004).isSome = true ∧
    legal 0xA1 (open5.leaf open5.felsoLeaf).state = .a ∧
    Mod.writeBad { open5 with felso := { open5.felso with prevData := 0xFF } } open5.felso.sel 0x40004 1 0xFF = none := by
  decide +kernel
theorem witness_FelsoTransactions_cores : open5.isUnlocked (targetOfCore 19) = true ∧ open5.variant.core 19 = true ∧
    open5.coreBarred 19 = false ∧ open5.isUnlocked open5.coreTarget = true ∧ 19 ∈ open5.felso.halted ∧
    (0x40 : Word) ∉ open5.breaksOf 19 ∧ (open5.breaksOf 19).length < 8 ∧ open5.inSram 0x40 = true ∧
    open5.inSram 0xFFFFFFFC = false := by decide +kernel

/-! ### Hypotheses that can be met: Mortar instructions -/

/-- A legal word of an instruction: descriptors 1, 2, 3, or registers 5, 6, 7, wherever it uses a field. -/
def word (cls op : Nat) : MWord :=
  let u := useIn cls op {}
  let f (kind d r : Nat) : BitVec 8 := BitVec.ofNat 8 (if kind = fDesc then d else if kind = fReg then r else 0)
  { fmt := BitVec.ofNat 4 (lget 0 u.fmts 0), dst := f u.dst 1 5, srcA := f u.srcA 2 6, srcB := f u.srcB 3 7 }

/-- Course 0 works for a running job whose code is one word, with three small tensors in its SRAM. -/
def onCourse (cls op : Nat) (w : MWord) : Mod :=
  let t (a : Nat) : Desc := { addr := a, rows := 2, cols := 2, fmt := 0, expAddr := a + 64, accExp := 0 }
  ((with1 (job .running [0] [mortarWord cls op w])).setCourse 0 fun k =>
    { k with descs := [(1, t 0), (2, t 256), (3, t 512)] }).setDomain 0 fun d => { d with state := .on }
def ready (cls op : Nat) : Bool :=
  let w := word cls op
  let m := onCourse cls op w
  m.executes cls op 0 w && (m.tensorStop 0 [m.tensor 0 w.srcA 0, m.tensor 0 w.srcB 4, m.tensor 0 w.dst 4] [m.tensor 0 w.dst 4] == none)

theorem witness_MatrixAndVectorInstructionsComplete_0 : (List.range 10).all (ready 0) = true := by decide +kernel
theorem witness_MatrixAndVectorInstructionsComplete_1 : (List.range 20).all (ready 1) = true := by decide +kernel
theorem witness_FormatAndReductionInstructionsComplete_2 : (List.range 10).all (ready 2) = true := by decide +kernel
theorem witness_FormatAndReductionInstructionsComplete_3 : (List.range 12).all (ready 3) = true := by decide +kernel
theorem witness_FormatAndReductionInstructionsComplete_alone :
    let m := onCourse 3 11 (word 3 11)
    m.team 0 = [0] ∧ ((Mod.setCourse m 0 fun x => { x with wait := .barrier }).course 0).wait = .barrier := by decide +kernel
theorem witness_MemoryInstructionsComplete : (List.range 14).all (ready 4) = true := by decide +kernel
theorem witness_MemoryInstructionsComplete_dma :
    let m := onCourse 4 6 (word 4 6)
    let j := job .running [0] [mortarWord 4 6 (word 4 6)]
    let t : Dma := { tag := 0, into := true, desc := 1, tensor := m.desc 0 1, offset := 0, stride := none }
    m.jobOf 0 = some (0, j) ∧ t.tensor.inside j.sramLimit = true ∧ (∀ q ∈ dmaMap t, q.1 < j.region ∧ q.2 < j.sramLimit) ∧
      dmaMap t ≠ [] ∧ 8 * 0 + 8 ≤ m.sramLimit 0 ∧ m.sramLimit 0 < 8 * 0x2000 + 8 ∧
      (let b := m.tensor 0 3 4; ∀ v ∈ (List.range b.count).map (intElem (m.course 0).sram b), 0 ≤ v ∧ v < 4) := by
  decide +kernel
theorem witness_ControlInstructionsComplete_5 : (List.range 14).all (ready 5) = true := by decide +kernel
theorem witness_ControlInstructionsComplete_6 : ((List.range 9).all (ready 6)) = true ∧
    (onCourse 6 9 {}).issues 6 9 0 {} = true ∧ (onCourse 6 10 {}).issues 6 10 0 {} = true := by decide +kernel
theorem witness_ControlInstructionsComplete_flow :
    let m := (onCourse 5 5 {}).setCourse 0 fun k => { k with loopStack := [(0, 0, 2)], calls := [3], regs := [(6, 1)] }
    compares 0 0 0 = true ∧ compares 1 0 0 = false ∧ (m.course 0).calls.length < 16 ∧
      (m.course 0).loopStack = (0, 0, 2) :: [] ∧ (m.reg 0 6).toInt = 1 ∧ (m.reg 0 7).toInt < 1 ∧
      0 ≤ ((m.course 0).pc : Int) + (0 : BitVec 16).toInt ∧ (0 : Int) < (job .running [0] [mortarWord 5 5 {}]).codeWords := by
  decide +kernel

/-! ### Hypotheses that can be met: the machine as a whole -/

theorem witness_ElementsLatched : powerRow (.watchdog .a) = true ∧ ∃ t, exec (.watchdog .a) (at0 up) = .next t := ⟨rfl, _, rfl⟩
theorem witness_ReportsStayBetweenBoundaries :
    atBoundaryRow .overrunCauseSet = false ∧ ∃ t, exec .overrunCauseSet (at0 up) = .next t := ⟨rfl, _, rfl⟩
theorem witness_ReportedStateKept : State.reset.snap.leaves.moduleByte.get .a = State.reset.snap.byteOf .a ∧
    State.reset.snap.leaves.moduleByte.get .b = State.reset.snap.byteOf .b := by decide +kernel
theorem witness_SessionLimitKept : (at0 up).cur.sessionsOn .a = 1 ∧ (at0 up).cur.sessionsOn .b = 0 ∧
    (State.reset.mirror.sessionsOn .a) = 0 := by decide +kernel
theorem witness_steps : ∃ t, step { State.reset with pending := [.overrunCauseSet] } = .next t := ⟨_, rfl⟩

end Sys2Proof.Tests
end

section
/-! PROOFS. Fields are little-endian (R16), and what a write of ones does to a W1C register (R20). -/

namespace Sys2Proof.Machine

/-! ### Little-endian fields (R16) -/

@[simp] theorem le_length (n v : Nat) : (le n v).length = n := by
  induction n generalizing v with
  | zero => rfl
  | succ n ih => simp [le, ih]

/-- The byte at offset `i` is the byte of `v` at bit `8i`: each byte before it divides what is left by 256. -/
theorem le_getElem? (n v i : Nat) (h : i < n) : (le n v)[i]? = some (BitVec.ofNat 8 (v / 256 ^ i)) := by
  induction n generalizing v i with
  | zero => omega
  | succ n ih =>
    cases i with
    | zero =>
      have low : BitVec.ofNat 8 (v % 256) = BitVec.ofNat 8 v := BitVec.eq_of_toNat_eq (Nat.mod_mod v 256)
      simp [le, low]
    | succ i =>
      rw [le, List.getElem?_cons_succ, ih _ _ (by omega), Nat.div_div_eq_div_mul, ← Nat.pow_succ']

/-- Reading back `n` bytes gives the number they were written from, as far as `n` bytes hold it. -/
@[simp] theorem unle_le (n v : Nat) : unle (le n v) = v % 256 ^ n := by
  induction n generalizing v with
  | zero => simp [le, unle, Nat.mod_one]
  | succ n ih =>
    have low : (BitVec.ofNat 8 (v % 256)).toNat = v % 256 := Nat.mod_mod v 256
    rw [le, unle, ih, low, Nat.pow_succ', Nat.mod_mul]

/-- A slice that lies within the bytes is exactly the bytes there, with nothing padded. -/
theorem slice_append (a x b : List Byte) : slice (a ++ x ++ b) a.length x.length = x := by
  simp [slice, List.append_assoc]

theorem field_append_le (a b : List Byte) (n v : Nat) : field (a ++ le n v ++ b) a.length n = v % 256 ^ n := by
  have bytes : slice (a ++ le n v ++ b) a.length n = le n v := by
    simpa only [le_length] using slice_append a (le n v) b
  rw [field, bytes, unle_le]

/-- Settles O33: the bytes of `le` one by one, their count, and `unle` as its inverse at any offset. -/
theorem fieldsAreLittleEndian : Obligations.FieldsAreLittleEndian := by
  unfold Obligations.FieldsAreLittleEndian
  intro n v
  exact ⟨le_getElem? n v, le_length n v, fun a b => field_append_le a b n v⟩

/-! ### Sticky bits (R20) -/

/-- Writing 1 in the tick in which the hardware set the bits `b` leaves all of `b` set, and so the register as `put` left it. -/
theorem Sticky.write1_put_bits (k : Sticky) (b : Word) : ((k.put b).write1 b).bits = k.bits &&& ~~~b ||| b := by
  have kept (x f y : Bool) : ((x || y) && (!y || (f || y))) = (x && !y || y) := by
    cases y <;> simp
  apply BitVec.eq_of_getLsbD_eq
  intro i hi
  simp [Sticky.put, Sticky.write1, hi, kept]

/-- Once the tick is over nothing is fresh, and writing 1 clears `b`. -/
theorem Sticky.write1_settle_put_bits (k : Sticky) (b : Word) :
    ((k.put b).settle.write1 b).bits = k.bits &&& ~~~b := by
  have cleared (x y : Bool) : ((x || y) && !y) = (x && !y) := by
    cases y <;> simp
  apply BitVec.eq_of_getLsbD_eq
  intro i hi
  simp [Sticky.put, Sticky.settle, Sticky.write1, hi, cleared]

/-- Settles O31: each of the five registers is written by `Sticky.write1`, which spares only what is fresh. -/
theorem stickyBitsClear : Obligations.StickyBitsClear := by
  unfold Obligations.StickyBitsClear
  intro m sel w
  have sticks (k : Sticky) (b : Word) := And.intro (k.write1_put_bits b) (k.write1_settle_put_bits b)
  exact ⟨rfl, rfl, rfl, rfl, rfl, sticks⟩

end Sys2Proof.Machine
end

section
/-! PROOFS. The reports of the last boundary (R35): the commands that change the live module alone, and the state bytes. -/

namespace Sys2Proof.Machine

/-! ### Commands that change the live module alone -/

/-- Whatever next state an outcome gives, it differs from `s` in the live module alone: the report of the last boundary, the mirror
and the queue are those of `s`. -/
def LiveOnly (s : State) (o : Host.Outcome State Fault Refusal) : Prop :=
  ∀ t, o = .next t → ∃ m, t = { s with cur := m }

theorem liveOnly_next (s : State) (m : Mod) : LiveOnly s (.next { s with cur := m }) := by
  intro t h
  cases h
  exact ⟨m, rfl⟩

theorem happens_liveOnly (g : Mod → Bool) (f : Mod → Mod) (s : State) : LiveOnly s (happens g f s) := by
  cases h : g s.cur with
  | true => rw [happens_holds g f s h]; exact liveOnly_next s _
  | false => rw [happens_not g f s h]; exact liveOnly_next s s.cur

/-- Acceptance changes the live module alone, or hands over to the opcode's own step (R154). -/
theorem accept_cases (o : Op) (p : Packet) (run : Req → State → State) (s : State) :
    (∃ m, accept o p run s = { s with cur := m }) ∨
      accept o p run s = run (packetReq p o) { s with cur := s.cur.taken o p } := by
  unfold accept
  dsimp only
  split
  · exact .inl ⟨s.cur, rfl⟩
  split
  · exact .inl ⟨_, rfl⟩
  split
  · exact .inl ⟨_, rfl⟩
  split
  · exact .inl ⟨_, rfl⟩
  split
  · exact .inl ⟨_, rfl⟩
  · exact .inl ⟨_, rfl⟩
  split
  · exact .inl ⟨_, rfl⟩
  · exact .inr rfl

theorem accept_liveOnly (o : Op) (p : Packet) (run : Req → State → State) (s : State)
    (h : ∀ r s', LiveOnly s' (.next (run r s'))) : LiveOnly s (.next (accept o p run s)) := by
  obtain ⟨m, e⟩ | e := accept_cases o p run s
  · rw [e]
    exact liveOnly_next s m
  · rw [e]
    exact h _ { s with cur := s.cur.taken o p }

theorem commandM_liveOnly (code : Nat) (p : Packet) (run : Req → Mod → Mod) (s : State) :
    LiveOnly s (commandM code p run s) :=
  accept_liveOnly _ p _ s fun _ s' => liveOnly_next s' _

theorem query_liveOnly (code : Nat) (p : Packet) (f : Mod → Req → Mod → Mod) (s : State) :
    LiveOnly s (query code p f s) :=
  accept_liveOnly _ p _ s fun _ s' => liveOnly_next s' _

theorem vendorService_liveOnly (opcode : Byte) (p : Packet) (s : State) : LiveOnly s (execVendorService opcode p s) := by
  unfold execVendorService
  dsimp only
  split
  · exact liveOnly_next s s.cur
  split
  · intro t h
    cases h
  · exact accept_liveOnly _ p _ s fun _ s' => liveOnly_next s' s'.cur

theorem undefinedOpcode_liveOnly (opcode : Byte) (p : Packet) (s : State) :
    LiveOnly s (execUndefinedOpcode opcode p s) := by
  unfold execUndefinedOpcode
  dsimp only
  repeat' split
  all_goals exact liveOnly_next s _

theorem atEdge_liveOnly (g : Mod → Bool) (f : Mod → Mod) (s : State) : LiveOnly s (atEdge g f s) := happens_liveOnly _ f s

theorem control_liveOnly (cls op c : Nat) (w : MWord) (run : Mod → Ran) (s : State) :
    LiveOnly s (Machine.control cls op c w run s) := happens_liveOnly _ _ s

theorem instruct_liveOnly (cls op c : Nat) (w : MWord) (run : Mod → Ran) (s : State) :
    LiveOnly s (instruct cls op c w run s) := control_liveOnly cls op c w _ s

/-- A transaction of Felso changes the live module alone where its own step does. -/
theorem felso_liveOnly (op : Nat) (x : FelsoTx) (run : State → State) (s : State) (h : LiveOnly s (.next (run s))) :
    LiveOnly s (felso op x run s) := by
  obtain ⟨m, hm⟩ := h _ rfl
  unfold felso
  split
  · exact liveOnly_next s s.cur
  split
  · exact liveOnly_next s _
  · rw [hm]
    exact liveOnly_next s _

theorem keyholeSnapshot_liveOnly (s : State) : LiveOnly s (execKeyholeSnapshot s) := by
  unfold execKeyholeSnapshot
  exact happens_liveOnly _ _ s

/-- GUARD writes the mirror, so it is not among the commands that change the live module alone. -/
def mirrorRow : Instr → Bool
  | .guard _ => true
  | _ => false

theorem exec_liveOnly (c : Instr) (s : State) (hr : atBoundaryRow c = false) (hg : mirrorRow c = false) :
    LiveOnly s (exec c s) := by
  cases c <;> dsimp only [exec]
  case tickBoundary | warmResetStart | commitLaunch | regRead | felsoRegisterRead => cases hr
  case guard => cases hg
  case vendorService opcode p => exact vendorService_liveOnly opcode p s
  case undefinedOpcode opcode p => exact undefinedOpcode_liveOnly opcode p s
  case planQuery | circuitQuery | portQuery | neighbourQuery | traceRead | calQuery | jobQuery | fwQuery | powerQuery =>
    exact query_liveOnly _ _ _ s
  case nop | sessionOpen | sessionAuth | sessionClose | identify | attest | resultRead | eventSubscribe | resultRelease |
      circuitSet | circuitClear | planStage | planCommit | planAbort | planSolve | portClassSet | blinkOpen | loopMode |
      loopSetpoint | traceArm | calRun | jobLoad | jobStart | jobPause | jobResume | jobStop | timeQuery | hostTimeSet |
      timeRate | timeStep | launchSchedule | journalRead | cornerstoneRead | keyholeFreeze | keyholeRead | keyholeClear |
      fwStageBegin | fwStageData | fwStageEnd | fwConfirm | unlockChallenge | unlockResponse | keyEnrol | powerRequest |
      idleTimerSet | regWrite | functionReinit | warmReset | holdRelease | leafSwitch | recoveryEnter | fabricCfg |
      memsBudget | brickSelect | loopSelect | paramSelect | paramData | paramApply | expSelect | expData | mortarCfg |
      guardCfg | calCfg | laserCfg | laserSelect | shutterForce | timeCfg | fabricId | powerCfg | idleTicks | leafCfg |
      secCfg | keyholeCfg | keyholeIndex | keyholeAddr | keyholeTrigger | channelSelect =>
    exact commandM_liveOnly _ _ _ s
  case felsoRegisterWrite | felsoStatus | selectCore | felsoHalt | felsoResume | felsoStep | setBreakpoint |
      clearBreakpoint | memoryRead | memoryWrite =>
    exact felso_liveOnly _ _ _ s (liveOnly_next s _)
  case mma | mmat | mmaw | mmas | mmad | mmax | outer | conv1 | accz | accset | vadd | vsub | vmul | vfma | vmax | vmin | vabs |
      vneg | vclamp | vrcp | vrsq | vexp2 | vlog2 | vcmp | vsel | vand | vor | vxor | vshl | vshr | qnt | reqnt | expal | dqnt |
      cvtfi | cvtif | exprd | expwr | pack | unpack | rsumr | rsumc | rmaxr | rminr | rargmax | rargmin | pscan |
      ld | st | lds | sts | copy | fill | dmain | dmaout | dma2d | dmawait | gather | scatter | scatadd |
      snap | setr | addr | mulr | cmpr | tdesc | waitd | yield | gcfg | gstat | flagclr | tickrd | perf | rng | prop | instrNop =>
    exact instruct_liveOnly _ _ _ _ _ s
  case xred | xredo | xbcast | xgath | xbar | br | brc | call | ret | loop | endl | halt | trap | ffin | ffout =>
    exact control_liveOnly _ _ _ _ _ s
  case engineCommit | detProfileChange | scheduledLaunch | revert | refclkReturn | clockMove => exact atEdge_liveOnly _ _ s
  case keyholeSnapshot => exact keyholeSnapshot_liveOnly s
  all_goals exact happens_liveOnly _ _ s

/-- GUARD leaves the report. -/
theorem guard_snap (ok : Bool) (s t : State) (h : exec (.guard ok) s = .next t) : t.snap = s.snap := by
  simp only [exec, execGuard, Host.Outcome.next.injEq] at h
  subst h
  split <;> rfl

/-- Settles O57: a command that is no row of a boundary is GUARD, or changes the live module alone. -/
theorem reportsStayBetweenBoundaries : Obligations.ReportsStayBetweenBoundaries := by
  unfold Obligations.ReportsStayBetweenBoundaries
  intro c s t h hr
  cases hg : mirrorRow c with
  | true =>
    cases c <;> cases hg
    exact ⟨guard_snap _ s t h, fun hne => absurd rfl (hne _)⟩
  | false =>
    obtain ⟨m, rfl⟩ := exec_liveOnly c s hr hg t h
    exact ⟨rfl, fun _ => rfl⟩

/-! ### The reported state bytes -/

/-- The state bytes that a report carries are those of its leaves. -/
def Mod.bytesReported (m : Mod) : Prop := ∀ i : Side, m.leaves.moduleByte.get i = m.byteOf i

theorem reportBytes_bytesReported (m : Mod) : m.reportBytes.bytesReported := by
  intro i
  cases i <;> rfl

theorem boundary_bytesReported (aux power : Nat) (b m : Mod) : (boundary aux power b m).bytesReported :=
  reportBytes_bytesReported _

theorem warmReset_bytesReported (cause : Nat) (b : BootIn) (m : Mod) : (warmReset cause b m).bytesReported :=
  reportBytes_bytesReported _

/-- The state bytes of a report rest on its leaves alone. -/
theorem bytesReported_congr {m n : Mod} (hl : n.leaves.leaf = m.leaves.leaf) (hb : n.leaves.moduleByte = m.leaves.moduleByte)
    (h : m.bytesReported) : n.bytesReported := by
  intro i
  have l : n.leaf i = m.leaf i := congrArg (·.get i) hl
  have e : n.byteOf i = m.byteOf i := by rw [Mod.byteOf, Mod.byteOf, l]
  rw [hb, e]
  exact h i

theorem foldl_setCalClass_leaves (f : Nat → CalClass → CalClass) (l : List Nat) (m : Mod) :
    (l.foldl (fun m c => m.setCalClass c (f c)) m).leaves = m.leaves := by
  induction l generalizing m with
  | nil => rfl
  | cons c l ih => rw [List.foldl_cons, ih, setCalClass_leaves]

/-- A clear of RC fields leaves the leaves' states and the state bytes as they were. -/
theorem clearRc_bytesReported (m ref : Mod) (mirror : Bool) (sel : Selects) (a : Nat) (h : m.bytesReported) :
    (m.clearRc ref mirror sel a).bytesReported := by
  unfold Mod.clearRc
  dsimp only
  split
  case h_11 =>
    have e := foldl_setCalClass_leaves (fun c k => { k with rc := k.rc - (ref.calClass c).rc }) (List.range 6) m
    exact bytesReported_congr (congrArg _ e) (congrArg _ e) h
  all_goals exact bytesReported_congr rfl rfl h

/-- What a register read leaves of the report: it clears RC fields there at most. -/
theorem readClears_bytesReported (s : State) (i : Side) (sel : Selects) (a : Nat) (h : s.snap.bytesReported) :
    (s.readClears i sel a).snap.bytesReported := by
  unfold State.readClears
  split
  · exact h
  split
  · split
    · exact clearRc_bytesReported _ _ _ _ _ h
    split
    · exact h
    · exact h
  · exact clearRc_bytesReported _ _ _ _ _ h

theorem readReg_bytesReported (s : State) (acc : Accessor) (i : Side) (a : Nat) (h : s.snap.bytesReported) :
    (s.readReg acc i a).2.snap.bytesReported := by
  unfold State.readReg
  dsimp only
  split
  · exact h
  · exact readClears_bytesReported _ i _ a h

theorem readRegs_bytesReported (acc : Accessor) (i : Side) (l : List Nat) (s : State) (h : s.snap.bytesReported) :
    (s.readRegs acc i l).2.snap.bytesReported := by
  induction l generalizing s with
  | nil => exact h
  | cons a l ih => exact ih _ (readReg_bytesReported s acc i a h)

theorem runRegRead_bytesReported (r : Req) (s : State) (h : s.snap.bytesReported) : (runRegRead r s).snap.bytesReported := by
  unfold runRegRead
  dsimp only
  split
  · exact h
  split
  · exact h
  split
  · exact h
  split
  · exact h
  · exact readRegs_bytesReported _ _ _ s h

theorem felsoRead_bytesReported (x : FelsoTx) (s : State) (h : s.snap.bytesReported) :
    (felsoRead x s).snap.bytesReported := by
  unfold felsoRead
  dsimp only
  split
  · exact h
  split
  · exact h
  · exact readReg_bytesReported s _ _ _ h

theorem tickBoundary_bytesReported (aux power : Nat) (s t : State) (h : s.snap.bytesReported)
    (e : execTickBoundary aux power s = .next t) : t.snap.bytesReported := by
  simp only [execTickBoundary, Host.Outcome.next.injEq] at e
  subst e
  split
  · exact boundary_bytesReported aux power s.snap s.cur
  · exact h

theorem warmResetStart_bytesReported (b : BootIn) (s t : State) (h : s.snap.bytesReported)
    (e : execWarmResetStart b s = .next t) : t.snap.bytesReported := by
  unfold execWarmResetStart at e
  split at e
  · split at e
    · next c _ _ =>
      obtain rfl := Host.Outcome.next.inj e
      exact warmReset_bytesReported c b s.cur
    · obtain rfl := Host.Outcome.next.inj e
      exact h
  · obtain rfl := Host.Outcome.next.inj e
    exact h

theorem commitLaunch_bytesReported (prefer bad : List Nat) (s t : State) (h : s.snap.bytesReported)
    (e : execCommitLaunch prefer bad s = .next t) : t.snap.bytesReported := by
  simp only [execCommitLaunch, Host.Outcome.next.injEq] at e
  subst e
  split
  · exact bytesReported_congr rfl rfl (reportBytes_bytesReported _)
  · exact h

theorem regRead_bytesReported (p : Packet) (s t : State) (h : s.snap.bytesReported)
    (e : execRegRead p s = .next t) : t.snap.bytesReported := by
  simp only [execRegRead, command, Host.Outcome.next.injEq] at e
  subst e
  obtain ⟨m, e⟩ | e := accept_cases (opRow 0xA0) p runRegRead s
  · rw [e]
    exact h
  · rw [e]
    exact runRegRead_bytesReported _ { s with cur := s.cur.taken (opRow 0xA0) p } h

theorem felsoRegisterRead_bytesReported (x : FelsoTx) (s t : State) (h : s.snap.bytesReported)
    (e : execFelsoRegisterRead x s = .next t) : t.snap.bytesReported := by
  simp only [execFelsoRegisterRead, felso, Host.Outcome.next.injEq] at e
  subst e
  split
  · exact h
  split
  · exact h
  · exact felsoRead_bytesReported x s h

/-- Every command keeps the reported bytes those of the reported leaves. -/
theorem exec_bytesReported (c : Instr) (s t : State) (h : s.snap.bytesReported) (e : exec c s = .next t) :
    t.snap.bytesReported := by
  cases hr : atBoundaryRow c with
  | false =>
    rw [(reportsStayBetweenBoundaries c s t e hr).1]
    exact h
  | true =>
    cases c
    case tickBoundary aux power => exact tickBoundary_bytesReported aux power s t h e
    case warmResetStart b => exact warmResetStart_bytesReported b s t h e
    case commitLaunch prefer bad => exact commitLaunch_bytesReported prefer bad s t h e
    case regRead p => exact regRead_bytesReported p s t h e
    case felsoRegisterRead x => exact felsoRegisterRead_bytesReported x s t h e
    all_goals cases hr

/-- Bits 6 to 4 of a state byte are clear: a state code takes bits 2 to 0, and the degraded condition bit 7 (R42). -/
theorem byteOf_bits (m : Mod) (i : Side) : BitVec.ofNat 8 (m.byteOf i) &&& 0x70 = 0 := by
  unfold Mod.byteOf
  dsimp only
  cases (m.leaf i).state <;> split <;> decide

/-- Settles O58: a report that changes is written with its bytes, or keeps its bytes and its leaves. -/
theorem reportedStateKept : Obligations.ReportedStateKept := by
  unfold Obligations.ReportedStateKept
  intro s t h e
  have h : s.snap.bytesReported := h
  have kept : t.snap.bytesReported := by
    unfold step at e
    split at e
    · cases e
      exact h
    · next c q _ => exact exec_bytesReported c { s with pending := q } t h e
  refine ⟨kept, fun i => ?_⟩
  rw [kept i]
  exact byteOf_bits t.snap i

end Sys2Proof.Machine
end

section
/-! PROOFS. Commands that take effect at the next boundary (R34, R155): where their own checks pass, each is accepted and waits. -/

namespace Sys2Proof.Machine

/-- An admitted command whose own step does what `g` does leaves the state as `g` does. -/
theorem commandM_runs (code : Nat) (p : Packet) (run g : Req → Mod → Mod) (s : State)
    (ha : s.cur.admits (opRow code) p = true)
    (he : run (packetReq p (opRow code)) (s.cur.taken (opRow code) p) =
      g (packetReq p (opRow code)) (s.cur.taken (opRow code) p)) :
    commandM code p run s = .next (s.ran code p g) := by
  rw [commandM_admitted p s code run ha, State.ran, State.ran, he]

section
variable (r : Req) (m : Mod)

/-! ### Each command's own checks passed -/

theorem runPortClassSet_later (h : sized r.payload 5 = true) (hf : field r.payload 0 2 < 512)
    (hr : portRange (field r.payload 0 2) (field r.payload 2 2) = true) (hc : field r.payload 4 1 ≤ 4) :
    runPortClassSet r m = later r (.portClass (field r.payload 0 2) (field r.payload 2 2) (field r.payload 4 1)) m := by
  simp [runPortClassSet, h, hr, Nat.not_le.mpr hf, Nat.not_lt.mpr hc]

theorem runLoopMode_later (h : sized r.payload 12 = true) (hz : zeros r.payload 5 3 = true)
    (hk : m.loopCheck (field r.payload 0 4) = none) (hm : field r.payload 4 1 ≤ 2)
    (hmon : loopClass (field r.payload 0 4) = some .monitor → field r.payload 4 1 = 0)
    (hout : field r.payload 4 1 = 1 →
      fieldS r.payload 8 4 = keepOutput ∨ m.outputOk (field r.payload 0 4) (fieldS r.payload 8 4) = true)
    (hc : m.loopConflict (field r.payload 0 4) = false) :
    runLoopMode r m = later r (.loopMode (field r.payload 0 4) (field r.payload 4 1) (fieldS r.payload 8 4))
      (if field r.payload 0 4 < 7616 then m.wake (bankCode (field r.payload 0 4)) else m) := by
  have mode : ¬ (2 < field r.payload 4 1 ∨ loopClass (field r.payload 0 4) = some .monitor ∧ field r.payload 4 1 ≠ 0) := by
    rintro (hlt | ⟨hcls, hne⟩)
    · omega
    · exact hne (hmon hcls)
  have out : ¬ (field r.payload 4 1 = 1 ∧ fieldS r.payload 8 4 ≠ keepOutput ∧
      (!m.outputOk (field r.payload 0 4) (fieldS r.payload 8 4)) = true) := by
    rintro ⟨h1, hne, hbad⟩
    rcases hout h1 with he | hok
    · exact hne he
    · simp [hok] at hbad
  simp only [runLoopMode, h, hz, hk, if_neg mode, if_neg out, hc, Bool.not_true, Bool.false_eq_true, ↓reduceIte]

theorem runLoopSetpoint_later (h : sized r.payload 8 = true) (hk : m.loopCheck (field r.payload 0 4) = none)
    (hmon : loopClass (field r.payload 0 4) ≠ some .monitor)
    (hv : setpointOk (field r.payload 0 4) (fieldS r.payload 4 4) = true)
    (hc : m.loopConflict (field r.payload 0 4) = false) :
    runLoopSetpoint r m = later r (.loopSetpoint (field r.payload 0 4) (fieldS r.payload 4 4))
      (if field r.payload 0 4 < 7616 then m.wake (bankCode (field r.payload 0 4)) else m) := by
  simp [runLoopSetpoint, h, hk, hmon, hv, hc]

theorem runHostTimeSet_later (h : sized r.payload 12 = true) (hns : timeNsOk r.payload 0 = true)
    (hset : m.time.hostSet = true → m.time.rebased.bits.getLsbD 11 = true) (hdue : m.hostSetDue = false) :
    runHostTimeSet r m = later r (.hostTimeSet (timeAt r.payload 0)) m := by
  have free : (m.time.hostSet && !m.time.rebased.bits.getLsbD 11) = false := by
    cases hs : m.time.hostSet with
    | false => rfl
    | true => rw [hset hs]; rfl
  simp only [runHostTimeSet, h, hns, free, hdue, Bool.not_true, Bool.or_self, Bool.false_eq_true, ↓reduceIte]

theorem runTimeRate_later (h : sized r.payload 8 = true) (hb : field r.payload 0 1 ≤ 1) (hz : zeros r.payload 1 3 = true)
    (hlo : -200000 ≤ fieldS r.payload 4 4) (hhi : fieldS r.payload 4 4 ≤ 200000)
    (hroot : field r.payload 0 1 = 0 → m.isRoot = true ∧ m.ppsIn = false) :
    runTimeRate r m = later r (.timeRate (field r.payload 0 1) (fieldS r.payload 4 4)) m := by
  have base : ¬ (field r.payload 0 1 = 0 ∧ ((!m.isRoot) = true ∨ m.ppsIn = true)) := by
    rintro ⟨h0, hno⟩
    simp [hroot h0] at hno
  simp only [runTimeRate, h, hz, if_neg (Nat.not_lt.mpr hb), if_neg (not_or.mpr ⟨Int.not_lt.mpr hlo, Int.not_lt.mpr hhi⟩),
    if_neg base, Bool.not_true, Bool.false_eq_true, ↓reduceIte]

theorem runTimeStep_host (h : sized r.payload 16 = true) (hz : zeros r.payload 1 3 = true)
    (hns : timeNsOk r.payload 4 = true) (hb : field r.payload 0 1 = 1) (hset : m.time.hostSet = true) :
    runTimeStep r m = later r (.timeStep 1 (timeAtS r.payload 4)) m := by
  simp [runTimeStep, h, hz, hns, hb, hset]

theorem runTimeStep_root (h : sized r.payload 16 = true) (hz : zeros r.payload 1 3 = true)
    (hns : timeNsOk r.payload 4 = true) (hb : field r.payload 0 1 = 0) (hroot : m.isRoot = true)
    (hst : m.time.fstate ≠ 0) :
    runTimeStep r m = later r (.timeStep 0 (timeAtS r.payload 4)) m := by
  simp [runTimeStep, h, hz, hns, hb, hroot, hst]

theorem runTimeStep_follower (h : sized r.payload 16 = true) (hz : zeros r.payload 1 3 = true)
    (hns : timeNsOk r.payload 4 = true) (hb : field r.payload 0 1 = 0) (hroot : m.isRoot = false)
    (h0 : timeAtS r.payload 4 = 0) (hup : m.time.upstream ≠ none) :
    runTimeStep r m = later r (.timeStep 0 0) m := by
  simp [runTimeStep, h, hz, hns, hb, hroot, h0, hup]

theorem runKeyholeFreeze_later (h : sized r.payload 1 = true) (hf : field r.payload 0 1 ≤ 1) :
    runKeyholeFreeze r m = later r (.keyholeFreeze (field r.payload 0 1 == 1)) m := by
  simp [runKeyholeFreeze, h, Nat.not_lt.mpr hf]

theorem runIdleTimerSet_later (h : sized r.payload 8 = true) (hc : field r.payload 0 1 ≤ 2) (hz : zeros r.payload 1 3 = true)
    (hok : idleOk (field r.payload 0 1) (field r.payload 4 4) = true)
    (hw : field r.payload 0 1 = 2 → m.variant.windows = true) :
    runIdleTimerSet r m = later r (.idleTimer (field r.payload 0 1) (field r.payload 4 4)) m := by
  simp +contextual [runIdleTimerSet, h, hz, hok, Nat.not_lt.mpr hc, hw]

theorem runPlanAbort_later (q : Plan) (h : sized r.payload 4 = true) (hp : m.plan (wordAt r.payload 0) = some q)
    (hq : q.state ≠ .checking) : runPlanAbort r m = later r (.abortRun (wordAt r.payload 0)) m := by
  simp [runPlanAbort, h, hp, hq]

theorem runHoldRelease_refused (h : r.payload = []) (hold : m.holdNow ≠ 0 ∨ m.leaves.wantHold = true) :
    runHoldRelease r m = refuse r eSAFETY plain m := by
  simp only [runHoldRelease, h, ne_eq, not_true_eq_false, ↓reduceIte, if_pos hold]

theorem runHoldRelease_later (h : r.payload = []) (hn : m.holdNow = 0) (hw : m.leaves.wantHold = false) :
    runHoldRelease r m = later r .holdRelease m := by
  simp [runHoldRelease, h, hn, hw]

end

/-! ### The commands -/

/-- Settles O18: an admitted packet runs its opcode's own step, and each step that its checks let pass ends in `later`. -/
theorem deferredCommandsComplete : Obligations.DeferredCommandsComplete := by
  unfold Obligations.DeferredCommandsComplete
  intro s p
  refine ⟨?portClassSet, ?loopMode, ?loopSetpoint, ?hostTimeSet, ?timeRate, ?timeStep, ?keyholeFreeze, ?idleTimerSet, ?planAbort⟩
  case portClassSet =>
    intro ha h hf hr hc
    exact commandM_runs 0x30 p _ _ s ha (runPortClassSet_later _ _ h hf hr hc)
  case loopMode =>
    intro ha h hz hk hm hmon hout hc
    exact commandM_runs 0x40 p _ _ s ha (runLoopMode_later _ _ h hz hk hm hmon hout hc)
  case loopSetpoint =>
    intro ha h hk hmon hv hc
    exact commandM_runs 0x41 p _ _ s ha (runLoopSetpoint_later _ _ h hk hmon hv hc)
  case hostTimeSet =>
    intro ha h hns hset hdue
    exact commandM_runs 0x61 p _ _ s ha (runHostTimeSet_later _ _ h hns hset hdue)
  case timeRate =>
    intro ha h hb hz hlo hhi hroot
    exact commandM_runs 0x62 p _ _ s ha (runTimeRate_later _ _ h hb hz hlo hhi hroot)
  case timeStep =>
    intro ha h hz hns
    refine ⟨fun hb hset => ?_, fun hb hroot hst => ?_, fun hb hroot h0 hup => ?_⟩
    · exact commandM_runs 0x63 p _ _ s ha (runTimeStep_host _ _ h hz hns hb hset)
    · exact commandM_runs 0x63 p _ _ s ha (runTimeStep_root _ _ h hz hns hb hroot hst)
    · exact commandM_runs 0x63 p _ _ s ha (runTimeStep_follower _ _ h hz hns hb hroot h0 hup)
  case keyholeFreeze =>
    intro ha h hf
    exact commandM_runs 0x72 p _ _ s ha (runKeyholeFreeze_later _ _ h hf)
  case idleTimerSet =>
    intro ha h hc hz hok hw
    exact commandM_runs 0x92 p _ _ s ha (runIdleTimerSet_later _ _ h hc hz hok hw)
  case planAbort =>
    intro q ha h hp hq
    exact commandM_runs 0x14 p _ _ s ha (runPlanAbort_later _ _ q h hp hq)

/-! ### HOLD_RELEASE (R44) -/

/-- A role that the session covers and that is below the opcode's minimum is ROLE_LOW (R150). -/
theorem headerCheck_roleLow (o : Op) (p : Packet) (m : Mod) (t : Session) (hv : p.version = 1) (hc : packetClean p = true)
    (hl : p.len8.toNat ≤ 8192) (ho : o.code ≠ 1) (hs : p.session ≠ 0) (ht : m.session p.link p.session = some t)
    (hr : p.role.toNat % 8 ≤ t.role) (hlow : p.role.toNat % 8 < minRole o p.payload) :
    headerCheck o p m = some (eAUTH, detail 8 noField noIndex) := by
  have hs : ¬ p.session = 0#32 := hs
  simp [headerCheck, hv, hc, Nat.not_lt.mpr hl, ho, hs, ht, Nat.not_lt.mpr hr, hlow]

/-- Settles O20: the role is step 5 of acceptance, the causes are the command's own check. -/
theorem holdReleaseGuarded : Obligations.HoldReleaseGuarded := by
  unfold Obligations.HoldReleaseGuarded
  intro s p
  refine ⟨?low, fun ha hp => ⟨fun hold => ?refused, fun hn hw => ?waits⟩⟩
  case low =>
    rintro ht hc hv hclean hl hs ⟨t, hsess, hr⟩ hlow
    have role : p.role.toNat % 8 = p.role.toNat := Nat.mod_eq_of_lt (by omega)
    have least : minRole (opRow 0xA4) p.payload = 3 := rfl
    have check : headerCheck (opRow 0xA4) p (s.cur.credited p) = some (eAUTH, detail 8 noField noIndex) :=
      headerCheck_roleLow (opRow 0xA4) p _ t hv hclean hl (by decide) hs hsess (by rwa [role]) (by rwa [role, least])
    exact congrArg Host.Outcome.next (accept_header (opRow 0xA4) p _ s _ _ ht hc check)
  case refused => exact commandM_runs 0xA4 p _ _ s ha (runHoldRelease_refused _ _ hp hold)
  case waits => exact commandM_runs 0xA4 p _ _ s ha (runHoldRelease_later _ _ hp hn hw)

end Sys2Proof.Machine
end

section
/-! PROOFS. TICK_OVERRUN (R39) and the reference clock (R31, R458). -/

namespace Sys2Proof.Machine

/-- Turning a bit that is clear sets it. -/
theorem xor_one_of_clear (c : Word) (h : c.getLsbD 0 = false) : c ^^^ 1 = c ||| 1 := by
  ext i hi
  cases i <;> simp_all

/-- Turning a bit that is set clears it. -/
theorem xor_one_of_set (c : Word) (h : c.getLsbD 0 = true) : c ^^^ 1 = c &&& ~~~1 := by
  apply BitVec.eq_of_getLsbD_eq
  intro i hi
  rw [BitVec.getLsbD_xor, BitVec.getLsbD_and, BitVec.getLsbD_not, show (1 : Word) = 1#32 from rfl, BitVec.getLsbD_one]
  cases i <;> simp_all

/-- Where its condition does not hold at a boundary, an event of the boundary changes nothing. -/
theorem atEdge_not (g : Mod → Bool) (f : Mod → Mod) (s : State) (h : g s.cur = false) : atEdge g f s = .next s :=
  happens_not _ f s (by rw [h, Bool.and_false])

/-- Where it holds at a boundary, it changes the live module as it says. -/
theorem atEdge_holds (g : Mod → Bool) (f : Mod → Mod) (s : State) (hb : s.cur.inPhase .boundary = true) (h : g s.cur = true) :
    atEdge g f s = .next { s with cur := f s.cur } :=
  happens_holds _ f s (by rw [hb, h, Bool.and_self])

/-- Settles O35: each row is an event whose condition the hypotheses decide. -/
theorem overrunAndClockRowsComplete : Obligations.OverrunAndClockRowsComplete := by
  unfold Obligations.OverrunAndClockRowsComplete
  dsimp only [exec, execOverrunCauseSet, execRefclkLoss, execRefclkReturn, execClockMove]
  refine ⟨fun s ht => ⟨?sets, ?clears, ?carries, ?clean⟩, fun s ht => ⟨?lostLate, ?lostInBoot, ?returns, ?moves, ?sooner⟩⟩
  case sets =>
    intro hc hn
    exact ⟨_, happens_holds _ _ s (by simp only [ht, hc, hn, decide_true, Bool.false_eq_true, ↓reduceIte, Bool.and_self]),
      xor_one_of_clear _ hc⟩
  case clears =>
    intro hc hn
    exact ⟨_, happens_holds _ _ s (by simp only [ht, hc, hn, decide_true, ↓reduceIte, Bool.and_self]), xor_one_of_set _ hc⟩
  case carries =>
    intro hc hn
    refine happens_not _ _ s ?_
    simp only [hc, Nat.not_le.mpr hn, decide_false, Bool.false_eq_true, ↓reduceIte, Bool.and_false]
  case clean =>
    intro hc hn
    refine happens_not _ _ s ?_
    simp only [hc, Nat.not_le.mpr hn, decide_false, ↓reduceIte, Bool.and_false]
  case lostLate =>
    intro hb
    rw [happens_holds _ _ s ht]
    exact congrArg (Host.Outcome.next { s with cur := · }) (if_pos hb)
  case lostInBoot =>
    intro hb
    rw [happens_holds _ _ s ht]
    exact congrArg (Host.Outcome.next { s with cur := · }) (if_neg (Bool.not_eq_true _ ▸ hb))
  case returns =>
    intro hb hr hc
    exact atEdge_holds _ _ s hb (by simp only [hr, hc, decide_true, Bool.and_self])
  case moves =>
    intro hb hr hc hm
    refine atEdge_holds _ _ s hb ?_
    obtain ⟨hs, hk⟩ | ⟨hs, hk⟩ := hm <;>
      simp only [hr, hc, hs, hk, decide_true, Bool.not_false, Bool.and_self, Bool.true_or, Bool.or_true]
  case sooner =>
    intro hr
    refine ⟨atEdge_not _ _ s ?_, atEdge_not _ _ s ?_⟩ <;>
      simp only [Nat.not_le.mpr hr, decide_false, Bool.false_and]

end Sys2Proof.Machine
end

section
/-! PROOFS. The phases of a tick (R30, R32): what the operations of a phase leave of the tick's own state. -/

namespace Sys2Proof.Machine

/-! ### Folds -/

/-- What each step of a fold keeps, the fold keeps. -/
theorem foldl_keeps {α β γ : Type} (g : β → γ) (f : β → α → β) (h : ∀ b a, g (f b a) = g b) (l : List α) (b : β) :
    g (l.foldl f b) = g b := by
  induction l generalizing b with
  | nil => rfl
  | cons a l ih => rw [List.foldl_cons, ih, h]

/-! ### Events -/

theorem eventTo_changes (m : Mod) (cls : Nat) (body : List Byte) (s : Session) :
    ∃ l h t, m.eventTo cls body s = { m with links := l, held := h, sessions := t } := by
  unfold Mod.eventTo
  split
  · exact ⟨m.links, m.held, _, rfl⟩
  · obtain ⟨l, h, t, e⟩ := emit_changes (m.setSession s.link s.id fun t => { t with evSeq := t.evSeq + 1 }) s.link _
    exact ⟨l, h, t, e⟩

/-- An event changes the links, what is marked as seen, and the sessions' event counts. -/
theorem eventIf_changes (m : Mod) (g : Session → Bool) (cls : Nat) (body : List Byte) :
    ∃ l h t, m.eventIf g cls body = { m with links := l, held := h, sessions := t } := by
  unfold Mod.eventIf
  generalize m.sessions.filter _ = ss
  induction ss generalizing m with
  | nil => exact ⟨m.links, m.held, m.sessions, rfl⟩
  | cons s ss ih =>
    obtain ⟨l, h, t, e⟩ := eventTo_changes m cls body s
    obtain ⟨l', h', t', e'⟩ := ih (m.eventTo cls body s)
    exact ⟨l', h', t', by rw [List.foldl_cons, e', e]⟩

theorem event_changes (m : Mod) (cls : Nat) (body : List Byte) :
    ∃ l h t, m.event cls body = { m with links := l, held := h, sessions := t } := eventIf_changes m _ cls body

theorem event3_changes (m : Mod) (p cause : Nat) (data : List Byte) :
    ∃ l h t, m.event3 p cause data = { m with links := l, held := h, sessions := t } := event_changes m 3 _

theorem pump_changes (m : Mod) (i : Side) : ∃ l h t, m.pump i = { m with links := l, held := h, sessions := t } :=
  sendAll_changes i _ m

/-! ### The shared operations leave the tick -/

section
variable (m : Mod)

/-- The tick of a choice is that of the module chosen. -/
@[simp] theorem ite_tick (c : Prop) [Decidable c] (n : Mod) : (if c then m else n).tick = if c then m.tick else n.tick :=
  apply_ite Mod.tick c m n

@[simp] theorem pump_tick (i : Side) : (m.pump i).tick = m.tick := by
  obtain ⟨l, h, t, e⟩ := pump_changes m i
  rw [e]

@[simp] theorem event_tick (cls : Nat) (body : List Byte) : (m.event cls body).tick = m.tick := by
  obtain ⟨l, h, t, e⟩ := event_changes m cls body
  rw [e]

@[simp] theorem event3_tick (p cause : Nat) (data : List Byte) : (m.event3 p cause data).tick = m.tick := event_tick m 3 _

@[simp] theorem record_tick (ty origin : Nat) (data : List Byte) : (m.record ty origin data).tick = m.tick := by
  obtain ⟨r, e⟩ := record_changes m ty origin data
  rw [e]

@[simp] theorem done_tick (w : Waiter) (st : Nat) (pl : List Byte) : (m.done w st pl).tick = m.tick := by
  obtain ⟨l, h, t, d, e⟩ := done_changes m w st pl
  rw [e]

/-! ### Sense -/

@[simp] theorem seeEpochs_tick (i : Side) (got : List Nat) : (m.seeEpochs i got).tick = m.tick := by
  unfold Mod.seeEpochs
  dsimp only
  split <;> rfl

@[simp] theorem countSilent_tick (got carried : List Nat) : (m.countSilent got carried).tick = m.tick := by
  unfold Mod.countSilent
  exact foldl_keeps Mod.tick _ (fun m k => setSill_tick m k _) _ m

@[simp] theorem portReading_tick (got : List Nat) (ports : List PortReading) (p : Nat) :
    (Mod.portReading got ports m p).tick = m.tick := by
  unfold Mod.portReading
  cases h : m.osc.blink <;> simp [Mod.setShutter, h]

@[simp] theorem oscReading_tick (x : Nat × Int) : (m.oscReading x).tick = m.tick := by
  unfold Mod.oscReading
  dsimp only
  split
  · exact event3_tick _ _ _ _
  · rfl

@[simp] theorem biasReading_tick (k : Nat) : (m.biasReading k).tick = m.tick := by
  unfold Mod.biasReading
  split <;> rfl

@[simp] theorem bankReadings_tick (i : SenseIn) : (m.bankReadings i).tick = m.tick := by
  unfold Mod.bankReadings
  dsimp only
  split
  · rfl
  · refine (foldl_keeps Mod.tick _ biasReading_tick _ _).trans (foldl_keeps Mod.tick _ (fun m x => ?_) _ _)
    exact setLaser_tick m x.1 _

@[simp] theorem houseReadings_tick (got : List Nat) (i : SenseIn) : (m.houseReadings got i).tick = m.tick :=
  (bankReadings_tick _ i).trans (foldl_keeps Mod.tick Mod.tileReading (fun _ _ => rfl) _ m)

@[simp] theorem calTriggers_tick : m.calTriggers.tick = m.tick := by
  refine foldl_keeps Mod.tick _ (fun m c => ?_) _ m
  dsimp only
  split <;> rfl

@[simp] theorem impair_tick (x : Context) (st : CState) (cause loop : Nat) : (m.impair x st cause loop).tick = m.tick := by
  unfold Mod.impair
  split
  · rfl
  · exact event_tick _ _ _

@[simp] theorem markStuck_tick (e : Elem) : (m.markStuck e).tick = m.tick := record_tick _ _ _ _

@[simp] theorem breakMembers_tick : m.breakMembers.tick = m.tick :=
  foldl_keeps Mod.tick _ (fun m x => impair_tick m x _ _ _) _ m

@[simp] theorem readOne_tick (f : Fired) : (readOne m f).tick = m.tick := by
  unfold readOne
  dsimp only
  split
  · rfl
  split
  · rfl
  split
  · rw [breakMembers_tick, markStuck_tick]
  · rfl

@[simp] theorem readback_tick (arrived : BitVec 8) : (m.readback arrived).tick = m.tick :=
  foldl_keeps Mod.tick _ readOne_tick _ m

@[simp] theorem verify_tick (got : List Nat) (drops : List (Nat × Int)) : (m.verify got drops).tick = m.tick := by
  unfold Mod.verify
  split
  · rfl
  split
  · rfl
  split <;> rfl

/-- The readings of a Sense phase stand in the order of `runSense`; none of them touches the tick's phase. -/
theorem runSense_phase (i : SenseIn) : (runSense i m).tick.phase = .sense := by
  have ports (got : List Nat) (m : Mod) : ((List.range 544).foldl (Mod.portReading got i.ports) m).tick = m.tick :=
    foldl_keeps Mod.tick _ (fun m p => portReading_tick m got i.ports p) _ m
  have osc (m : Mod) (l : List (Nat × Int)) : (l.foldl Mod.oscReading m).tick = m.tick :=
    foldl_keeps Mod.tick _ oscReading_tick l m
  unfold runSense
  dsimp only
  split <;> simp [ports, osc, Mod.sweepReadings, Mod.seeHold]

/-! ### Compute -/

@[simp] theorem sweepStep_tick (k : Nat) : (m.sweepStep k).tick = m.tick := by
  unfold Mod.sweepStep
  split <;> rfl

theorem computeOne_tick (readings : List (Nat × Int)) (p : Mod × List (Nat × List Nat)) (k : Nat) :
    (computeOne readings p k).1.tick = p.1.tick := by
  have members (l : List Context) (m : Mod) :
      (l.foldl (fun m c => if c.state = .active then m.impair c .atRisk 1 k else m) m).tick = m.tick := by
    refine foldl_keeps Mod.tick _ (fun m c => ?_) l m
    split
    · exact impair_tick m c _ _ _
    · rfl
  unfold computeOne
  simp [Mod.sumSats, members]

@[simp] theorem traceStep_tick (carried : List Nat) (sats : List (Nat × List Nat)) :
    (m.traceStep carried sats).tick = m.tick := by
  unfold Mod.traceStep
  split
  · rfl
  · simp

@[simp] theorem riskHeld_tick : m.riskHeld.tick = m.tick := by
  refine foldl_keeps Mod.tick _ (fun m x => ?_) _ m
  split
  · exact impair_tick m x _ _ _
  · rfl

@[simp] theorem computeGroups_tick (c : ComputeIn) (car : List Nat) : (m.computeGroups c car).tick = m.tick := by
  have loops (l : List Nat) : (l.foldl (computeOne c.readings) (m, [])).1.tick = m.tick :=
    foldl_keeps (fun p : Mod × List (Nat × List Nat) => p.1.tick) _ (computeOne_tick c.readings) l (m, [])
  unfold Mod.computeGroups
  simp [Mod.settleMembers, loops]

theorem runCompute_phase (c : ComputeIn) : (runCompute c m).tick.phase = .compute := by
  unfold runCompute
  simp [apply_ite Tick.phase]

/-! ### Actuate -/

@[simp] theorem requestStart_tick (s : Start) : (m.requestStart s).tick = m.tick := by
  unfold Mod.requestStart
  dsimp only
  split <;> rfl

@[simp] theorem driveTo_tick (t : Int) (w : Nat) : (m.driveTo t w).tick = m.tick := by
  unfold Mod.driveTo
  split
  · rfl
  · exact requestStart_tick _ _

@[simp] theorem sweepEnd_tick (w : Nat) (lit peak : Bool) : (sweepEnd w lit peak m).tick = m.tick := by
  unfold sweepEnd
  dsimp only
  split
  · rw [driveTo_tick, record_tick]
  · rw [driveTo_tick]

@[simp] theorem endSweeps_tick : m.endSweeps.tick = m.tick := by
  refine foldl_keeps Mod.tick _ (fun m x => ?_) _ m
  exact sweepEnd_tick _ _ _ _

@[simp] theorem setSwitch_tick (k : Nat) : (m.setSwitch k).tick = m.tick := by
  unfold Mod.setSwitch
  dsimp only
  split <;> rfl

@[simp] theorem setSwitches_tick : m.setSwitches.tick = m.tick := by
  unfold Mod.setSwitches
  split
  · rfl
  · exact foldl_keeps Mod.tick _ setSwitch_tick _ m

@[simp] theorem fireBatch_tick (failed : List Elem) (carried : List Nat) : (m.fireBatch failed carried).tick = m.tick := by
  unfold Mod.fireBatch
  split <;> rfl

@[simp] theorem fireTests_tick (failed : List Elem) (late : List Nat) : (m.fireTests failed late).tick = m.tick := by
  unfold Mod.fireTests
  split <;> rfl

@[simp] theorem closeShutter_tick (p : Nat) : (m.closeShutter p).tick = m.tick := by
  unfold Mod.closeShutter
  dsimp only
  split
  · rfl
  split
  · exact event3_tick _ _ _ _
  · rfl

@[simp] theorem actuateShutter_tick (p : Nat) : (m.actuateShutter p).tick = m.tick := by
  unfold Mod.actuateShutter
  dsimp only
  split
  · split
    · exact closeShutter_tick m p
    · rfl
  · split <;> rfl

@[simp] theorem actuateShutters_tick : m.actuateShutters.tick = m.tick :=
  foldl_keeps Mod.tick _ actuateShutter_tick _ m

theorem runActuate_phase (failed : List Elem) (carried : List Nat) : (runActuate failed carried m).tick.phase = .actuate := by
  unfold runActuate
  simp [Mod.latchHeaters]

/-! ### Commit step -/

@[simp] theorem selfFails_tick (leaf : Side) (items : BitVec 8) : (m.selfFails leaf items).tick = m.tick := by
  unfold Mod.selfFails
  dsimp only
  split
  · rw [record_tick]
    split <;> rfl
  · rfl

@[simp] theorem checkItems_tick : m.checkItems.tick = m.tick := by
  unfold Mod.checkItems
  split
  · rfl
  · simp

@[simp] theorem foldl_driveTo_tick (t : Int) (l : List Nat) : (l.foldl (fun m w => m.driveTo t w) m).tick = m.tick :=
  foldl_keeps Mod.tick _ (fun m w => driveTo_tick m t w) l m

@[simp] theorem turnBack_tick (i : Item) : (m.turnBack i).tick = m.tick := by
  unfold Mod.turnBack
  split
  · exact foldl_driveTo_tick m _ _
  · exact foldl_driveTo_tick m _ _
  · rfl

theorem notMade_tick (i : Item) : (m.notMade i).1.tick = m.tick := by
  unfold Mod.notMade
  dsimp only
  split
  · exact turnBack_tick m i
  · rfl

theorem advanceItem_tick (r : Running) (mayRepair : Bool) (i : Item) : (advanceItem m r mayRepair i).1.tick = m.tick := by
  unfold advanceItem
  dsimp only
  split
  · split
    · rfl
    split
    · rfl
    split
    · rfl
    split
    · split
      · rfl
      · exact notMade_tick m i
    · exact notMade_tick m i
  · split
    · rfl
    split
    · exact notMade_tick m i
    · rfl
  · rfl

/-- Where each item of a run leaves the tick, a pass over the items of a run does. -/
theorem foldl_items_tick (f : Mod × Running → Item → Mod × Running) (h : ∀ p i, (f p i).1.tick = p.1.tick) (l : List Item)
    (r : Running) : (l.foldl f (m, r)).1.tick = m.tick :=
  foldl_keeps (fun p : Mod × Running => p.1.tick) f h l (m, r)

@[simp] theorem advanceAll_tick (r : Running) (mayRepair : Bool) : (advanceAll m r mayRepair).1.tick = m.tick := by
  refine foldl_items_tick m _ (fun p i => ?_) _ r
  split
  · exact advanceItem_tick _ _ _ _
  · rfl

theorem fixWaiting_tick (r : Running) (prefer : List Nat) (i : Item) : (fixWaiting m r prefer i).1.tick = m.tick := by
  unfold fixWaiting
  dsimp only
  split
  · rfl
  split
  · simp [apply_ite Prod.fst]
  · split
    · exact notMade_tick m i
    split
    · rfl
    split
    · split
      · exact notMade_tick m i
      · rfl
    · exact notMade_tick m i

@[simp] theorem fixAll_tick (r : Running) (prefer : List Nat) : (fixAll m r prefer).1.tick = m.tick := by
  refine foldl_items_tick m _ (fun p i => ?_) _ r
  split
  · exact fixWaiting_tick _ _ _ _
  · rfl

@[simp] theorem dropWaiting_tick (r : Running) : (dropWaiting m r).1.tick = m.tick := by
  refine foldl_items_tick m _ (fun p i => ?_) _ r
  split
  · exact turnBack_tick _ i
  · rfl

@[simp] theorem prepare_tick (r : Running) (ending : Bool) : (prepare m r ending).1.tick = m.tick := rfl

@[simp] theorem driveItems_tick (r : Running) : (m.driveItems r).tick = m.tick := by
  refine foldl_keeps Mod.tick _ (fun m i => ?_) _ m
  simp

@[simp] theorem stepOn_tick (r : Running) : (stepOn m r).tick = m.tick := by
  unfold stepOn
  simp [Mod.setRun]

@[simp] theorem stepEnd_tick (r : Running) (why : EndWhy) : (stepEnd m r why).tick = m.tick := by
  unfold stepEnd
  dsimp only
  split <;> simp [Mod.setRun]

@[simp] theorem engineStep_tick (carried : Bool) : (m.engineStep carried).tick = m.tick := by
  unfold Mod.engineStep
  split
  · rfl
  split
  · rfl
  split
  · rfl
  split
  · exact stepEnd_tick m _ _
  · exact stepOn_tick m _

@[simp] theorem sendRenews_tick (i : Side) (unreached : BitVec 8) : (m.sendRenews i unreached).tick = m.tick := by
  unfold Mod.sendRenews
  split
  · exact foldl_keeps Mod.tick _ (fun m k => setSill_tick m k _) _ m
  · rfl

@[simp] theorem answerTime_tick : m.answerTime.tick = m.tick :=
  foldl_keeps Mod.tick _ (fun m w => done_tick m w _ _) _ _

@[simp] theorem sendLaunched_tick : m.sendLaunched.tick = m.tick :=
  foldl_keeps Mod.tick _ (fun m b => event_tick m 6 b) _ _

theorem runCommitStep_phase (carried : Bool) (unreached : BitVec 8) :
    (runCommitStep carried unreached m).tick.phase = .commit := by
  unfold runCommitStep
  dsimp only
  split <;> simp [Mod.sendFrames]

/-! ### Guard -/

@[simp] theorem crossTick_tick (ok : Bool) : (m.crossTick ok).tick = m.tick := by
  unfold Mod.crossTick
  simp

/-- A clear of RC fields may clear the overrun counters of the tick, but not its phase. -/
theorem clearRc_phase (ref : Mod) (mirror : Bool) (sel : Selects) (a : Nat) :
    (m.clearRc ref mirror sel a).tick.phase = m.tick.phase := by
  unfold Mod.clearRc
  dsimp only
  split
  case h_11 => exact congrArg Tick.phase (foldl_keeps Mod.tick _ (fun m c => setCalClass_tick m c _) _ m)
  all_goals rfl

theorem mirrorClears_phase (ref : Mod) : (m.mirrorClears ref).tick.phase = m.tick.phase := by
  refine foldl_keeps (fun m : Mod => m.tick.phase) _ (fun m k => ?_) _ m
  dsimp only
  split
  · exact clearRc_phase m ref _ _ _
  · rfl

@[simp] theorem standbyDegraded_tick (mirrored : Bool) : (m.standbyDegraded mirrored).tick = m.tick := by
  unfold Mod.standbyDegraded
  split <;> rfl

@[simp] theorem sendGrants_tick (i : Side) : (m.sendGrants i).tick = m.tick := by
  unfold Mod.sendGrants
  dsimp only
  split
  · exact foldl_keeps Mod.tick _ (fun m k => setSill_tick m k _) _ m
  · rfl

theorem runGuard_phase (ok : Bool) (s : State) : (runGuard ok s).cur.tick.phase = .guard := by
  unfold runGuard
  simp [apply_ite Tick.phase, mirrorClears_phase, Mod.mirrored, Mod.mapPeaks]

/-- While the cross-link is down no mirror message passes it (R421). -/
theorem crossTick_xlinkUp_of_down (ok : Bool) (hu : m.leaves.xlinkUp = false) (hd : m.xlinkDown = true) :
    (m.crossTick ok).leaves.xlinkUp = false := by
  unfold Mod.crossTick
  dsimp only
  split
  · exact hu
  split
  · simp [hd]
  · exact hu

/-- A mirror message that fails, or that no cross-link carries, leaves the mirror. -/
theorem runGuard_mirror (ok : Bool) (s : State)
    (h : ok = false ∨ s.cur.leaves.xlinkUp = false ∧ s.cur.xlinkDown = true) : (runGuard ok s).mirror = s.mirror := by
  unfold runGuard
  rcases h with rfl | ⟨hu, hd⟩
  · simp
  · simp [crossTick_xlinkUp_of_down { s.cur with tick := { s.cur.tick with phase := .guard } } ok hu hd]

end

/-! ### The rows -/

/-- Settles O34: each row is an event between the phase before it and its own, and what it runs leaves the tick in its own phase. -/
theorem tickPhasesComplete : Obligations.TickPhasesComplete := by
  unfold Obligations.TickPhasesComplete
  intro s aux power i k failed cs b ok un
  refine ⟨?boundary, rfl, rfl, rfl, ?sense, ?compute, ?actuate, ?commit, ?guard,
    ?noBoundary, ?noSense, ?noCompute, ?noActuate, ?noCommit, ?noGuard⟩
  case boundary => exact fun h => congrArg Host.Outcome.next (if_pos h)
  case sense =>
    exact fun h => ⟨_, happens_holds (·.inPhase .boundary) (runSense i) s h, rfl, runSense_phase s.cur i⟩
  case compute =>
    exact fun h => ⟨_, happens_holds (·.inPhase .sense) (runCompute k) s h, rfl, runCompute_phase s.cur k⟩
  case actuate =>
    exact fun h => ⟨_, happens_holds (·.inPhase .compute) (runActuate failed cs) s h, rfl, runActuate_phase s.cur failed cs⟩
  case commit =>
    exact fun h => ⟨_, happens_holds (·.inPhase .actuate) (runCommitStep b un) s h, rfl, runCommitStep_phase s.cur b un⟩
  case guard =>
    exact fun h => ⟨(runGuard ok s).cur, (runGuard ok s).mirror, congrArg Host.Outcome.next (if_pos h), runGuard_phase ok s,
      runGuard_mirror ok s⟩
  case noBoundary => exact fun h => congrArg Host.Outcome.next (if_neg (by simp [h]))
  case noSense => exact fun h => happens_not (·.inPhase .boundary) (runSense i) s h
  case noCompute => exact fun h => happens_not (·.inPhase .sense) (runCompute k) s h
  case noActuate => exact fun h => happens_not (·.inPhase .compute) (runActuate failed cs) s h
  case noCommit => exact fun h => happens_not (·.inPhase .actuate) (runCommitStep b un) s h
  case noGuard => exact fun h => congrArg Host.Outcome.next (if_neg (by simp [h]))

end Sys2Proof.Machine
end

section
/-! PROOFS. Causes of SAFE_HOLD and the interlock (R45, R346, R449, R563). -/

namespace Sys2Proof.Machine

/-! ### Association lists -/

/-- A read of an association list after a write to it. -/
theorem aget_aput {α : Type} (d x : α) (l : List (Nat × α)) (k j : Nat) :
    aget d (aput l k x) j = if k = j then x else aget d l j := by
  induction l with
  | nil => rfl
  | cons p l ih =>
    obtain ⟨i, y⟩ := p
    by_cases hi : i = k
    · subst hi
      by_cases hj : i = j <;> simp [aput, aget, hj]
    · by_cases hk : k = j
      · subst hk
        simp [aput, aget, hi, ih]
      · simp [aput, aget, hi, ih, hk]

/-- What an association list does not hold reads as the default. -/
theorem aget_of_notMem {α : Type} (d : α) (l : List (Nat × α)) (k : Nat) (h : k ∉ l.map Prod.fst) : aget d l k = d := by
  induction l with
  | nil => rfl
  | cons p l ih =>
    obtain ⟨hp, hl⟩ := not_or.mp (mt List.mem_cons.mpr h)
    exact (if_neg (Ne.symm hp)).trans (ih hl)

/-! ### Shutters -/

/-- The shutter neither emits nor is open. -/
def Shutter.Shut (s : Shutter) : Prop := s.emitting = false ∧ s.isOpen = false

section
variable (m : Mod)

theorem shutter_setShutter (p q : Nat) (f : Shutter → Shutter) :
    (m.setShutter p f).shutter q = if p = q then f (m.shutter p) else m.shutter q := aget_aput ..

@[simp] theorem event3_shutter (p cause : Nat) (data : List Byte) (q : Nat) :
    (m.event3 p cause data).shutter q = m.shutter q := by
  obtain ⟨l, h, t, e⟩ := event3_changes m p cause data
  rw [e]
  rfl

/-- Closing a shutter changes the shutters, and sends the event of it. -/
theorem closeShutter_changes (p : Nat) :
    ∃ o l h t, m.closeShutter p = { m with osc := o, links := l, held := h, sessions := t } := by
  unfold Mod.closeShutter
  dsimp only
  split
  · exact ⟨m.osc, m.links, m.held, m.sessions, rfl⟩
  split
  · obtain ⟨l, h, t, e⟩ := event3_changes _ p 3 []
    rw [e]
    exact ⟨_, l, h, t, rfl⟩
  · exact ⟨_, m.links, m.held, m.sessions, rfl⟩

/-- A shutter closed is shut, and those shut before stay so. -/
theorem closeShutter_shut (p q : Nat) (h : q = p ∨ (m.shutter q).Shut) : ((m.closeShutter p).shutter q).Shut := by
  have shuts : ((m.setShutter p fun s =>
      { s with opening := false, isOpen := false, emitting := false, pulse := none, closedAt := m.tick.now }).shutter q).Shut := by
    rw [shutter_setShutter]
    split
    next => exact ⟨rfl, rfl⟩
    next hp => exact h.resolve_left (Ne.symm hp)
  unfold Mod.closeShutter
  dsimp only
  split
  next hs =>
    obtain rfl | h := h
    · simp only [Bool.and_eq_true, Bool.not_eq_true'] at hs
      exact ⟨hs.2, hs.1.1⟩
    · exact h
  split
  · rw [event3_shutter]
    exact shuts
  · exact shuts

theorem foldl_closeShutter_changes (l : List Nat) :
    ∃ o k h t, l.foldl (fun m p => m.closeShutter p) m = { m with osc := o, links := k, held := h, sessions := t } := by
  induction l generalizing m with
  | nil => exact ⟨m.osc, m.links, m.held, m.sessions, rfl⟩
  | cons p l ih =>
    obtain ⟨o, k, h, t, e⟩ := closeShutter_changes m p
    obtain ⟨o', k', h', t', e'⟩ := ih (m.closeShutter p)
    exact ⟨o', k', h', t', by rw [List.foldl_cons, e', e]⟩

theorem foldl_closeShutter_shut (l : List Nat) (q : Nat) (h : q ∈ l ∨ (m.shutter q).Shut) :
    ((l.foldl (fun m p => m.closeShutter p) m).shutter q).Shut := by
  induction l generalizing m with
  | nil => exact h.resolve_left List.not_mem_nil
  | cons p l ih =>
    refine ih _ ?_
    rw [List.mem_cons, or_assoc] at h
    obtain hp | hl | hs := h
    · exact .inr (closeShutter_shut m p q (.inl hp))
    · exact .inl hl
    · exact .inr (closeShutter_shut m p q (.inr hs))

theorem closeAll_changes : ∃ o l h t, m.closeAll = { m with osc := o, links := l, held := h, sessions := t } :=
  foldl_closeShutter_changes m _

/-- After all are closed every shutter is shut: one that is not kept among the shutters reads as one never opened. -/
theorem closeAll_shut (p : Nat) : (m.closeAll.shutter p).Shut := by
  refine foldl_closeShutter_shut m _ p ?_
  by_cases hp : p ∈ m.osc.shutters.map Prod.fst
  · exact .inl hp
  · right
    unfold Mod.shutter
    rw [aget_of_notMem _ _ _ hp]
    exact ⟨rfl, rfl⟩

/-! ### Asking for the state -/

/-- A cause of SAFE_HOLD asked for SAFE_HOLD: the state is due at the boundary, cause `b` is seen, and the engine and the leaves
stay. -/
def AsksSafe (m t : Mod) (b : Nat) : Prop :=
  t.leaves.wantHold = true ∧ t.leaves.holdSeen.bits.getLsbD b = true ∧ t.engine = m.engine ∧ t.leaves.leaf = m.leaves.leaf

/-- The live causes of SAFE_HOLD, bit by bit. -/
theorem holdNow_getLsbD :
    m.holdNow.getLsbD 0 = m.sup.interlock ∧ m.holdNow.getLsbD 1 = decide (2 ≤ m.sup.memsBad) ∧
      m.holdNow.getLsbD 2 = !m.fabric.tileOver.isEmpty := by
  unfold Mod.holdNow
  cases m.sup.interlock <;> cases decide (2 ≤ m.sup.memsBad) <;> cases m.fabric.tileOver.isEmpty <;> decide

theorem wantSafe_asks (b : Nat) (hb : b < 3) (h : m.holdNow.getLsbD b = true) : AsksSafe m m.wantSafe b := by
  refine ⟨rfl, ?_, rfl, rfl⟩
  change (m.leaves.holdSeen.bits ||| m.holdNow.zeroExtend 32).getLsbD b = true
  simp [h, show b < 32 by omega]

end

theorem mem_insertNew (x : Nat) (l : List Nat) : x ∈ insertNew x l := by
  unfold insertNew
  split
  next h => exact h
  next => simp

/-- Settles O41: each cause is live when its row asks for the state, so that its sticky copy is set. -/
theorem safetyRowsComplete : Obligations.SafetyRowsComplete := by
  unfold Obligations.SafetyRowsComplete
  dsimp only [exec, execMemsRailFault, execTileOverTemperature, execSafetyInterlockAssert, execSafetyInterlockRelease]
  intro s k
  refine ⟨fun ht hm => ?mems, fun ht hk hh => ?tile, fun hi => ?assert, fun hi => happens_holds _ _ s hi⟩
  case mems =>
    refine ⟨_, happens_holds _ _ s (by simp only [ht, hm, decide_true, Bool.and_self]), ?_⟩
    exact wantSafe_asks s.cur 1 (by decide) ((holdNow_getLsbD _).2.1.trans (decide_eq_true hm))
  case tile =>
    have hmem := mem_insertNew k s.cur.fabric.tileOver
    refine ⟨_, happens_holds _ _ s (by simp only [ht, hk, hh, decide_true, Bool.and_self]), ?_, hmem, rfl⟩
    refine wantSafe_asks { s.cur with fabric := _ } 2 (by decide) ((holdNow_getLsbD _).2.2.trans ?_)
    simpa using List.ne_nil_of_mem hmem
  case assert =>
    refine ⟨_, happens_holds _ _ s (by simp only [hi, Bool.not_false]), ?_, ?_,
      closeAll_shut { s.cur with sup := { s.cur.sup with interlock := true } }⟩
    all_goals
      obtain ⟨o, l, h, t, e⟩ := closeAll_changes { s.cur with sup := { s.cur.sup with interlock := true } }
      rw [e]
    · exact wantSafe_asks { s.cur with sup := { s.cur.sup with interlock := true }, osc := o, links := l, held := h, sessions := t }
        0 (by decide) (holdNow_getLsbD _).1
    · rfl

end Sys2Proof.Machine
end

section
/-! PROOFS. Resets of one leaf (R35, R416, R461) and function reinits (R424, R425). -/

namespace Sys2Proof.Machine

/-! ### A leaf stops -/

section
variable (m : Mod)

theorem resetFelso_changes (i : Side) : ∃ f, m.resetFelso i = { m with felso := f } := by
  unfold Mod.resetFelso
  split
  · exact ⟨_, rfl⟩
  · exact ⟨m.felso, rfl⟩

theorem relockTarget_changes (t event : Nat) : ∃ f r, m.relockTarget t event = { m with felso := f, recs := r } := by
  unfold Mod.relockTarget
  split
  · exact ⟨m.felso, m.recs, rfl⟩
  · obtain ⟨r, e⟩ := record_changes { m with felso := _ } 0x81 m.origin (le 1 event ++ le 1 t ++ [0, 0] ++ le 4 0)
    exact ⟨_, r, e⟩

/-- A leaf that stops loses its sessions, its link and its trace; the leaves' states, the engine and the fabric stay. -/
theorem leafStops_changes (i : Side) (held : Bool) :
    ∃ f c r l w t, m.leafStops i held = { m with
      felso := f, sec := c, recs := r, links := l, trowel := w, tick := t
      sessions := m.sessions.filter fun s => !(s.link == i) } := by
  obtain ⟨f, e⟩ := resetFelso_changes m i
  obtain ⟨f', r, e'⟩ := relockTarget_changes ((m.resetFelso i).closeSessions fun s => s.link == i) (1 + i.num) 2
  unfold Mod.leafStops
  simp only [e']
  exact ⟨_, _, _, _, _, _, by rw [e]; rfl⟩

@[simp] theorem leafStops_leaves (i : Side) (held : Bool) : (m.leafStops i held).leaves = m.leaves := by
  obtain ⟨f, c, r, l, w, t, e⟩ := leafStops_changes m i held
  rw [e]

@[simp] theorem leafStops_engine (i : Side) (held : Bool) : (m.leafStops i held).engine = m.engine := by
  obtain ⟨f, c, r, l, w, t, e⟩ := leafStops_changes m i held
  rw [e]

@[simp] theorem leafStops_fabric (i : Side) (held : Bool) : (m.leafStops i held).fabric = m.fabric := by
  obtain ⟨f, c, r, l, w, t, e⟩ := leafStops_changes m i held
  rw [e]

@[simp] theorem leafStops_sills (i : Side) (held : Bool) : (m.leafStops i held).sills = m.sills := by
  obtain ⟨f, c, r, l, w, t, e⟩ := leafStops_changes m i held
  rw [e]

@[simp] theorem leafStops_leaf (i j : Side) (held : Bool) : (m.leafStops i held).leaf j = m.leaf j :=
  congrArg (·.leaf.get j) (leafStops_leaves m i held)

/-- No session is left on the link of a leaf that stopped. -/
theorem leafStops_sessions (i : Side) (held : Bool) : ∀ x ∈ (m.leafStops i held).sessions, x.link ≠ i := by
  obtain ⟨f, c, r, l, w, t, e⟩ := leafStops_changes m i held
  rw [e]
  exact fun x hx => by simpa using List.of_mem_filter hx

/-! ### A reset of one leaf -/

/-- `t` is `m` with leaf `i` stopped and its reset due with `cause`. -/
def ResetAsked (m t : Mod) (i : Side) (cause : Nat) : Prop :=
  (t.leaf i).inReset = true ∧ (t.leaf i).resetDue = some cause ∧ (t.leaf i).state = (m.leaf i).state ∧
    (t.leaf i).granting = false ∧ t.leaf i.other = m.leaf i.other ∧ (∀ x ∈ t.sessions, x.link ≠ i) ∧ t.engine = m.engine ∧
    t.fabric = m.fabric ∧ t.sills = m.sills

theorem askLeafReset_asked (i : Side) (cause : Nat) : ResetAsked m (m.askLeafReset i cause) i cause := by
  unfold Mod.askLeafReset
  refine ⟨?_, ?_, ?_, ?_, ?_, leafStops_sessions m i true, ?_, ?_, ?_⟩ <;> simp

/-- A reset asked for after an update of the leaf that keeps its state. -/
theorem ResetAsked.of_setLeaf {t : Mod} {i : Side} {cause : Nat} {f : LeafSt → LeafSt} (h : ResetAsked (m.setLeaf i f) t i cause)
    (hf : (f (m.leaf i)).state = (m.leaf i).state) : ResetAsked m t i cause := by
  obtain ⟨hin, hdue, hst, hg, ho, hrest⟩ := h
  rw [leaf_setLeaf_same] at hst
  rw [leaf_setLeaf_other] at ho
  exact ⟨hin, hdue, hst.trans hf, hg, ho, hrest⟩

@[simp] theorem record_leaves (ty origin : Nat) (data : List Byte) : (m.record ty origin data).leaves = m.leaves := by
  obtain ⟨r, e⟩ := record_changes m ty origin data
  rw [e]

@[simp] theorem resetRecord_leaves (origin cause leaf function straps prev : Nat) :
    (m.resetRecord origin cause leaf function straps prev).leaves = m.leaves := record_leaves m 3 origin _

@[simp] theorem resetRecord_tick (origin cause leaf function straps prev : Nat) :
    (m.resetRecord origin cause leaf function straps prev).tick = m.tick := record_tick m 3 origin _

@[simp] theorem resetRecord_leaf (origin cause leaf function straps prev : Nat) (i : Side) :
    (m.resetRecord origin cause leaf function straps prev).leaf i = m.leaf i :=
  congrArg (·.leaf.get i) (resetRecord_leaves m ..)

/-- The leaves after the reset of one are those of a module with the leaves as they were, the leaf put to its reset state and its
image loaded. -/
theorem resetLeaf_leaf (i : Side) (cause : Nat) : ∃ (n : Mod) (held : Bool), (∀ j, n.leaf j = m.leaf j) ∧
    ∀ j, (m.resetLeaf i cause).leaf j = ((n.setLeaf i fun l => l.afterReset cause held).loadImage i).leaf j := by
  let recorded := m.resetRecord 0 cause i.num 0xFF 0 (m.byteOf i)
  let held := (recorded.leaf i).railsDown || recorded.sup.resetN
  refine ⟨recorded.leafStops i held, held, fun j => ?_, fun j => ?_⟩
  · rw [leafStops_leaf, resetRecord_leaf]
  · unfold Mod.resetLeaf
    dsimp only [Mod.leaf]
    split <;> rfl

theorem loadImage_leaf_same (i : Side) : ∃ p, (m.loadImage i).leaf i = { m.leaf i with plain := p } :=
  ⟨_, leaf_setLeaf_same m i _⟩

@[simp] theorem loadImage_leaf_other (i : Side) : (m.loadImage i).leaf i.other = m.leaf i.other := leaf_setLeaf_other m i _

theorem resetLeaf_leaf_same (i : Side) (cause : Nat) :
    ∃ held p, (m.resetLeaf i cause).leaf i = { (m.leaf i).afterReset cause held with plain := p } := by
  obtain ⟨n, held, hn, hr⟩ := resetLeaf_leaf m i cause
  obtain ⟨p, hp⟩ := loadImage_leaf_same (n.setLeaf i fun l => l.afterReset cause held) i
  exact ⟨held, p, by rw [hr, hp, leaf_setLeaf_same, hn]⟩

theorem resetLeaf_leaf_other (i : Side) (cause : Nat) : (m.resetLeaf i cause).leaf i.other = m.leaf i.other := by
  obtain ⟨n, held, hn, hr⟩ := resetLeaf_leaf m i cause
  rw [hr, loadImage_leaf_other, leaf_setLeaf_other, hn]

/-! ### What a function that stops leaves -/

@[simp] theorem final_leaves (w : Waiter) (st : Nat) (pl : List Byte) : (m.final w st pl).leaves = m.leaves := by
  obtain ⟨l, h, t, d, e⟩ := final_changes m w st pl
  rw [e]

@[simp] theorem event_leaves (cls : Nat) (body : List Byte) : (m.event cls body).leaves = m.leaves := by
  obtain ⟨l, h, t, e⟩ := event_changes m cls body
  rw [e]

@[simp] theorem impair_leaves (x : Context) (st : CState) (cause loop : Nat) : (m.impair x st cause loop).leaves = m.leaves := by
  unfold Mod.impair
  split
  · rfl
  · exact event_leaves _ _ _

@[simp] theorem riskLanes_leaves : m.riskLanes.leaves = m.leaves :=
  foldl_keeps Mod.leaves _ (fun m x => impair_leaves m x _ _ _) _ m

/-- What a function loses at its reinit is of its own unit: the leaves stay. -/
@[simp] theorem stopFunction_leaves (f : Nat) : (m.stopFunction f).leaves = m.leaves := by
  unfold Mod.stopFunction
  split
  case h_1 => rfl
  case h_2 => exact riskLanes_leaves _
  case h_3 =>
    dsimp only
    split
    · exact final_leaves _ _ _ _
    · rfl
  case h_4 =>
    split
    · exact final_leaves _ _ _ _
    · rfl
  case h_5 => rfl

@[simp] theorem requestStart_leaves (s : Start) : (m.requestStart s).leaves = m.leaves := by
  unfold Mod.requestStart
  dsimp only
  split <;> rfl

@[simp] theorem returnStarts_leaves : m.returnStarts.leaves = m.leaves :=
  foldl_keeps Mod.leaves _ (fun m _ => requestStart_leaves m _) _ _

/-! ### A reinit -/

/-- A bit put into the functions exhausted. -/
theorem getLsbD_or_two_pow (e : BitVec 8) (f : Nat) (h : f < 8) : (e ||| BitVec.ofNat 8 (2 ^ f)).getLsbD f = true := by
  rw [BitVec.getLsbD_or, BitVec.getLsbD_ofNat, Nat.testBit_two_pow_self, decide_eq_true h, Bool.and_true, Bool.or_true]

theorem startReinit_reinits (f : Nat) (w : Option Waiter) :
    (m.startReinit f w).leaves.reinits = m.leaves.reinits + 1 := by
  unfold Mod.startReinit
  dsimp only
  split <;> simp

theorem startReinit_reinitOn (f : Nat) (w : Option Waiter) : (m.startReinit f w).reinitOn f = true := by
  unfold Mod.startReinit Mod.reinitOn
  dsimp only
  split <;> simp

/-- The reinit that begins is one more within the hour. -/
theorem startReinit_exhausts (f : Nat) (w : Option Waiter) (hf : f < 8) (h : 2 ≤ m.reinitsOf f) :
    (m.startReinit f w).leaves.exhausted.getLsbD f = true := by
  unfold Mod.startReinit
  dsimp only
  rw [if_pos]
  · rw [stopFunction_leaves]
    exact getLsbD_or_two_pow _ f hf
  · unfold Mod.reinitsOf at h ⊢
    simpa [List.filter_filter] using h

/-- What the end of a reinit leaves of the leaves: its reply or record changes none of them. -/
theorem endReinit_leaves (f : Nat) (back : Bool) : (endReinit f back m).leaves =
    { m.leaves with
      reinit := m.leaves.reinit.filter fun r => r.1 != f
      exhausted := if back then m.leaves.exhausted else m.leaves.exhausted ||| BitVec.ofNat 8 (2 ^ f)
      reinitFails := if back then m.leaves.reinitFails else m.leaves.reinitFails + 1 } := by
  have returns (n : Mod) : (if f = 1 then n.returnStarts else n).leaves = n.leaves := by
    split
    · exact returnStarts_leaves n
    · rfl
  unfold endReinit
  dsimp only
  split
  · split <;> rw [final_leaves, returns]
  · rw [record_leaves, returns]

theorem endReinit_reinitOn (f : Nat) (back : Bool) : (endReinit f back m).reinitOn f = false := by
  unfold Mod.reinitOn
  rw [endReinit_leaves]
  simp

end

/-- Settles O38: a stop of a leaf and the course of a reinit, from what each leaves of the leaves. -/
theorem leafResetAndReinitRowsComplete : Obligations.LeafResetAndReinitRowsComplete := by
  unfold Obligations.LeafResetAndReinitRowsComplete
  dsimp only [exec, execWatchdog, execLeafRailCollapse, execLeafRailReturn, execFirmwareReinit, execFunctionReinitDone]
  refine ⟨fun s i => ⟨fun ht hs => ?watchdog, fun c => ?reset, fun hr hd ho => ?collapse, fun hr hd => ?railsBack⟩,
    fun s f => ⟨fun hr hf hw ho => ?reinit, fun r back hfind hin hout => ?done⟩⟩
  case watchdog =>
    exact ⟨_, happens_holds _ _ s (by simp only [ht, hs, Bool.and_self]), askLeafReset_asked s.cur i 7⟩
  case reset =>
    obtain ⟨held, p, e⟩ := resetLeaf_leaf_same s.cur i c
    rw [e]
    exact ⟨rfl, rfl, rfl, rfl, rfl, resetLeaf_leaf_other s.cur i c⟩
  case collapse =>
    refine ⟨_, happens_holds _ _ s (by simp [hr, hd, ho]), ?_, ?_, ?_, ?_, leafStops_sessions s.cur i true⟩ <;> simp
  case railsBack =>
    refine ⟨_, happens_holds _ _ s (by simp only [hr, hd, Bool.and_self]), ?_, ?_⟩
    · exact (askLeafReset_asked _ i 6).of_setLeaf s.cur rfl
    · simp [Mod.askLeafReset]
  case reinit =>
    refine ⟨happens_holds _ _ s ?_, startReinit_reinits _ f none, startReinit_reinitOn _ f none,
      startReinit_exhausts _ f none (by omega)⟩
    by_cases h4 : f = 4 <;> simp_all
  case done =>
    refine ⟨_, happens_holds _ _ s ?_, endReinit_reinitOn _ f back, ?_⟩
    · cases back <;> simp [hfind, hin, hout]
    · rw [endReinit_leaves]
      cases back with
      | true => exact ⟨rfl, nofun, fun _ => rfl⟩
      | false => exact ⟨rfl, fun _ hf => getLsbD_or_two_pow _ f hf, nofun⟩

end Sys2Proof.Machine
end

section
/-! PROOFS. Ends, pauses and transfers of jobs (R25, R275, R278, R283, R285). -/

namespace Sys2Proof.Machine

section
variable (m : Mod)

/-! ### The job of a slot -/

/-- The job of a slot after an update of it. -/
theorem job_setJob (k : Nat) (f : Job → Job) : (m.setJob k f).job k = (m.job k).map f := by
  unfold Mod.job Mod.setJob
  dsimp only
  generalize m.mortar.jobs = l
  induction l with
  | nil => rfl
  | cons p l ih => by_cases h : p.1 = k <;> simp_all

@[simp] theorem cleanCourses_job (l : List Nat) (k : Nat) : (m.cleanCourses l).job k = m.job k :=
  foldl_keeps (fun m : Mod => m.job k) (fun m c => m.setCourse c Course.clean) (fun _ _ => rfl) l m

@[simp] theorem cleanCourses_die (l : List Nat) : (m.cleanCourses l).die = m.die :=
  foldl_keeps Mod.die (fun m c => m.setCourse c Course.clean) (fun _ _ => rfl) l m

/-- A final sent or not changes what a final changes. -/
theorem finalTo_changes (w : Option Waiter) (st : Nat) (pl : List Byte) :
    ∃ l h t d, m.finalTo w st pl = { m with links := l, held := h, sessions := t, deferred := d } := by
  cases w with
  | none => exact ⟨m.links, m.held, m.sessions, m.deferred, rfl⟩
  | some w => exact final_changes m w st pl

/-- A final with the event after it leaves the jobs and the die. -/
theorem finalTo_event_keeps (w : Option Waiter) (st cls : Nat) (pl body : List Byte) :
    ((m.finalTo w st pl).event cls body).mortar = m.mortar ∧ ((m.finalTo w st pl).event cls body).die = m.die := by
  obtain ⟨l, h, t, d, e⟩ := finalTo_changes m w st pl
  obtain ⟨l', h', t', e'⟩ := event_changes (m.finalTo w st pl) cls body
  rw [e', e]
  exact ⟨rfl, rfl⟩

/-! ### The end of a job -/

/-- A job that ended for `reason`: its courses and its region are given back. -/
def Job.ends (j : Job) (reason code : Nat) : Job :=
  { j with state := .ended, exit := exitWord reason code, courses := [], mem := [], reclaimed := false, waiter := none }

/-- The end of a job frees its courses and ends it in its slot; the die stays. -/
theorem endJob_keeps (k reason code : Nat) (j : Job) (h : m.job k = some j) :
    (m.endJob k reason code).mortar = ((m.cleanCourses j.courses).setJob k (·.ends reason code)).mortar ∧
      (m.endJob k reason code).die = m.die := by
  have keeps (w : Option Waiter) (st : Nat) (pl body : List Byte) :=
    finalTo_event_keeps ((m.cleanCourses j.courses).setJob k (·.ends reason code)) w st 7 pl body
  rw [setJob_die, cleanCourses_die] at keeps
  unfold Mod.endJob
  rw [h]
  dsimp only
  split <;> exact keeps ..

theorem endJob_job (k reason code : Nat) (j : Job) (h : m.job k = some j) :
    (m.endJob k reason code).job k = some (j.ends reason code) := by
  have hm := (endJob_keeps m k reason code j h).1
  have hj : (m.endJob k reason code).job k = ((m.cleanCourses j.courses).setJob k (·.ends reason code)).job k := by
    unfold Mod.job
    rw [hm]
  rw [hj, job_setJob, cleanCourses_job, h]
  rfl

theorem jobIn_of_job (k : Nat) (j : Job) (st : JState) (h : m.job k = some j) (hs : j.state = st) : m.jobIn k st = true := by
  simp [Mod.jobIn, h, hs]

/-! ### Verification and saving -/

theorem record_mortar (ty origin : Nat) (data : List Byte) : (m.record ty origin data).mortar = m.mortar := by
  obtain ⟨r, e⟩ := record_changes m ty origin data
  rw [e]

theorem verifyDone_of_good (k : Nat) (j : Job) (proof : Option Proven) (h : m.job k = some j)
    (hb : m.packageBad j proof = none) : verifyDone k proof m = m.setJob k fun j => { j with state := .loaded } := by
  simp only [verifyDone, h, hb]

/-- A package that does not pass is rejected, with a record of the reason. -/
theorem verifyDone_mortar_of_bad (k : Nat) (j : Job) (proof : Option Proven) (reason : Nat) (h : m.job k = some j)
    (hb : m.packageBad j proof = some reason) :
    (verifyDone k proof m).mortar = (m.setJob k fun j => { j with state := .rejected }).mortar := by
  simp only [verifyDone, h, hb]
  exact record_mortar ..

/-- The job as its save leaves it. -/
theorem saveDone_job (k : Nat) (j : Job) (h : m.job k = some j) :
    (saveDone k m).job k = some
      { j with
        state := .paused, saved := j.courses.map m.course, savedProf := m.mortar.open_, savedMc := m.sec.ucode
        resumeOn := j.courses, courses := [] } := by
  simp only [saveDone, h]
  rw [job_setJob, cleanCourses_job, h]
  rfl

/-! ### Transfers -/

/-- An uncorrectable read counts its media error and ends the job of its course. -/
theorem dmaDone_of_bad (c k ch : Nat) (j : Job) (t : Dma) (hj : m.job k = some j)
    (hc : m.mortar.jobs.find? (fun p => p.2.courses.contains c) = some (k, j))
    (ht : (m.course c).dma.find? (fun x => x.tag == t.tag) = some t) (hi : t.into = true) :
    (dmaDone c t.tag (some ch) m).die.media = m.die.media + 1 ∧
      (dmaDone c t.tag (some ch) m).job k = some (j.ends 7 0) := by
  simp only [dmaDone, hc, ht, hi]
  exact ⟨congrArg Die.media (endJob_keeps _ k 7 0 j (by exact hj)).2, endJob_job _ k 7 0 j hj⟩

/-- Any other transfer moves its data and is over. -/
theorem dmaDone_of_good (c k : Nat) (j : Job) (t : Dma) (bad : Option Nat)
    (hc : m.mortar.jobs.find? (fun p => p.2.courses.contains c) = some (k, j))
    (ht : (m.course c).dma.find? (fun x => x.tag == t.tag) = some t) (hi : t.into = false ∨ bad = none) :
    dmaDone c t.tag bad m =
      (m.dmaMove c k t j.mem).setCourse c fun k => ({ k with dma := k.dma.erase t } : Course).waitOver := by
  simp only [dmaDone, hc, ht]
  obtain hi | rfl := hi
  · rw [hi]
  · cases t.into <;> rfl

end

/-- Settles O45: what each row leaves of its job. -/
theorem jobRowsComplete : Obligations.JobRowsComplete := by
  unfold Obligations.JobRowsComplete
  dsimp only [exec, execJobVerifyDone, execJobPauseStopped, execJobSaveDone, execJobTimeLimit, execDmaDone]
  intro s k j proof hj
  refine ⟨fun hs => ⟨fun hb => ?good, fun reason hb => ?bad⟩, fun hs ho => ?stopped, fun hs ho hd => ?saved,
    fun hs hp hl => ?limit, fun c t bad hc ht hu => ⟨fun hi => ?moved, fun ch hi hb => ?media⟩⟩
  case good =>
    rw [happens_holds _ _ s (jobIn_of_job s.cur k j _ hj hs), verifyDone_of_good s.cur k j proof hj hb]
  case bad =>
    exact ⟨_, happens_holds _ _ s (jobIn_of_job s.cur k j _ hj hs), verifyDone_mortar_of_bad s.cur k j proof reason hj hb⟩
  case stopped =>
    exact happens_holds _ _ s (by simp [hj, hs, ho])
  case saved =>
    exact ⟨_, _, happens_holds _ _ s (by simpa [hj, hs, ho] using hd), saveDone_job s.cur k j hj, rfl, rfl, rfl, rfl⟩
  case limit =>
    exact ⟨_, _, happens_holds _ _ s (by simp [hj, hs, hp, hl]), endJob_job s.cur k 5 0 j hj, rfl, rfl, rfl, rfl⟩
  all_goals
    have occurs : ((s.cur.die.up.getLsbD 10 || s.cur.die.up.getLsbD 11) &&
        (s.cur.course c).dma.any fun x => x.tag == t.tag) = true := by
      rw [Bool.and_eq_true, Bool.or_eq_true]
      exact ⟨hu, List.any_eq_true.mpr ⟨t, List.mem_of_find?_eq_some ht, beq_self_eq_true _⟩⟩
  case moved =>
    rw [happens_holds _ _ s occurs, dmaDone_of_good s.cur c k j t bad hc ht hi]
  case media =>
    subst hb
    obtain ⟨hm, hx⟩ := dmaDone_of_bad s.cur c k ch j t hj hc ht hi
    exact ⟨_, happens_holds _ _ s occurs, hm, _, hx, rfl, rfl⟩

end Sys2Proof.Machine
end

section
/-! PROOFS. The state that reset leaves (R41, R131, R137, R228, R405, R461). -/

namespace Sys2Proof.Machine

/-! ### Registers -/

/-- The registers with a reset value other than 0 read it, whichever leaf is asked. -/
theorem reset_regValue_resetValues : ∀ i, ∀ r ∈ resetValues, State.reset.regValue i .init r.1 = some r.2
  | .a => by decide +kernel
  | .b => by decide +kernel

/-- Those with the reset value 0 read 0. -/
theorem reset_regValue_resetZeros : ∀ i, ∀ a ∈ resetZeros, State.reset.regValue i .init a = some 0
  | .a => by decide +kernel
  | .b => by decide +kernel

/-! ### Sills and windows -/

/-- What a list holds of one element only, or not at all, reads as that element. -/
theorem lget_replicate {α : Type} (x : α) (n k : Nat) : lget x (List.replicate n x) k = x := by
  unfold lget
  rw [List.getElem?_replicate]
  split <;> rfl

/-- No sill holds a lease. -/
theorem reset_sill_lease (k : Nat) : (State.reset.cur.sill k).lease = .none :=
  congrArg Sill.lease (lget_replicate Sill.init 8 k)

/-- A window whose loop has not left COLD is COLD. -/
theorem wstate_of_cold (m : Mod) (w : Nat) (h : (m.loop w).wstate = .cold) : m.wstate w = .cold := by
  simp [Mod.wstate, h]

/-! ### What is reported -/

/-- No link has a session at reset. -/
theorem reset_sessionLimit : State.reset.sessionLimit :=
  fun _ => ⟨Nat.zero_le 8, Nat.zero_le 8, Nat.zero_le 8⟩

theorem reset_reported : State.reset.reported
  | .a => rfl
  | .b => rfl

/-- Settles O55: the state of reset is closed, so that each of its fields is read off it. -/
theorem resetState : Obligations.ResetState := by
  unfold Obligations.ResetState
  refine ⟨fun i => ⟨?state, ?cause, ?link, reset_regValue_resetValues i, reset_regValue_resetZeros i⟩, rfl, rfl, rfl, rfl, rfl,
    rfl, rfl, reset_sill_lease, fun w => wstate_of_cold _ w rfl, reset_sessionLimit, reset_reported⟩
  all_goals cases i <;> rfl

end Sys2Proof.Machine
end

section
/-! PROOFS. The switch (R70, R83): what the window starts, the events and the settling of moves leave of the fabric, the sills and
the moves on their way. -/

namespace Sys2Proof.Machine

/-- What fires and holds the elements: the fabric, the sills, and the moves sent and not read back. -/
def Mod.switch (m : Mod) : Fabric × List Sill × List Fired := (m.fabric, m.sills, m.engine.fired)

section
variable {m n : Mod}

theorem switch_fabric (h : m.switch = n.switch) : m.fabric = n.fabric := congrArg Prod.fst h

theorem switch_sills (h : m.switch = n.switch) : m.sills = n.sills := congrArg (·.2.1) h

theorem switch_fired (h : m.switch = n.switch) : m.engine.fired = n.engine.fired := congrArg (·.2.2) h

end

section
variable (m : Mod)

/-! ### Window starts (R210) -/

theorem requestStart_switch (s : Start) : (m.requestStart s).switch = m.switch := by
  unfold Mod.requestStart
  dsimp only
  split <;> rfl

theorem driveTo_switch (t : Int) (w : Nat) : (m.driveTo t w).switch = m.switch := by
  unfold Mod.driveTo
  split
  · rfl
  · exact requestStart_switch m _

theorem foldl_driveTo_switch (t : Int) (l : List Nat) : (l.foldl (fun m w => m.driveTo t w) m).switch = m.switch :=
  foldl_keeps Mod.switch _ (fun m w => driveTo_switch m t w) l m

theorem turnBack_switch (i : Item) : (m.turnBack i).switch = m.switch := by
  unfold Mod.turnBack
  split
  · exact foldl_driveTo_switch m _ _
  · exact foldl_driveTo_switch m _ _
  · rfl

theorem notMade_switch (i : Item) : (m.notMade i).1.switch = m.switch := by
  unfold Mod.notMade
  dsimp only
  split
  · exact turnBack_switch m i
  · rfl

/-! ### Members (R130) -/

theorem event_switch (cls : Nat) (body : List Byte) : (m.event cls body).switch = m.switch := by
  obtain ⟨l, h, t, e⟩ := event_changes m cls body
  rw [e]
  rfl

theorem impair_switch (x : Context) (st : CState) (cause loop : Nat) : (m.impair x st cause loop).switch = m.switch := by
  unfold Mod.impair
  split
  · rfl
  · exact event_switch _ _ _

theorem impairSill_switch (k : Nat) (st : CState) (cause : Nat) : (m.impairSill k st cause).switch = m.switch := by
  refine foldl_keeps Mod.switch _ (fun m x => ?_) _ m
  split
  · exact impair_switch m x _ _ _
  · rfl

theorem breakPaths_switch (k : Nat) : (m.breakPaths k).switch = m.switch :=
  foldl_keeps Mod.switch _ (fun m x => impair_switch m x _ _ _) _ m

/-! ### Moves that a sill will not report (R569) -/

theorem settleItem_switch (k : Nat) (i : Item) : (m.settleItem k i).1.switch = m.switch := by
  unfold Mod.settleItem
  extract_lets here outer atWork
  split
  · rfl
  split
  · split
    · exact turnBack_switch m i
    · rfl
  · split
    · exact notMade_switch m i
    · rfl
  · split
    · exact notMade_switch m i
    · rfl

/-- The engine forgets the moves that it sent to the sill; nothing else of the switch changes. -/
theorem settleMoves_switch (k : Nat) : (m.settleMoves k).switch =
    (m.fabric, m.sills, m.engine.fired.filter fun f => !decide (sillOfBrick f.elem.brick = k)) := by
  unfold Mod.settleMoves
  split
  · rfl
  · next r _ =>
    have items := foldl_keeps (fun p : Mod × Running => p.1.switch)
      (fun p i => ((p.1.settleItem k i).1, p.2.put (p.1.settleItem k i).2)) (fun p i => settleItem_switch p.1 k i) r.items (m, r)
    rw [← switch_fabric items, ← switch_sills items, ← switch_fired items]
    rfl

theorem settleMoves_fabric (k : Nat) : (m.settleMoves k).fabric = m.fabric := congrArg Prod.fst (settleMoves_switch m k)

theorem settleMoves_sills (k : Nat) : (m.settleMoves k).sills = m.sills := congrArg (·.2.1) (settleMoves_switch m k)

theorem settleMoves_fired (k : Nat) :
    (m.settleMoves k).engine.fired = m.engine.fired.filter fun f => !decide (sillOfBrick f.elem.brick = k) :=
  congrArg (·.2.2) (settleMoves_switch m k)

/-! ### Windows of a sill that returns (R83) -/

theorem fromCold_switch (ws : List Nat) : (m.fromCold ws).switch = m.switch :=
  (foldl_keeps Mod.switch _ (fun m w => driveTo_switch m (m.returnTarget w) w) ws _).trans
    (foldl_keeps Mod.switch (fun (m : Mod) w => m.setLoop w fun l => { l with wstate := .cold }) (fun _ _ => rfl) ws m)

theorem returnWindows_switch (k : Nat) (cold : Bool) : (m.returnWindows k cold).switch = m.switch := by
  unfold Mod.returnWindows
  dsimp only
  split
  · exact fromCold_switch m _
  · exact foldl_keeps Mod.switch _ (fun m w => requestStart_switch (m.setLoop w _) _) _ m

end

end Sys2Proof.Machine
end

section
/-! PROOFS. The elements stay latched (R70): the rows of the supplies, the resets, the reinits and the sills leave those that are
SET. -/

namespace Sys2Proof.Machine

section
variable (m : Mod)

/-! ### The shared operations leave the fabric -/

/-- The fabric of a choice is that of the module chosen. -/
@[simp] theorem ite_fabric (c : Prop) [Decidable c] (n : Mod) :
    (if c then m else n).fabric = if c then m.fabric else n.fabric := apply_ite Mod.fabric c m n

@[simp] theorem pump_fabric (i : Side) : (m.pump i).fabric = m.fabric := by
  obtain ⟨l, h, t, e⟩ := pump_changes m i
  rw [e]

@[simp] theorem fire_fabric (n : Nat) : (m.fire n).fabric = m.fabric := by
  obtain ⟨k, e⟩ := fire_changes m n
  rw [e]

@[simp] theorem record_fabric (ty origin : Nat) (data : List Byte) : (m.record ty origin data).fabric = m.fabric := by
  obtain ⟨r, e⟩ := record_changes m ty origin data
  rw [e]

@[simp] theorem resetRecord_fabric (origin cause leaf function straps prev : Nat) :
    (m.resetRecord origin cause leaf function straps prev).fabric = m.fabric := record_fabric m 3 origin _

@[simp] theorem event_fabric (cls : Nat) (body : List Byte) : (m.event cls body).fabric = m.fabric :=
  switch_fabric (event_switch m cls body)

@[simp] theorem finalTo_fabric (w : Option Waiter) (st : Nat) (pl : List Byte) : (m.finalTo w st pl).fabric = m.fabric := by
  obtain ⟨l, h, t, d, e⟩ := finalTo_changes m w st pl
  rw [e]

@[simp] theorem final_fabric (w : Waiter) (st : Nat) (pl : List Byte) : (m.final w st pl).fabric = m.fabric :=
  finalTo_fabric m (some w) st pl

@[simp] theorem relockTarget_fabric (t event : Nat) : (m.relockTarget t event).fabric = m.fabric := by
  obtain ⟨f, r, e⟩ := relockTarget_changes m t event
  rw [e]

@[simp] theorem foldl_relockTarget_fabric (l : List Nat) (event : Nat) :
    (l.foldl (fun (m : Mod) t => m.relockTarget t event) m).fabric = m.fabric :=
  foldl_keeps Mod.fabric _ (fun m t => relockTarget_fabric m t event) l m

@[simp] theorem interruptTrace_fabric (i : Side) : (m.interruptTrace i).fabric = m.fabric := rfl

@[simp] theorem requestStart_fabric (s : Start) : (m.requestStart s).fabric = m.fabric := switch_fabric (requestStart_switch m s)

@[simp] theorem turnBack_fabric (i : Item) : (m.turnBack i).fabric = m.fabric := switch_fabric (turnBack_switch m i)

/-! ### Loss of a supply (R446) -/

@[simp] theorem violation_fabric (row interval : Nat) (up : Bool) : (m.violation row interval up).fabric = m.fabric :=
  record_fabric _ 2 0 _

/-- A violation that may have come. -/
@[simp] theorem ite_violation_fabric (c : Prop) [Decidable c] (row interval : Nat) (up : Bool) :
    (if c then m.violation row interval up else m).fabric = m.fabric := by
  rw [ite_fabric, violation_fabric, ite_self]

@[simp] theorem lossOf_fabric (cause : Nat) : (m.lossOf cause).fabric = m.fabric := record_fabric m 1 0 _

/-! ### Jobs -/

@[simp] theorem cleanCourses_fabric (l : List Nat) : (m.cleanCourses l).fabric = m.fabric :=
  foldl_keeps Mod.fabric (fun m c => m.setCourse c Course.clean) (fun _ _ => rfl) l m

@[simp] theorem endJob_fabric (k reason code : Nat) : (m.endJob k reason code).fabric = m.fabric := by
  unfold Mod.endJob
  split
  · rfl
  · dsimp only
    rw [event_fabric]
    split <;> simp

@[simp] theorem leavesSet_fabric (c reason : Nat) : (leavesSet c reason m).fabric = m.fabric := by
  unfold leavesSet
  dsimp only
  rw [record_fabric]
  cases m.courseJob c with
  | none => rfl
  | some k => exact endJob_fabric m k 8 0

/-! ### Boot (R461, R491) -/

@[simp] theorem imageRecord_fabric (event slot : Nat) (img : Slot) (link : Nat) :
    (m.imageRecord event slot img link).fabric = m.fabric := record_fabric m 0x70 _ _

@[simp] theorem finishSlots_fabric : m.finishSlots.fabric = m.fabric := by
  unfold Mod.finishSlots
  dsimp only
  split <;> rfl

@[simp] theorem activate_fabric (b : BootIn) : (m.activate b).fabric = m.fabric := by
  unfold Mod.activate
  dsimp only
  split
  · split <;> exact imageRecord_fabric _ _ _ _ _
  split
  · split
    · exact imageRecord_fabric _ _ _ _ _
    · rfl
  · rfl

@[simp] theorem chooseImage_fabric (b : BootIn) : (m.chooseImage b).fabric = m.fabric := by
  unfold Mod.chooseImage
  split
  · rfl
  split <;> rfl

@[simp] theorem bootImages_fabric (b : BootIn) : (m.bootImages b).fabric = m.fabric := by
  unfold Mod.bootImages
  simp

@[simp] theorem selfTest_fabric (ok : BitVec 16) : (m.selfTest ok).fabric = m.fabric :=
  (foldl_keeps Mod.fabric _ (fun m c => leavesSet_fabric m c 2) _ _).trans
    (foldl_keeps Mod.fabric (fun (m : Mod) c => m.setCourse c fun k => { k with failed := false }) (fun _ _ => rfl) _ m)

@[simp] theorem bootModule_fabric (b : BootIn) : (m.bootModule b).fabric = m.fabric := by
  unfold Mod.bootModule
  simp [Mod.loadImage]

@[simp] theorem rebaseTime_fabric : m.rebaseTime.fabric = m.fabric := rfl

@[simp] theorem startLeaves_fabric (b : BootIn) : (m.startLeaves b).fabric = m.fabric := by
  unfold Mod.startLeaves
  dsimp only
  rw [bootModule_fabric, setLeaf_fabric, setLeaf_fabric, rebaseTime_fabric]

/-- Power-on keeps the latched elements, and nothing else of the fabric that is not in the Cornerstone (R461). -/
theorem powerOn_set (volts : Nat) (refclk : Bool) (b : BootIn) : (m.powerOn volts refclk b).fabric.set = m.fabric.set := by
  unfold Mod.powerOn
  dsimp only
  split <;> simp [Mod.wiped]

/-- A power-on that may have come. -/
theorem ite_powerOn_set (c : Prop) [Decidable c] (volts : Nat) (refclk : Bool) (b : BootIn) :
    (if c then m.powerOn volts refclk b else m).fabric.set = m.fabric.set := by
  split
  · exact powerOn_set m volts refclk b
  · rfl

/-! ### Warm reset (R461, R571) -/

@[simp] theorem dropWaiting_fabric (r : Running) : (dropWaiting m r).1.fabric = m.fabric := by
  refine foldl_keeps (fun p : Mod × Running => p.1.fabric) _ (fun p i => ?_) _ (m, r)
  split
  · exact turnBack_fabric _ i
  · rfl

@[simp] theorem journalInternal_fabric (kind st : Nat) (ref : Word) (l : Option LaunchRec) :
    (m.journalInternal kind st ref l).fabric = m.fabric := by
  unfold Mod.journalInternal
  obtain ⟨r, e⟩ := journal_changes m _
  rw [e]

@[simp] theorem reportBroken_fabric (r : Running) (old : List Context) : (m.reportBroken r old).fabric = m.fabric :=
  foldl_keeps Mod.fabric _ (fun m _ => event_fabric m _ _) _ m

@[simp] theorem closeRun_fabric (r : Running) (st : Nat) (gen : Word) (shown : List Nat) :
    (m.closeRun r st gen shown).fabric = m.fabric := by
  unfold Mod.closeRun
  dsimp only
  split
  · exact (journalInternal_fabric _ _ _ _ _).trans (reportBroken_fabric _ r _)
  · rw [finalTo_fabric, fire_fabric, journalInternal_fabric]
    exact reportBroken_fabric _ r _

@[simp] theorem endNow_fabric (why : EndWhy) : (m.endNow why).fabric = m.fabric := by
  unfold Mod.endNow
  split
  · rfl
  · simp

@[simp] theorem unlaunch_fabric (p : Plan) (st : Nat) (d : List Byte) : (m.unlaunch p st d).fabric = m.fabric :=
  (finalTo_fabric _ _ _ _).trans rfl

@[simp] theorem dropQueue_fabric (st : Nat) : (m.dropQueue st).fabric = m.fabric :=
  foldl_keeps Mod.fabric _ (fun m p => unlaunch_fabric m p st plain) _ m

@[simp] theorem endLaunches_fabric : m.endLaunches.fabric = m.fabric :=
  foldl_keeps Mod.fabric _ (fun m _ => final_fabric m _ _ _) _ _

@[simp] theorem closeBlink_fabric (st : Nat) (d : List Byte) : (m.closeBlink st d).fabric = m.fabric := by
  unfold Mod.closeBlink
  split
  · rfl
  · exact final_fabric _ _ _ _

@[simp] theorem endCommands_fabric : m.endCommands.fabric = m.fabric := by
  unfold Mod.endCommands
  dsimp only
  rw [foldl_keeps Mod.fabric _ fun m _ => final_fabric m _ _ _, foldl_keeps Mod.fabric _ fun m _ => endJob_fabric m _ _ _]
  simp

theorem warmReset_set (cause : Nat) (b : BootIn) : (warmReset cause b m).fabric.set = m.fabric.set := by
  unfold warmReset
  simp [Mod.warm]

/-! ### Leaves and functions (R424, R461) -/

@[simp] theorem askLeafReset_fabric (i : Side) (cause : Nat) : (m.askLeafReset i cause).fabric = m.fabric :=
  leafStops_fabric m i true

@[simp] theorem riskLanes_fabric : m.riskLanes.fabric = m.fabric :=
  foldl_keeps Mod.fabric _ (fun m x => switch_fabric (impair_switch m x _ _ _)) _ m

@[simp] theorem stopFunction_fabric (f : Nat) : (m.stopFunction f).fabric = m.fabric := by
  unfold Mod.stopFunction
  split
  case h_1 => rfl
  case h_2 => exact riskLanes_fabric _
  case h_3 =>
    dsimp only
    split
    · exact final_fabric _ _ _ _
    · rfl
  case h_4 =>
    split
    · exact final_fabric _ _ _ _
    · rfl
  case h_5 => rfl

@[simp] theorem startReinit_fabric (f : Nat) (w : Option Waiter) : (m.startReinit f w).fabric = m.fabric := by
  unfold Mod.startReinit
  simp

@[simp] theorem returnStarts_fabric : m.returnStarts.fabric = m.fabric :=
  foldl_keeps Mod.fabric _ (fun m _ => requestStart_fabric m _) _ _

@[simp] theorem endReinit_fabric (f : Nat) (back : Bool) : (endReinit f back m).fabric = m.fabric := by
  unfold endReinit
  dsimp only
  split
  · split <;> simp
  · simp

/-! ### Sills (R83, R569) -/

/-- A sill that is lost moves no element: its moves are settled and its members impaired. -/
theorem fabric_settle_impair (k : Nat) (f : Sill → Sill) (st : CState) (cause : Nat) :
    (((m.setSill k f).settleMoves k).impairSill k st cause).fabric = m.fabric := by
  rw [switch_fabric (impairSill_switch _ k st cause), settleMoves_fabric, setSill_fabric]

/-- Nor does one that returns. -/
theorem fabric_break_return (k : Nat) (f : Sill → Sill) (cold : Bool) :
    (((m.setSill k f).breakPaths k).returnWindows k cold).fabric = m.fabric := by
  rw [switch_fabric (returnWindows_switch _ k cold), switch_fabric (breakPaths_switch _ k), setSill_fabric]

end

/-! ### The rows -/

/-- The outcome `o`, where it is a next state, has the elements SET that `s` has. -/
def Latched (s : State) (o : Host.Outcome State Fault Refusal) : Prop := ∀ t, o = .next t → t.cur.fabric.set = s.cur.fabric.set

theorem happens_latched (g : Mod → Bool) (f : Mod → Mod) (s : State) (hf : ∀ m, (f m).fabric.set = m.fabric.set) :
    Latched s (happens g f s) := by
  intro t h
  cases hg : g s.cur with
  | true =>
    obtain rfl := Host.Outcome.next.inj ((happens_holds g f s hg).symm.trans h)
    exact hf s.cur
  | false =>
    obtain rfl := Host.Outcome.next.inj ((happens_not g f s hg).symm.trans h)
    rfl

section
variable (s : State)

/-! ### Supplies (R443 – R447) -/

theorem vauxRise_latched (dt : Nat) : Latched s (execVauxRise dt s) := by
  refine happens_latched _ _ s fun m => ?_
  dsimp only
  rw [ite_violation_fabric, ite_violation_fabric, setLeaf_fabric, setLeaf_fabric, resetRecord_fabric]

theorem vauxFall_latched (dt : Nat) : Latched s (execVauxFall dt s) := by
  refine happens_latched _ _ s fun m => ?_
  dsimp only
  split
  · simp
  · cases m.sup.vanaFellAt <;> simp

theorem vanaRise_latched (dt : Nat) : Latched s (execVanaRise dt s) := by
  refine happens_latched _ _ s fun m => ?_
  dsimp only
  rw [ite_violation_fabric]

theorem vanaFall_latched (dt : Nat) : Latched s (execVanaFall dt s) := by
  refine happens_latched _ _ s fun m => ?_
  dsimp only
  split
  · rfl
  split
  · simp
  · cases m.sup.vin54FellAt <;> simp

theorem vin54Rise_latched (dt aux volts : Nat) (refclk : Bool) (b : BootIn) :
    Latched s (execVin54Rise dt aux volts refclk b s) := by
  refine happens_latched _ _ s fun m => ?_
  dsimp only
  rw [ite_powerOn_set, ite_violation_fabric]

theorem vin54Loss_latched (dt volts : Nat) : Latched s (execVin54Loss dt volts s) := by
  refine happens_latched _ _ s fun m => ?_
  dsimp only
  split <;> simp

theorem vin54Overvoltage_latched (dt volts : Nat) : Latched s (execVin54Overvoltage dt volts s) := by
  refine happens_latched _ _ s fun m => ?_
  dsimp only
  split <;> simp

/-! ### Resets (R461, R462) -/

theorem resetNAssert_latched (lowNs : Nat) (taken : Bool) : Latched s (execResetNAssert lowNs taken s) := by
  refine happens_latched _ _ s fun m => ?_
  dsimp only
  split <;> rfl

theorem resetNRelease_latched (aux : Nat) (b : BootIn) : Latched s (execResetNRelease aux b s) := by
  refine happens_latched _ _ s fun m => ?_
  dsimp only
  split
  · rfl
  split
  · rw [startLeaves_fabric]
  · rw [bootModule_fabric]

theorem warmResetStart_latched (b : BootIn) : Latched s (execWarmResetStart b s) := by
  intro t h
  unfold execWarmResetStart at h
  split at h
  · next c _ =>
    split at h
    · obtain rfl := Host.Outcome.next.inj h
      exact warmReset_set s.cur c b
    · obtain rfl := Host.Outcome.next.inj h
      rfl
  · obtain rfl := Host.Outcome.next.inj h
    rfl

theorem watchdog_latched (i : Side) : Latched s (execWatchdog i s) :=
  happens_latched _ _ s fun m => congrArg Fabric.set (askLeafReset_fabric m i 7)

theorem leafRailCollapse_latched (i : Side) : Latched s (execLeafRailCollapse i s) :=
  happens_latched _ _ s fun m => congrArg Fabric.set (leafStops_fabric m i true)

theorem leafRailReturn_latched (i : Side) : Latched s (execLeafRailReturn i s) :=
  happens_latched _ _ s fun m => congrArg Fabric.set (askLeafReset_fabric (m.setLeaf i _) i 6)

/-! ### Reinits (R424, R425) -/

theorem firmwareReinit_latched (f : Nat) : Latched s (execFirmwareReinit f s) :=
  happens_latched _ _ s fun m => congrArg Fabric.set (startReinit_fabric m f none)

theorem functionReinitDone_latched (f : Nat) (back : Bool) : Latched s (execFunctionReinitDone f back s) :=
  happens_latched _ _ s fun m => congrArg Fabric.set (endReinit_fabric m f back)

/-! ### Sills (R83, R90, R569) -/

theorem sillLinkDown_latched (k : Nat) (i : Side) : Latched s (execSillLinkDown k i s) :=
  happens_latched _ _ s fun _ => rfl

theorem sillLost_latched (k : Nat) : Latched s (execSillLost k s) :=
  happens_latched _ _ s fun m => congrArg Fabric.set (fabric_settle_impair m k _ .atRisk 0)

theorem sillPowerLoss_latched (k : Nat) : Latched s (execSillPowerLoss k s) :=
  happens_latched _ _ s fun m => congrArg Fabric.set (fabric_settle_impair { m with trowel := _ } k _ .lost 3)

theorem sillReturn_latched (k : Nat) : Latched s (execSillReturn k s) := by
  refine happens_latched _ _ s fun m => ?_
  dsimp only
  rw [fabric_break_return]

end

/-- Settles O56: row by row, what each does to the module leaves the elements that are SET. -/
theorem elementsLatched : Obligations.ElementsLatched := by
  unfold Obligations.ElementsLatched
  intro c s t hp
  cases c
  case vauxRise dt => exact vauxRise_latched s dt t
  case vauxFall dt => exact vauxFall_latched s dt t
  case vanaRise dt => exact vanaRise_latched s dt t
  case vanaFall dt => exact vanaFall_latched s dt t
  case vin54Rise dt aux volts refclk b => exact vin54Rise_latched s dt aux volts refclk b t
  case vin54Loss dt volts => exact vin54Loss_latched s dt volts t
  case vin54Overvoltage dt volts => exact vin54Overvoltage_latched s dt volts t
  case resetNAssert lowNs taken => exact resetNAssert_latched s lowNs taken t
  case resetNRelease aux b => exact resetNRelease_latched s aux b t
  case warmResetStart b => exact warmResetStart_latched s b t
  case watchdog i => exact watchdog_latched s i t
  case leafRailCollapse i => exact leafRailCollapse_latched s i t
  case leafRailReturn i => exact leafRailReturn_latched s i t
  case firmwareReinit f => exact firmwareReinit_latched s f t
  case functionReinitDone f back => exact functionReinitDone_latched s f back t
  case sillLinkDown k i => exact sillLinkDown_latched s k i t
  case sillLost k => exact sillLost_latched s k t
  case sillPowerLoss k => exact sillPowerLoss_latched s k t
  case sillReturn k => exact sillReturn_latched s k t
  all_goals cases hp

end Sys2Proof.Machine
end

section
/-! PROOFS. Sills (R70, R83, R90, R569), die-to-die links (R539), the scrub of the context store (R427, R428) and channels
(R429). -/

namespace Sys2Proof.Machine

/-! ### Lists -/

/-- A read of a list after an update of the element read. -/
theorem lget_lmod_same {α : Type} (d : α) (l : List α) (k : Nat) (f : α → α) (h : k < l.length) :
    lget d (lmod l k f) k = f (lget d l k) := by
  induction l generalizing k with
  | nil => cases h
  | cons x l ih =>
    cases k with
    | zero => rfl
    | succ k => exact ih k (Nat.lt_of_succ_lt_succ h)

/-! ### One sill -/

/-- A sill that has lost control is away, whether it has power or not (R83). -/
theorem Sill.away_of_lost (k : Sill) (h : k.lost = true) : k.away = true := by
  cases hp : k.powered <;> simp [Sill.away, Sill.status, h, hp]

/-- A sill that has power and control is not. -/
theorem Sill.not_away (k : Sill) (hl : k.lost = false) (hp : k.powered = true) : k.away = false := by
  cases ha : k.linkA <;> cases hb : k.linkB <;> simp [Sill.away, Sill.status, hl, hp, ha, hb]

theorem Sill.setLink_linkTo (k : Sill) (i : Side) (up : Bool) :
    (k.setLink i up).linkTo i = up ∧ (k.setLink i up).linkTo i.other = k.linkTo i.other ∧ (k.setLink i up).lease = k.lease := by
  cases i <;> exact ⟨rfl, rfl, rfl⟩

section
variable (m : Mod)

@[simp] theorem sill_setSill_same (k : Nat) (f : Sill → Sill) (h : k < m.sills.length) :
    (m.setSill k f).sill k = f (m.sill k) := lget_lmod_same Sill.init m.sills k f h

theorem sill_of_switch {m n : Mod} (h : m.switch = n.switch) (k : Nat) : m.sill k = n.sill k :=
  congrArg (lget Sill.init · k) (switch_sills h)

/-- A window whose sill has no power is COLD (R83). -/
theorem wstate_of_unpowered (w : Nat) (h : (m.sill (sillOfWindow w)).powered = false) : m.wstate w = .cold := by
  simp [Mod.wstate, h]

@[simp] theorem settleMoves_sill (k j : Nat) : (m.settleMoves k).sill j = m.sill j :=
  congrArg (lget Sill.init · j) (settleMoves_sills m k)

@[simp] theorem impairSill_sill (k j : Nat) (st : CState) (cause : Nat) : (m.impairSill k st cause).sill j = m.sill j :=
  sill_of_switch (impairSill_switch m k st cause) j

@[simp] theorem breakPaths_sill (k j : Nat) : (m.breakPaths k).sill j = m.sill j := sill_of_switch (breakPaths_switch m k) j

@[simp] theorem returnWindows_sill (k j : Nat) (cold : Bool) : (m.returnWindows k cold).sill j = m.sill j :=
  sill_of_switch (returnWindows_switch m k cold) j

/-- The sill itself, once its moves are settled and its members impaired. -/
theorem sill_settle_impair (k : Nat) (f : Sill → Sill) (st : CState) (cause : Nat) (h : k < m.sills.length) :
    (((m.setSill k f).settleMoves k).impairSill k st cause).sill k = f (m.sill k) := by
  rw [impairSill_sill, settleMoves_sill, sill_setSill_same m k f h]

/-- The sill itself, once its paths are checked and its windows returned. -/
theorem sill_break_return (k : Nat) (f : Sill → Sill) (cold : Bool) (h : k < m.sills.length) :
    (((m.setSill k f).breakPaths k).returnWindows k cold).sill k = f (m.sill k) := by
  rw [returnWindows_sill, breakPaths_sill, sill_setSill_same m k f h]

/-- Once the moves of a sill are settled, none of them is awaited, whichever members are impaired with it. -/
theorem settleMoves_impairSill_fired (k : Nat) (st : CState) (cause : Nat) :
    ∀ x ∈ ((m.settleMoves k).impairSill k st cause).engine.fired, sillOfBrick x.elem.brick ≠ k := by
  intro x hx
  rw [switch_fired (impairSill_switch (m.settleMoves k) k st cause), settleMoves_fired] at hx
  simpa using List.of_mem_filter hx

/-! ### Die-to-die links (R539) -/

/-- Clearing the bit of a link leaves the others. -/
theorem getLsbD_and_not_two_pow (n : Nat) (up : BitVec n) (k j : Nat) :
    (up &&& ~~~(BitVec.ofNat n (2 ^ k))).getLsbD j = (up.getLsbD j && decide (k ≠ j)) := by
  rw [BitVec.getLsbD_and, BitVec.getLsbD_not, BitVec.getLsbD_ofNat, Nat.testBit_two_pow]
  by_cases hj : j < n
  · simp [hj]
  · simp [BitVec.getLsbD_of_ge _ _ (Nat.not_lt.mp hj)]

/-- Setting it leaves them too. -/
theorem getLsbD_or_two_pow_of_lt (n : Nat) (up : BitVec n) (k j : Nat) (hk : k < n) :
    (up ||| BitVec.ofNat n (2 ^ k)).getLsbD j = (up.getLsbD j || decide (k = j)) := by
  rw [BitVec.getLsbD_or, BitVec.getLsbD_ofNat, Nat.testBit_two_pow]
  by_cases hj : j < n
  · simp [hj]
  · have hne : k ≠ j := by omega
    simp [BitVec.getLsbD_of_ge _ _ (Nat.not_lt.mp hj), hne]

/-! ### The context store (R427, R428) -/

@[simp] theorem record_die (ty origin : Nat) (data : List Byte) : (m.record ty origin data).die = m.die := by
  obtain ⟨r, e⟩ := record_changes m ty origin data
  rw [e]

@[simp] theorem record_engine (ty origin : Nat) (data : List Byte) : (m.record ty origin data).engine = m.engine := by
  obtain ⟨r, e⟩ := record_changes m ty origin data
  rw [e]

/-- A bad copy whose other copy is good is corrected; the engine stays as it was. -/
theorem badCopy_good (ctx copy : Nat) :
    (m.badCopy false ctx copy).die.corrected = m.die.corrected + 1 ∧ (m.badCopy false ctx copy).engine = m.engine := by
  constructor <;> simp [Mod.badCopy]

/-- A scrub that finds one copy bad, on channels that serve and a leaf reaches, takes the other copy for good. -/
theorem scrubAll_one (ctx c : Nat) (hx : ctx < 1048576) (hc : c < 2) (h0 : m.channelOk (copyChannel ctx 0) = true)
    (h1 : m.channelOk (copyChannel ctx 1) = true) (hp : m.memPort (copyChannel ctx c / 4) = true) :
    m.scrubAll [(ctx, c)] = m.badCopy false ctx c := by
  interval_cases c <;> simp [Mod.scrubAll, hx, h0, h1, hp]

/-! ### Channels (R429) -/

/-- A channel that serves no more leaves the stores one copy, and so the module degraded. -/
theorem causes_of_channel (k : Nat) (hk : k < 8) (h : m.channelOk k = false) : m.causes.getLsbD 16 = true := by
  have one : m.oneCopy = true := by
    refine List.any_eq_true.mpr ⟨k, List.mem_range.mpr hk, ?_⟩
    have dead : (lget 0 m.die.channels k == 2) = true := by simpa [Mod.channelOk] using h
    rw [dead, Bool.true_or]
  unfold Mod.causes
  simp [one, wbit]

theorem endJob_die (k reason code : Nat) : (m.endJob k reason code).die = m.die := by
  cases h : m.job k with
  | none => simp [Mod.endJob, h]
  | some j => exact (endJob_keeps m k reason code j h).2

@[simp] theorem cleanCourses_poolMib (l : List Nat) : (m.cleanCourses l).mortar.poolMib = m.mortar.poolMib :=
  foldl_keeps (fun m : Mod => m.mortar.poolMib) (fun m c => m.setCourse c Course.clean) (fun _ _ => rfl) l m

theorem endJob_poolMib (k reason code : Nat) : (m.endJob k reason code).mortar.poolMib = m.mortar.poolMib := by
  cases h : m.job k with
  | none => simp [Mod.endJob, h]
  | some j =>
    rw [(endJob_keeps m k reason code j h).1]
    exact cleanCourses_poolMib m j.courses

/-- The jobs that end with a channel and the records rebuilt leave the die and the job pool. -/
theorem foldl_endJob_rebuild_keeps (hit : List (Nat × Job)) (gone : List Nat) :
    (hit.foldl (fun m j => m.endJob j.1 7 0) (gone.foldl Mod.rebuildRecord m)).die = m.die ∧
      (hit.foldl (fun m j => m.endJob j.1 7 0) (gone.foldl Mod.rebuildRecord m)).mortar.poolMib = m.mortar.poolMib :=
  ⟨(foldl_keeps Mod.die _ (fun m j => endJob_die m j.1 7 0) hit _).trans
      (foldl_keeps Mod.die Mod.rebuildRecord (fun _ _ => rfl) gone m),
    (foldl_keeps (fun m : Mod => m.mortar.poolMib) _ (fun m j => endJob_poolMib m j.1 7 0) hit _).trans
      (foldl_keeps (fun m : Mod => m.mortar.poolMib) Mod.rebuildRecord (fun _ _ => rfl) gone m)⟩

end

/-- The channel is FAILED, and its share is gone from the pool, whatever else ends with it. -/
theorem channelFailure_keeps (s : State) (k : Nat) (ht : s.cur.tick.running = true) (hk : k < 8)
    (h : s.cur.channelOk k = true) :
    ∃ t, execChannelFailure k s = .next { s with cur := t } ∧
      t.die = { s.cur.die with channels := lmod s.cur.die.channels k fun _ => 2 } ∧
      t.mortar.poolMib = s.cur.mortar.poolMib - 3072 := by
  refine ⟨_, happens_holds _ _ s (by simp [ht, hk, h]), ?_⟩
  exact foldl_endJob_rebuild_keeps _ _ _

/-- Settles O40: each row is an event whose condition the hypotheses decide; what it leaves is said by the lemmas above. -/
theorem sillAndDieRowsComplete : Obligations.SillAndDieRowsComplete := by
  unfold Obligations.SillAndDieRowsComplete
  dsimp only [exec, execSillLinkDown, execSillLinkRestored, execSillLost, execSillPowerLoss, execSillReturn, execDieLinkDown,
    execDieLinkUp, execScrub, execChannelFailure]
  refine ⟨fun s k i hk hl => ⟨fun ht hu => ?linkDown, fun ht hu => ?linkBack, fun hr ha hs => ?lost, fun ht hp => ?power,
    fun hr ha hu => ?returns⟩, fun s k n bad ht => ⟨fun hk hu => ?dieDown, fun hk hu => ?dieUp, fun hj => ?scrub, rfl,
    fun ctx c hx hc h0 h1 hp => ?oneBad, fun hk hc hok => ?channel⟩⟩
  case linkDown =>
    obtain ⟨same, other, lease⟩ := Sill.setLink_linkTo (s.cur.sill k) i false
    refine ⟨_, happens_holds _ _ s (by simp [ht, hk, hu]), ?_⟩
    rw [sill_setSill_same _ _ _ hl]
    exact ⟨same, other, lease, rfl⟩
  case linkBack =>
    obtain ⟨same, other, -⟩ := Sill.setLink_linkTo (s.cur.sill k) i true
    refine ⟨_, happens_holds _ _ s (by simp [ht, hk, hu]), ?_⟩
    rw [sill_setSill_same _ _ _ hl]
    exact ⟨same, other, rfl⟩
  case lost =>
    have gone := sill_settle_impair s.cur k (fun x => { x with lost := true }) .atRisk 0 hl
    refine ⟨_, happens_holds _ _ s (by simp [hr, hk, ha, hs]), congrArg Sill.lost gone,
      congrArg Fabric.set (fabric_settle_impair s.cur k _ .atRisk 0), fun b hb => Sill.away_of_lost _ ?_,
      settleMoves_impairSill_fired _ k .atRisk 0⟩
    rw [hb]
    exact congrArg Sill.lost gone
  case power =>
    refine ⟨_, happens_holds _ _ s (by simp [ht, hk, hp]), ?_, ?_,
      congrArg Fabric.set (fabric_settle_impair _ k _ .lost 3), fun w hw => wstate_of_unpowered _ w ?_⟩
    · rw [sill_settle_impair]
      exact hl
    · rw [sill_settle_impair]
      · rfl
      · exact hl
    · rw [hw, sill_settle_impair]
      exact hl
  case returns =>
    have back := sill_break_return s.cur k (fun x => { x with lost := false, powered := true, silent := 0 })
      (!(s.cur.sill k).powered) hl
    refine ⟨_, happens_holds _ _ s (by simpa [hr, hk, ha] using hu),
      Sill.not_away _ (congrArg Sill.lost back) (congrArg Sill.powered back), congrArg Sill.silent back, ?_⟩
    dsimp only
    rw [fabric_break_return]
  case dieDown =>
    refine ⟨_, happens_holds _ _ s (by simp [ht, hk, hu]), ?_, fun j hj => ?_, rfl, mem_insertNew _ _, rfl⟩
    · rw [getLsbD_and_not_two_pow, decide_eq_false (not_not.mpr rfl), Bool.and_false]
    · rw [getLsbD_and_not_two_pow, decide_eq_true hj.symm, Bool.and_true]
  case dieUp =>
    refine ⟨_, happens_holds _ _ s (by simp [ht, hu]), ?_, fun j hj => ?_, ?_⟩
    · rw [getLsbD_or_two_pow_of_lt _ _ _ _ hk, decide_eq_true rfl, Bool.or_true]
    · rw [getLsbD_or_two_pow_of_lt _ _ _ _ hk, decide_eq_false hj.symm, Bool.or_false]
    · simp
  case scrub => exact happens_holds _ _ s (by rw [ht, hj, Bool.and_self])
  case oneBad =>
    rw [scrubAll_one _ _ _ hx hc h0 h1 hp]
    exact badCopy_good _ _ _
  case channel =>
    obtain ⟨t, run, hdie, hpool⟩ := channelFailure_keeps s k ht hk hok
    have fails : t.channelOk k = false := by
      rw [Mod.channelOk, hdie, lget_lmod_same 0 _ _ _ hc]
      rfl
    exact ⟨t, run, fails, hpool, causes_of_channel t k hk fails⟩

end Sys2Proof.Machine
end

section
/-! PROOFS. Plans (R99 – R109, R122, R173, R174): the commands that put a plan into the table or the queue, the end of its checks,
and its abort. -/

namespace Sys2Proof.Machine

section
variable (r : Req) (m : Mod)

/-! ### Each plan command's own checks passed -/

theorem runPlanStage_checking (hl : 80 ≤ r.payload.length) (hid : m.planIdFree (wordAt r.payload 0) = true)
    (hf : field r.payload 8 4 < 8) (hn : field r.payload 12 2 ≤ 4096) (hz : zeros r.payload 14 2 = true)
    (h : sized r.payload (80 + 12 * field r.payload 12 2) = true) :
    runPlanStage r m = pend r { m with engine := { m.engine with plans := m.engine.plans ++
      [m.newPlan (wordAt r.payload 0) (wordAt r.payload 4) (field r.payload 8 4) (maskAt r.payload 16)
        (entriesAt r.payload 80 (field r.payload 12 2)) .host false (some r.w)] } } := by
  simp [runPlanStage, hid, hz, h, Nat.not_lt.mpr hl, Nat.not_le.mpr hf, Nat.not_lt.mpr hn]

/-- The plan of one circuit that CIRCUIT_SET or CIRCUIT_CLEAR makes against the tail of the queue (R105). -/
def Mod.circuitPlan (m : Mod) (clear : Bool) (payload : List Byte) : Plan :=
  m.newPlan (wordAt payload 0) m.tailGen (field payload 4 4) 0 [entryAt payload 8] .circuit clear none

theorem runCircuit_queued (clear : Bool) (prefer : List Nat) (q : Plan) (h : sized r.payload 20 = true)
    (hid : m.planIdFree (wordAt r.payload 0) = true) (hf : field r.payload 4 4 = 0 ∨ field r.payload 4 4 = 2)
    (he : entryBad none [] (entryAt r.payload 8) = none)
    (hfit : ∀ c, entryCircuit (entryAt r.payload 8) = some c → m.variant.fits c = true)
    (hclear : clear = true → (entryAt r.payload 8).eflags = 0 ∧ (entryAt r.payload 8).jobTag = 0 ∧
      (removals (m.circuitPlan clear r.payload) (m.circuitPlan clear r.payload).baseSet).isEmpty = false)
    (hq : m.checkPlan prefer (m.circuitPlan clear r.payload) = .ok q) (hroom : m.engine.queue.length < 16) :
    runCircuit clear prefer r m = pend r ((({ m with engine := { m.engine with
      plans := m.engine.plans ++ [q] } }).staged q).enqueue q (some r.w) none false) := by
  have flags : ¬ (field r.payload 4 4 ≠ 0 ∧ field r.payload 4 4 ≠ 2) := by omega
  have eflags : ¬ (clear = true ∧ (entryAt r.payload 8).eflags ≠ 0) := by
    rintro ⟨hc, hne⟩
    obtain ⟨h0, -, -⟩ := hclear hc
    exact hne h0
  have jobTag : ¬ (clear = true ∧ (entryAt r.payload 8).jobTag ≠ 0) := by
    rintro ⟨hc, hne⟩
    obtain ⟨-, h0, -⟩ := hclear hc
    exact hne h0
  have fitted : ((entryCircuit (entryAt r.payload 8)).any fun c => !m.variant.fits c) = false := by
    cases hc : entryCircuit (entryAt r.payload 8) with
    | none => rfl
    | some c => simp [hfit c hc]
  have found : ¬ (clear = true ∧
      (removals (m.circuitPlan clear r.payload) (m.circuitPlan clear r.payload).baseSet).isEmpty = true) := by
    rintro ⟨hc, hemp⟩
    obtain ⟨-, -, hne⟩ := hclear hc
    exact Bool.false_ne_true (hne.symm.trans hemp)
  unfold Mod.circuitPlan at hq found
  simp only [runCircuit, h, hid, he, fitted, hq, if_neg flags, if_neg eflags, if_neg jobTag, if_neg found,
    if_neg (Nat.not_le.mpr hroom), Bool.not_true, Bool.false_eq_true, ↓reduceIte]

/-- The instant that a PLAN_COMMIT asks for; none for an immediate commit (R109). -/
def commitInstant (payload : List Byte) : Option Instant :=
  if (field payload 4 4).testBit 0 then some (timeAt payload 8) else none

theorem runPlanCommit_queued (q : Plan) (h : sized r.payload 24 = true) (hf : field r.payload 4 4 < 2)
    (hz : zeros r.payload 20 4 = true) (hnow : commitInstant r.payload = none → zeros r.payload 8 12 = true)
    (hat : ∀ t, commitInstant r.payload = some t → timeNsOk r.payload 8 = true ∧ m.badInstant t = false)
    (hp : m.plan (wordAt r.payload 0) = some q) (hst : q.state = .staged) (hstale : q.stale = false)
    (hd : q.damaged = false) (hb : q.base = m.tailGen) (hroom : m.engine.queue.length < 16) :
    runPlanCommit r m = pend r (m.enqueue q (some r.w) (commitInstant r.payload)
      ((commitInstant r.payload).any fun t => decide (t < m.fabricNow))) := by
  cases hbit : (field r.payload 4 4).testBit 0 with
  | false =>
    have ht : commitInstant r.payload = none := by rw [commitInstant, hbit]; rfl
    simp only [ht, runPlanCommit, hbit, h, hz, hp, hst, hstale, hd, hb, hnow ht, if_neg (Nat.not_le.mpr hf),
      if_neg (Nat.not_le.mpr hroom), Bool.not_true, Bool.false_eq_true, and_false, ne_eq, not_true_eq_false, or_self,
      Option.isSome_none, false_and, Option.any_none, ↓reduceIte]
  | true =>
    have ht : commitInstant r.payload = some (timeAt r.payload 8) := by rw [commitInstant, hbit]; rfl
    obtain ⟨hns, hok⟩ := hat _ ht
    simp only [ht, runPlanCommit, hbit, h, hz, hp, hst, hstale, hd, hb, hns, hok, if_neg (Nat.not_le.mpr hf),
      if_neg (Nat.not_le.mpr hroom), Bool.not_true, Bool.false_eq_true, and_false, ne_eq, not_true_eq_false, or_self,
      Option.isNone_some, false_and, Option.any_some, ↓reduceIte]

end

/-- Settles O21: an admitted packet runs its opcode's own step, and the checks that each step makes let the plan pass. -/
theorem planCommandsComplete : Obligations.PlanCommandsComplete := by
  unfold Obligations.PlanCommandsComplete
  intro s p prefer
  refine ⟨?stage, ?circuit, ?commit⟩
  case stage =>
    intro ha hl hid hf hn hz h
    exact commandM_runs 0x12 p _ _ s ha (runPlanStage_checking _ _ hl hid hf hn hz h)
  case circuit =>
    intro clear q code m0 _ _ ha h hid hf he hfit hclear hq hroom
    have run := runCircuit_queued (packetReq p (opRow code)) m0 clear prefer q h hid hf he hfit hclear hq hroom
    cases clear with
    | false => exact commandM_runs 0x10 p _ _ s ha run
    | true => exact commandM_runs 0x11 p _ _ s ha run
  case commit =>
    intro q _ _ ha h hf hz hnow hat hp hst hstale hd hb hroom
    exact commandM_runs 0x13 p _ _ s ha (runPlanCommit_queued _ _ q h hf hz hnow hat hp hst hstale hd hb hroom)

/-! ### The end of a plan's checks (R102, R103) -/

section
variable (m : Mod) (id : Word) (p : Plan)

theorem planCheckDone_runs (s : State) (prefer : List Nat) (hup : s.cur.engineUp = true) (h : s.cur.plan id = some p)
    (hs : p.state = .checking) : exec (.planCheckDone id prefer) s = .next { s with cur := checkDone id prefer s.cur } := by
  change execPlanCheckDone id prefer s = _
  exact happens_holds _ _ s (by simp [hup, Mod.checking, h, hs])

theorem checkDone_of_ok (prefer : List Nat) (q : Plan) (h : m.plan id = some p) (hq : m.checkAll prefer p = .ok q) :
    checkDone id prefer m = (m.staged { q with waiter := none }).finalTo p.waiter stOK (stageFinal q) := by
  simp only [checkDone, h, hq]

theorem checkDone_of_error (prefer : List Nat) (st : Nat) (d : List Byte) (h : m.plan id = some p)
    (he : m.checkAll prefer p = .error (st, d)) : checkDone id prefer m = (m.dropPlan id).finalTo p.waiter st d := by
  simp only [checkDone, h, he]

/-! ### PLAN_ABORT at its boundary (R106, R122) -/

theorem abortPlan_staged (h : m.plan id = some p) (hs : p.state = .staged) : m.abortPlan id = m.dropPlan id := by
  simp only [Mod.abortPlan, h, hs, ↓reduceIte]

theorem abortPlan_queued (h : m.plan id = some p) (hs : p.state = .queued) : m.abortPlan id =
    (m.dropPlan id).finalTo p.commitW eCONFLICT (commitFinal eCONFLICT plain (m.noLaunch id p.timed) []) := by
  simp [Mod.abortPlan, h, hs]

theorem abortPlan_running (h : m.plan id = some p) (hs : p.state = .running) : m.abortPlan id = m.endRun .abort := by
  simp [Mod.abortPlan, h, hs]

/-- A run that is not ending yet is told to. -/
theorem endRun_run (r : Running) (why : EndWhy) (h : m.engine.run = some r) (he : r.ending = none) :
    (m.endRun why).engine.run = some { r with ending := some why } := by
  simp [Mod.endRun, h, he]

end

/-- Settles O22: the checks end in the one of two ways that their result names, and an abort does what its plan's state asks. -/
theorem planChecksAndAborts : Obligations.PlanChecksAndAborts := by
  unfold Obligations.PlanChecksAndAborts
  refine ⟨fun s id prefer pl hup h hs => ⟨fun q hq => ?passed, fun st d he => ?failed⟩,
    fun m id p h => ⟨fun hs => ?staged, fun hs => ?queued, fun r hs hr he => ?running⟩⟩
  case passed => rw [planCheckDone_runs id pl s prefer hup h hs, checkDone_of_ok s.cur id pl prefer q h hq]
  case failed => rw [planCheckDone_runs id pl s prefer hup h hs, checkDone_of_error s.cur id pl prefer st d h he]
  case staged => exact abortPlan_staged m id p h hs
  case queued => exact abortPlan_queued m id p h hs
  case running =>
    change (m.abortPlan id).engine.run = _
    rw [abortPlan_running m id p h hs, endRun_run m r .abort hr he]

end Sys2Proof.Machine
end

section
/-! PROOFS. Commits (R92, R93, R96, R108, R110, R119, R122, R123, R125, R210): what a launch, an end and an engine commit leave in the
engine, and the turn of a window start. -/

namespace Sys2Proof.Machine

/-- All of the module but its windows, as a function of what these are. -/
def Mod.butWindows (m : Mod) : Trowel → Mod := fun t => { m with trowel := t }

section
variable {m n : Mod}

theorem engine_of_butWindows (h : m.butWindows = n.butWindows) : m.engine = n.engine :=
  congrArg (fun f => (f m.trowel).engine) h

theorem leaves_of_butWindows (h : m.butWindows = n.butWindows) : m.leaves = n.leaves :=
  congrArg (fun f => (f m.trowel).leaves) h

theorem tick_of_butWindows (h : m.butWindows = n.butWindows) : m.tick = n.tick :=
  congrArg (fun f => (f m.trowel).tick) h

end

section
variable (m : Mod)

/-! ### Window starts touch the windows alone (R210) -/

theorem requestStart_butWindows (s : Start) : (m.requestStart s).butWindows = m.butWindows := by
  unfold Mod.requestStart
  dsimp only
  split <;> rfl

theorem foldl_driveTo_butWindows (t : Int) (l : List Nat) :
    (l.foldl (fun m w => m.driveTo t w) m).butWindows = m.butWindows := by
  refine foldl_keeps Mod.butWindows _ (fun m w => ?_) l m
  unfold Mod.driveTo
  split
  · rfl
  · exact requestStart_butWindows m _

theorem turnBack_butWindows (i : Item) : (m.turnBack i).butWindows = m.butWindows := by
  unfold Mod.turnBack
  split
  · exact foldl_driveTo_butWindows m _ _
  · exact foldl_driveTo_butWindows m _ _
  · rfl

theorem notMade_butWindows (i : Item) : (m.notMade i).1.butWindows = m.butWindows := by
  unfold Mod.notMade
  dsimp only
  split
  · exact turnBack_butWindows m i
  · rfl

theorem cancelHost_butWindows (w : Nat) : (m.cancelHost w).butWindows = m.butWindows := by
  unfold Mod.cancelHost
  dsimp only
  split
  · rfl
  · exact requestStart_butWindows _ _

theorem fixWaiting_butWindows (r : Running) (prefer : List Nat) (i : Item) :
    (fixWaiting m r prefer i).1.butWindows = m.butWindows := by
  unfold fixWaiting
  dsimp only
  split
  · rfl
  split
  · simp [apply_ite Prod.fst, apply_ite Mod.butWindows, turnBack_butWindows]
  · split
    · exact notMade_butWindows m i
    split
    · rfl
    split
    · split
      · exact notMade_butWindows m i
      · rfl
    · exact notMade_butWindows m i

theorem fixAll_butWindows (r : Running) (prefer : List Nat) : (fixAll m r prefer).1.butWindows = m.butWindows := by
  refine foldl_keeps (fun p : Mod × Running => p.1.butWindows) _ (fun p i => ?_) _ (m, r)
  split
  · exact fixWaiting_butWindows _ _ _ _
  · rfl

theorem dropWaiting_butWindows (r : Running) : (dropWaiting m r).1.butWindows = m.butWindows := by
  refine foldl_keeps (fun p : Mod × Running => p.1.butWindows) _ (fun p i => ?_) _ (m, r)
  split
  · exact turnBack_butWindows _ i
  · rfl

/-- Items that end UNCHANGED leave what kind of commit runs, and whether it has fired. -/
theorem dropWaiting_keeps (r : Running) :
    (dropWaiting m r).2.engine = r.engine ∧ (dropWaiting m r).2.begun = r.begun := by
  have keeps := foldl_keeps (fun p : Mod × Running => (p.2.engine, p.2.begun))
    (fun p i => if i.prog = .waiting ∧ i.done = [] then (p.1.turnBack i, p.2.put { i with prog := .unchanged }) else p)
    (fun p i => by split <;> rfl) r.items (m, r)
  exact Prod.mk.inj keeps

/-! ### Replies, events and records leave the engine -/

@[simp] theorem finalTo_engine (w : Option Waiter) (st : Nat) (pl : List Byte) : (m.finalTo w st pl).engine = m.engine := by
  obtain ⟨l, h, t, d, e⟩ := finalTo_changes m w st pl
  rw [e]

@[simp] theorem finalTo_recs (w : Option Waiter) (st : Nat) (pl : List Byte) : (m.finalTo w st pl).recs = m.recs := by
  obtain ⟨l, h, t, d, e⟩ := finalTo_changes m w st pl
  rw [e]

@[simp] theorem event_engine (cls : Nat) (body : List Byte) : (m.event cls body).engine = m.engine := by
  obtain ⟨l, h, t, e⟩ := event_changes m cls body
  rw [e]

@[simp] theorem fire_engine (n : Nat) : (m.fire n).engine = m.engine := by
  obtain ⟨k, e⟩ := fire_changes m n
  rw [e]

@[simp] theorem fire_recs (n : Nat) : (m.fire n).recs = m.recs := by
  obtain ⟨k, e⟩ := fire_changes m n
  rw [e]

@[simp] theorem fire_leaf (n : Nat) (i : Side) : (m.fire n).leaf i = m.leaf i := by
  obtain ⟨k, e⟩ := fire_changes m n
  rw [e]
  rfl

/-- A journal entry changes the journal and its numbers alone. -/
theorem journal_writes (e : JEntry) : ∃ j n k, m.journal e = { m with recs := { m.recs with
    journal := j, jSeq := n, jMark := k } } := ⟨_, _, _, rfl⟩

@[simp] theorem journalInternal_engine (kind st : Nat) (ref : Word) (l : Option LaunchRec) :
    (m.journalInternal kind st ref l).engine = m.engine := by
  unfold Mod.journalInternal
  obtain ⟨j, n, k, e⟩ := journal_writes m _
  rw [e]

@[simp] theorem journalInternal_csGen (kind st : Nat) (ref : Word) (l : Option LaunchRec) :
    (m.journalInternal kind st ref l).recs.csGen = m.recs.csGen := by
  unfold Mod.journalInternal
  obtain ⟨j, n, k, e⟩ := journal_writes m _
  rw [e]

@[simp] theorem reportBroken_engine (r : Running) (old : List Context) : (m.reportBroken r old).engine = m.engine :=
  foldl_keeps Mod.engine _ (fun m _ => event_engine m _ _) _ m

/-! ### Launch (R108, R110, R123) -/

/-- A launch drives windows, starts the run in place of the queued plan, and its leaf commits. -/
theorem launch_changes (pl : Plan) (prefer : List Nat) : ∃ (n : Mod) (ms : List Context) (ps : List Plan) (r : Running),
    n.butWindows = m.butWindows ∧ m.launch pl prefer =
      ({ n with engine := { n.engine with
          queue := n.engine.queue.filter fun q => q != pl.id, lastLaunch := n.tick.count, members := ms, plans := ps
          run := some r } }.setLeaf n.worker fun f => { f with state := .committing }).fire 2 := by
  unfold Mod.launch
  extract_lets now late flags l m1 items1 r1 p m2 items2 fuel after1 e1 r2 e2 m3 m4 m5
  have same : m2.butWindows = m.butWindows :=
    (fixAll_butWindows _ _ _).trans (foldl_keeps Mod.butWindows _ (fun m w => cancelHost_butWindows m w) _ m)
  clear_value m2 r2
  exact ⟨m2, m4.engine.members, m4.engine.plans, { r2 with orph := m4.orphans }, same, rfl⟩

theorem launch_starts (pl : Plan) (prefer : List Nat) :
    (m.launch pl prefer).engine.run.isSome = true ∧ (m.launch pl prefer).engine.lastLaunch = m.tick.count ∧
      (m.launch pl prefer).engine.gen = m.engine.gen ∧ ((m.launch pl prefer).leaf m.worker).state = .committing := by
  obtain ⟨n, ms, ps, r, same, e⟩ := launch_changes m pl prefer
  have worker : m.worker = n.worker := congrArg (fun l => l.active.getD .a) (leaves_of_butWindows same).symm
  rw [e, worker]
  refine ⟨?_, ?_, ?_, ?_⟩
  · rw [fire_engine]; rfl
  · rw [fire_engine, ← tick_of_butWindows same]; rfl
  · rw [fire_engine, ← engine_of_butWindows same]; rfl
  · rw [fire_leaf, leaf_setLeaf_same]

/-- A plan that does not launch leaves the queue, and the commit set and its generation stand. -/
theorem unlaunch_keeps (p : Plan) (st : Nat) (d : List Byte) : (m.unlaunch p st d).engine.run = m.engine.run ∧
    p.id ∉ (m.unlaunch p st d).engine.queue ∧ (m.unlaunch p st d).engine.gen = m.engine.gen ∧
      (m.unlaunch p st d).engine.members = m.engine.members := by
  simp [Mod.unlaunch, Mod.setPlan]

/-! ### The end of a run (R92, R93, R96, R119) -/

/-- A run that ends, however it ends, leaves none, no move on its way, and the generation it is given. -/
theorem closeRun_changes (r : Running) (st : Nat) (gen : Word) (shown : List Nat) : ∃ e : Engine,
    (m.closeRun r st gen shown).engine = { e with gen := gen, run := none, fired := [] } := by
  unfold Mod.closeRun
  extract_lets pl members l0 l counts e0 m1 m2 dur o m3 e3 recs3 m4 m5
  have closed : m2.engine = m1.engine := reportBroken_engine m1 r m.engine.members
  split
  · exact ⟨m1.engine, by rw [journalInternal_engine, closed]⟩
  · refine ⟨m4.engine, ?_⟩
    rw [finalTo_engine, fire_engine, journalInternal_engine]
    change m4.engine = { m4.engine with gen := m1.engine.gen, run := m1.engine.run, fired := m1.engine.fired }
    rw [← closed]
    rfl

theorem closeRun_ends (r : Running) (st : Nat) (gen : Word) (shown : List Nat) :
    (m.closeRun r st gen shown).engine.run = none ∧ (m.closeRun r st gen shown).engine.fired = [] ∧
      (m.closeRun r st gen shown).engine.gen = gen := by
  obtain ⟨e, he⟩ := closeRun_changes m r st gen shown
  rw [he]
  exact ⟨rfl, rfl, rfl⟩

/-- A host commit's end keeps its outcome under the plan's PLAN_ID (R96), and writes a new generation to the Cornerstone (R93). -/
theorem closeRun_keeps (r : Running) (st : Nat) (gen : Word) (shown : List Nat) (h : r.engine = false) :
    (∃ o ∈ (m.closeRun r st gen shown).engine.outcomes, o.planId = r.planId ∧ o.counts = r.counts) ∧
      (gen ≠ m.engine.gen → (m.closeRun r st gen shown).recs.csGen = gen) := by
  unfold Mod.closeRun
  rw [h]
  extract_lets pl members l0 l counts e0 m1 m2 dur o m3 e3 recs3 m4 m5
  have cornerstone : recs3 = m3.recs := rfl
  refine ⟨⟨o, ?_, rfl, rfl⟩, fun hg => ?_⟩
  · rw [if_neg Bool.false_ne_true, finalTo_engine, fire_engine, journalInternal_engine]
    exact List.mem_append_right _ (List.mem_singleton_self o)
  · rw [if_neg Bool.false_ne_true, finalTo_recs, fire_recs, journalInternal_csGen]
    change (if gen = m.engine.gen then m3.recs else { recs3 with csGen := gen, csKinds := lineKinds members }).csGen = gen
    rw [if_neg hg]

/-- A commit that ends early closes its run, two generations on where it is a host's that has fired (R92, R122). -/
theorem endNow_closes (r : Running) (why : EndWhy) (h : m.engine.run = some r) : ∃ (n : Mod) (r' : Running) (shown : List Nat),
    m.endNow why = n.closeRun r' why.status (if r.engine || !r.begun then m.engine.gen else m.engine.gen + 2) shown := by
  obtain ⟨engine, begun⟩ := dropWaiting_keeps m r
  rw [← engine, ← begun]
  unfold Mod.endNow
  rw [h]
  exact ⟨_, _, _, rfl⟩

/-! ### Engine commits (R125) -/

@[simp] theorem refreshStandIns_engine : m.refreshStandIns.engine = m.engine := by
  refine foldl_keeps Mod.engine _ (fun m p => foldl_keeps Mod.engine _ (fun m k => ?_) _ m) _ _
  split <;> rfl

theorem startEngine_starts (prefer : List Nat) : ∃ r, (m.startEngine prefer).engine.run = some r ∧ r.engine = true ∧
    r.planId = 0 ∧ (m.startEngine prefer).engine.gen = m.engine.gen ∧ (m.startEngine prefer).engine.members =
      m.engine.members.map fun (x : Context) => { x with moved := false } := by
  refine ⟨_, rfl, rfl, rfl, ?_, ?_⟩
  · change m.refreshStandIns.engine.gen = _
    rw [refreshStandIns_engine]
  · change m.refreshStandIns.engine.members.map _ = _
    rw [refreshStandIns_engine]

/-! ### The turn of a window start (R210) -/

/-- Of the starts that wait on a tile which can start, the oldest is found. -/
theorem oldest_start (pre rest : List Start) (x : Start) (hs : m.trowel.starts = pre ++ x :: rest)
    (hc : m.canStart x.window = true) (hpre : ∀ y ∈ pre, tileOfWindow y.window ≠ tileOfWindow x.window) :
    m.trowel.starts.find? (fun t => tileOfWindow t.window == tileOfWindow x.window &&
      !(m.sill (sillOfWindow t.window)).away && !m.bankOff t.window) = some x := by
  simp only [Mod.canStart, Bool.and_eq_true] at hc
  obtain ⟨⟨-, driven⟩, powered⟩ := hc
  refine List.find?_eq_some_iff_append.mpr ⟨by simp only [driven, powered, beq_self_eq_true, Bool.and_self], pre, rest, hs, ?_⟩
  intro y hy
  simp [hpre y hy]

/-- Of the starts that wait for a window, the oldest is found, where none before it is on the window's tile. -/
theorem start_of_window (pre rest : List Start) (x : Start) (hs : m.trowel.starts = pre ++ x :: rest)
    (hpre : ∀ y ∈ pre, tileOfWindow y.window ≠ tileOfWindow x.window) :
    m.trowel.starts.find? (fun t => t.window == x.window) = some x := by
  refine List.find?_eq_some_iff_append.mpr ⟨beq_self_eq_true _, pre, rest, hs, fun y hy => ?_⟩
  have other : y.window ≠ x.window := fun h => hpre y hy (congrArg tileOfWindow h)
  simp [other]

end

/-! ### The rows -/

section
variable (s : State) (prefer bad : List Nat)

/-- At a boundary the head of the queue is put to its LAUNCH checks, and what the module reports follows at once. -/
theorem commitLaunch_runs (f : Mod → Mod) (hb : s.cur.inPhase .boundary = true) (hl : s.cur.launchable = true)
    (ht : s.cur.tryLaunch prefer bad = f s.cur) : exec (.commitLaunch prefer bad) s =
      .next (atBoundary (onCur (fun m => (f m).stateEvent m.byte) s)) := by
  have reported : onCur (fun m => (m.tryLaunch prefer bad).stateEvent m.byte) s =
      onCur (fun m => (f m).stateEvent m.byte) s := by
    rw [onCur, onCur, ht]
  change execCommitLaunch prefer bad s = _
  rw [execCommitLaunch, hb, hl, Bool.and_self, if_pos rfl, reported]

/-- A run that may complete in a Commit step that is not carried is closed, one generation on where it is a host's (R92, R119). -/
theorem commitComplete_runs (r : Running) (hb : s.cur.inPhase .commit = true) (hlate : s.cur.tick.commitLate = false)
    (hc : s.cur.completable = true) (hr : s.cur.engine.run = some r) : exec .commitComplete s = .next { s with
      cur := s.cur.closeRun r r.status (if r.engine then s.cur.engine.gen else s.cur.engine.gen + 1) r.counts } := by
  change execCommitComplete s = _
  rw [execCommitComplete, happens_holds _ _ s (by simp only [hb, hlate, hc, Bool.not_false, Bool.and_self])]
  simp only [hr]

/-- A run whose end waits for no readback ends in a Commit step that is not carried, for the reason it was given (R570). -/
theorem commitEnd_runs (r : Running) (why : EndWhy) (hb : s.cur.inPhase .commit = true) (hlate : s.cur.tick.commitLate = false)
    (hrun : s.cur.running = true) (hready : s.cur.endReady = true) (hr : s.cur.engine.run = some r)
    (hw : r.ending = some why) : exec .commitEnd s = .next { s with cur := s.cur.endNow why } := by
  change execCommitEnd s = _
  rw [execCommitEnd, happens_holds _ _ s (by simp only [hb, hlate, hrun, hready, Bool.not_false, Bool.and_self])]
  simp only [hr, Option.bind_some, hw]

/-- Where orphans wait and no host commit is eligible, a boundary starts an engine commit (R125). -/
theorem engineCommit_runs (hb : s.cur.inPhase .boundary = true) (hmay : s.cur.engineMay = true)
    (ho : s.cur.engineOrphans ≠ []) :
    exec (.engineCommit prefer) s = .next { s with cur := s.cur.startEngine prefer } := by
  change execEngineCommit prefer s = _
  exact atEdge_holds _ _ s hb (by simp [hmay, ho])

/-- The oldest start of a tile that has one free begins (R210). -/
theorem windowStart_runs (pre rest : List Start) (x : Start) (hs : s.cur.trowel.starts = pre ++ x :: rest)
    (hc : s.cur.canStart x.window = true) (hpre : ∀ y ∈ pre, tileOfWindow y.window ≠ tileOfWindow x.window) :
    exec (.windowStart x.window) s = .next { s with cur := { s.cur with trowel := { s.cur.trowel with
      starts := s.cur.trowel.starts.filter fun y => y.window != x.window } }.beginStart x } := by
  change execWindowStart x.window s = _
  rw [execWindowStart, happens_holds _ _ s (by simp only [hc, oldest_start s.cur pre rest x hs hc hpre, beq_self_eq_true,
    Bool.and_self])]
  simp only [start_of_window s.cur pre rest x hs hpre]

end

section
variable (m : Mod) (pl : Plan) (prefer bad : List Nat)

theorem tryLaunch_launches (hp : m.headPlan = some pl) (hd : pl.damaged = false) (hc : ∀ c ∈ pl.ctxs, c ∉ bad)
    (hg : pl.base = m.engine.gen) (hs : pl.stale = false) (ht : m.touchCheck pl m.engine.members = none) :
    m.tryLaunch prefer bad = m.launch pl prefer := by
  simp only [Mod.tryLaunch, hp]
  rw [if_neg (by simpa [hd] using hc), if_neg (by simp [hg, hs]), ht]

theorem tryLaunch_conflicts (hp : m.headPlan = some pl) (hd : pl.damaged = false) (hc : ∀ c ∈ pl.ctxs, c ∉ bad)
    (hg : pl.base ≠ m.engine.gen ∨ pl.stale = true) : m.tryLaunch prefer bad = m.unlaunch pl eCONFLICT plain := by
  simp only [Mod.tryLaunch, hp]
  rw [if_neg (by simpa [hd] using hc), if_pos hg]

theorem tryLaunch_damaged (hp : m.headPlan = some pl) (h : pl.damaged = true ∨ ∃ c ∈ pl.ctxs, c ∈ bad) :
    m.tryLaunch prefer bad = (m.unlaunch pl eMEDIA plain).mediaRead := by
  simp only [Mod.tryLaunch, hp]
  rw [if_pos (by simpa using h)]

end

/-- Settles O43: each row is an event whose condition the hypotheses decide; what it leaves is that of a launch, of a run's end, of an
engine's start and of a window's start. -/
theorem commitRowsComplete : Obligations.CommitRowsComplete := by
  unfold Obligations.CommitRowsComplete
  intro s prefer bad m reports turned
  refine ⟨fun pl hb hl hp => ⟨?launch, ?conflict, ?damaged⟩, ?complete, ?ends, ?engine, ?start⟩
  case launch =>
    intro hd hc hg hs ht
    exact ⟨commitLaunch_runs s prefer bad (fun m => m.launch pl prefer) hb hl
      (tryLaunch_launches m pl prefer bad hp hd hc hg hs ht), launch_starts m pl prefer⟩
  case conflict =>
    intro hd hc hg
    exact ⟨commitLaunch_runs s prefer bad (fun m => m.unlaunch pl eCONFLICT plain) hb hl
      (tryLaunch_conflicts m pl prefer bad hp hd hc hg), unlaunch_keeps m pl eCONFLICT plain⟩
  case damaged =>
    intro h
    exact ⟨commitLaunch_runs s prefer bad (fun m => (m.unlaunch pl eMEDIA plain).mediaRead) hb hl
      (tryLaunch_damaged m pl prefer bad hp h), unlaunch_keeps m pl eMEDIA plain⟩
  case complete =>
    intro r hb hlate hc hr
    refine ⟨_, commitComplete_runs s r hb hlate hc hr, ?_⟩
    obtain ⟨run, fired, gen⟩ := closeRun_ends m r r.status (if r.engine then m.engine.gen else m.engine.gen + 1) r.counts
    refine ⟨run, fired, gen, fun host => ?_⟩
    have raised : (if r.engine then m.engine.gen else m.engine.gen + 1) = m.engine.gen + 1 := by rw [host]; rfl
    obtain ⟨outcome, cornerstone⟩ := closeRun_keeps m r r.status (m.engine.gen + 1) r.counts host
    rw [raised]
    exact ⟨cornerstone (by bv_omega), outcome⟩
  case ends =>
    intro r why hb hlate hrun hready hr hw
    obtain ⟨n, r', shown, e⟩ := endNow_closes m r why hr
    refine ⟨_, commitEnd_runs s r why hb hlate hrun hready hr hw, ?_⟩
    obtain ⟨run, -, gen⟩ := closeRun_ends n r' why.status (if r.engine || !r.begun then m.engine.gen else m.engine.gen + 2) shown
    rw [e]
    exact ⟨run, gen⟩
  case engine =>
    intro hb hmay ho
    obtain ⟨r, started⟩ := startEngine_starts m prefer
    exact ⟨_, r, engineCommit_runs s prefer hb hmay ho, started⟩
  case start => exact fun pre x rest hs hc hpre => windowStart_runs s pre rest x hs hc hpre

end Sys2Proof.Machine
end

section
/-! PROOFS. No operation but SESSION_OPEN adds a session (R148): what each leaves of the links of the sessions. A lemma
`f_sessions` says that `f` leaves the sessions as they are, `f_sessionLinks` that it may change what a session holds (its count of
lost events, its role), but neither how many there are nor the link of any. -/

namespace Sys2Proof.Machine

@[simp] theorem ite_sessions (c : Prop) [Decidable c] (m n : Mod) :
    (if c then m else n).sessions = if c then m.sessions else n.sessions := apply_ite Mod.sessions c m n

@[simp] theorem ite_sessionLinks (c : Prop) [Decidable c] (x y : List Session) :
    (if c then x else y).map Session.link = if c then x.map Session.link else y.map Session.link :=
  apply_ite (List.map Session.link) c x y

@[simp] theorem foldl_sessions {α : Type} (f : Mod → α → Mod) (h : ∀ m a, (f m a).sessions = m.sessions) (l : List α) (m : Mod) :
    (l.foldl f m).sessions = m.sessions := foldl_keeps Mod.sessions f h l m

@[simp] theorem foldl_sessionLinks {α : Type} (f : Mod → α → Mod)
    (h : ∀ m a, (f m a).sessions.map Session.link = m.sessions.map Session.link) (l : List α) (m : Mod) :
    (l.foldl f m).sessions.map Session.link = m.sessions.map Session.link :=
  foldl_keeps (fun m : Mod => m.sessions.map Session.link) f h l m

@[simp] theorem foldl_fst_sessions {α β : Type} (f : Mod × β → α → Mod × β)
    (h : ∀ m a, (f m a).1.sessions = m.1.sessions) (l : List α) (m : Mod × β) :
    (l.foldl f m).1.sessions = m.1.sessions := foldl_keeps (fun m : Mod × β => m.1.sessions) f h l m

@[simp] theorem foldl_fst_sessionLinks {α β : Type} (f : Mod × β → α → Mod × β)
    (h : ∀ m a, (f m a).1.sessions.map Session.link = m.1.sessions.map Session.link) (l : List α) (m : Mod × β) :
    (l.foldl f m).1.sessions.map Session.link = m.1.sessions.map Session.link :=
  foldl_keeps (fun m : Mod × β => m.1.sessions.map Session.link) f h l m

/-- Where `f` leaves a session on its link, setting it leaves the links. -/
@[simp] theorem setSession_sessionLinks (m : Mod) (i : Side) (sid : Word) (f : Session → Session) (h : ∀ t, (f t).link = t.link) :
    (m.setSession i sid f).sessions.map Session.link = m.sessions.map Session.link := by
  unfold Mod.setSession
  rw [List.map_map]
  refine List.map_congr_left fun t _ => ?_
  by_cases c : t.link = i ∧ t.id = sid <;> simp [c, h]

@[simp] theorem sendNow_sessionLinks (m : Mod) (i : Side) (p : OutPkt) :
    (m.sendNow i p).sessions.map Session.link = m.sessions.map Session.link := by
  unfold Mod.sendNow
  dsimp only
  split
  · exact setSession_sessionLinks _ _ _ _ fun _ => rfl
  · rfl

@[simp] theorem sendAll_sessionLinks (i : Side) (q : List OutPkt) (m : Mod) :
    (Mod.sendAll i q m).sessions.map Session.link = m.sessions.map Session.link := by
  induction q generalizing m with
  | nil => rfl
  | cons p q ih =>
    rw [Mod.sendAll]
    split
    · rw [ih, sendNow_sessionLinks]
    · rfl

@[simp] theorem eventTo_sessionLinks (m : Mod) (cls : Nat) (body : List Byte) (s : Session) :
    (m.eventTo cls body s).sessions.map Session.link = m.sessions.map Session.link := by
  unfold Mod.eventTo Mod.emit
  dsimp only
  split
  · exact setSession_sessionLinks _ _ _ _ fun _ => rfl
  split
  · exact setSession_sessionLinks _ _ _ _ fun _ => rfl
  · exact (sendAll_sessionLinks _ _ _).trans (setSession_sessionLinks _ _ _ _ fun _ => rfl)

theorem ite_links {c : Prop} [Decidable c] {m n : Mod} {l : List Side} (hm : m.sessions.map Session.link = l)
    (hn : n.sessions.map Session.link = l) : (if c then m else n).sessions.map Session.link = l := by
  split
  · exact hm
  · exact hn

section
variable (m : Mod)

/-! ### Ops -/

@[simp] theorem useFree_sessions (n : Nat) : (m.useFree n).sessions = m.sessions := rfl

@[simp] theorem fire_sessions (n : Nat) : (m.fire n).sessions = m.sessions := by
  simp [Mod.fire]

@[simp] theorem record_sessions (ty origin : Nat) (data : List Byte) : (m.record ty origin data).sessions = m.sessions := by
  simp [Mod.record]

@[simp] theorem resetRecord_sessions (origin cause leaf function straps prev : Nat) :
    (m.resetRecord origin cause leaf function straps prev).sessions = m.sessions := by
  simp [Mod.resetRecord]

@[simp] theorem pump_sessionLinks (i : Side) : (m.pump i).sessions.map Session.link = m.sessions.map Session.link := by
  simp [Mod.pump]

@[simp] theorem emit_sessionLinks (i : Side) (p : OutPkt) :
    (m.emit i p).sessions.map Session.link = m.sessions.map Session.link := by
  simp [Mod.emit]

@[simp] theorem sendReply_sessionLinks (w : Waiter) (flags status : Nat) (payload : List Byte) :
    (m.sendReply w flags status payload).sessions.map Session.link = m.sessions.map Session.link := by
  simp [Mod.sendReply]

@[simp] theorem hold_sessions (w : Waiter) (holder : Side) (status : Nat) (payload : List Byte) :
    (m.hold w holder status payload).sessions = m.sessions := rfl

@[simp] theorem done_sessionLinks (w : Waiter) (status : Nat) (payload : List Byte) :
    (m.done w status payload).sessions.map Session.link = m.sessions.map Session.link := by
  simp [Mod.done]

@[simp] theorem final_sessionLinks (w : Waiter) (status : Nat) (payload : List Byte) :
    (m.final w status payload).sessions.map Session.link = m.sessions.map Session.link := by
  simp [Mod.final]

@[simp] theorem finalTo_sessionLinks (w : Option Waiter) (status : Nat) (payload : List Byte) :
    (m.finalTo w status payload).sessions.map Session.link = m.sessions.map Session.link := by
  unfold Mod.finalTo
  split <;> simp

@[simp] theorem eventIf_sessionLinks (g : Session → Bool) (cls : Nat) (body : List Byte) :
    (m.eventIf g cls body).sessions.map Session.link = m.sessions.map Session.link := by
  simp [Mod.eventIf]

@[simp] theorem event_sessionLinks (cls : Nat) (body : List Byte) :
    (m.event cls body).sessions.map Session.link = m.sessions.map Session.link := by
  simp [Mod.event]

@[simp] theorem mediaRead_sessions : m.mediaRead.sessions = m.sessions := rfl

@[simp] theorem journal_sessions (e : JEntry) : (m.journal e).sessions = m.sessions := by
  unfold Mod.journal
  split <;> simp

@[simp] theorem journalInternal_sessions (kind status : Nat) (ref : Word) (launch : Option LaunchRec) :
    (m.journalInternal kind status ref launch).sessions = m.sessions := by
  simp [Mod.journalInternal]

/-! ### Flags -/

@[simp] theorem setMember_sessions (c : Circuit) (f : Context → Context) : (m.setMember c f).sessions = m.sessions := rfl

@[simp] theorem impair_sessionLinks (x : Context) (st : CState) (cause loop : Nat) :
    (m.impair x st cause loop).sessions.map Session.link = m.sessions.map Session.link := by
  simp [Mod.impair]

@[simp] theorem settleMembers_sessions : m.settleMembers.sessions = m.sessions := rfl

@[simp] theorem riskHeld_sessionLinks : m.riskHeld.sessions.map Session.link = m.sessions.map Session.link := by
  refine foldl_sessionLinks _ (fun m x => ?_) _ m
  split <;> simp

/-! ### Protocol -/

@[simp] theorem journalReq_sessions (r : Req) (status : Nat) : (m.journalReq r status).sessions = m.sessions := by
  simp [Mod.journalReq]

@[simp] theorem answer_sessionLinks (r : Req) (status : Nat) (payload : List Byte) :
    (answer r status payload m).sessions.map Session.link = m.sessions.map Session.link := by
  simp [answer]

@[simp] theorem refuse_sessionLinks (r : Req) (status : Nat) (d : List Byte) :
    (refuse r status d m).sessions.map Session.link = m.sessions.map Session.link := by
  simp [refuse]

@[simp] theorem pend_sessionLinks (r : Req) : (pend r m).sessions.map Session.link = m.sessions.map Session.link := by
  simp [pend]

@[simp] theorem later_sessions (r : Req) (e : Effect) : (later r e m).sessions = m.sessions := by
  simp [later]

@[simp] theorem malformed_sessionLinks (r : Req) : (malformed r m).sessions.map Session.link = m.sessions.map Session.link := by
  simp [malformed]

@[simp] theorem forget_sessions (i : Side) (sid : Word) (tag : BitVec 16) : (m.forget i sid tag).sessions = m.sessions := rfl

@[simp] theorem discard_sessions (i : Side) : (m.discard i).sessions = m.sessions := rfl

@[simp] theorem turnAway_sessionLinks (r : Req) (status : Nat) (d : List Byte) :
    (m.turnAway r status d).sessions.map Session.link = m.sessions.map Session.link := by
  simp [Mod.turnAway]

@[simp] theorem remember_sessions (o : Op) (r : Req) : (m.remember o r).sessions = m.sessions := rfl

@[simp] theorem credited_sessions (p : Packet) : (m.credited p).sessions = m.sessions := rfl

@[simp] theorem overLimit_sessionLinks (r : Req) (status : Nat) (d : List Byte) :
    (m.overLimit r status d).sessions.map Session.link = m.sessions.map Session.link := by
  simp [Mod.overLimit]

@[simp] theorem runSessionAuth_sessionLinks (proof : Option Proven) (r : Req) :
    (runSessionAuth proof r m).sessions.map Session.link = m.sessions.map Session.link := by
  unfold runSessionAuth
  dsimp only
  repeat' split
  all_goals simp

@[simp] theorem runResultRead_sessionLinks (r : Req) :
    (runResultRead r m).sessions.map Session.link = m.sessions.map Session.link := by
  unfold runResultRead
  dsimp only
  repeat' split
  all_goals simp

/-! ### Route -/

@[simp] theorem setPlan_sessions (id : Word) (f : Plan → Plan) : (m.setPlan id f).sessions = m.sessions := rfl

/-! ### Drive -/

@[simp] theorem beginStart_sessions (s : Start) : (m.beginStart s).sessions = m.sessions := rfl

@[simp] theorem requestStart_sessions (s : Start) : (m.requestStart s).sessions = m.sessions := by
  simp [Mod.requestStart]

@[simp] theorem driveTo_sessions (t : Int) (w : Nat) : (m.driveTo t w).sessions = m.sessions := by
  simp [Mod.driveTo]

@[simp] theorem fromCold_sessions (ws : List Nat) :
    (m.fromCold ws).sessions = m.sessions :=
  (foldl_sessions _ (fun m w => driveTo_sessions m _ w) ws _).trans (foldl_sessions _ (fun m w => setLoop_sessions m w _) ws m)

@[simp] theorem wake_sessions (code : Nat) : (m.wake code).sessions = m.sessions := by
  unfold Mod.wake
  split
  · rfl
  · split <;> simp

@[simp] theorem wakeFor_sessions (cs : List Circuit) : (m.wakeFor cs).sessions = m.sessions := by
  simp [Mod.wakeFor]

/-! ### Plans -/

@[simp] theorem refuseCommit_sessionLinks (r : Req) (status : Nat) (d : List Byte) (timed : Option Instant) :
    (refuseCommit r status d timed m).sessions.map Session.link = m.sessions.map Session.link := by
  simp [refuseCommit]

@[simp] theorem dropPlan_sessions (id : Word) : (m.dropPlan id).sessions = m.sessions := rfl

@[simp] theorem staged_sessions (pl : Plan) : (m.staged pl).sessions = m.sessions := rfl

@[simp] theorem checkDone_sessionLinks (id : Word) (prefer : List Nat) :
    (checkDone id prefer m).sessions.map Session.link = m.sessions.map Session.link := by
  unfold checkDone
  split
  · rfl
  · split <;> simp

@[simp] theorem enqueue_sessions (pl : Plan) (w : Option Waiter) (timed : Option Instant) (late : Bool) :
    (m.enqueue pl w timed late).sessions = m.sessions := by
  simp [Mod.enqueue]

@[simp] theorem runCircuit_sessionLinks (clear : Bool) (prefer : List Nat) (r : Req) :
    (runCircuit clear prefer r m).sessions.map Session.link = m.sessions.map Session.link := by
  unfold runCircuit
  dsimp only
  repeat' split
  all_goals simp

@[simp] theorem runPlanCommit_sessionLinks (r : Req) :
    (runPlanCommit r m).sessions.map Session.link = m.sessions.map Session.link := by
  unfold runPlanCommit
  dsimp only
  repeat' with_reducible apply ite_links
  case hn =>
    split
    · split <;> simp
    · repeat' with_reducible apply ite_links
      all_goals simp
  all_goals simp

@[simp] theorem endRun_sessions (why : EndWhy) : (m.endRun why).sessions = m.sessions := rfl

@[simp] theorem abortPlan_sessionLinks (id : Word) :
    (m.abortPlan id).sessions.map Session.link = m.sessions.map Session.link := by
  unfold Mod.abortPlan
  split <;> simp

@[simp] theorem runPlanAbort_sessionLinks (r : Req) :
    (runPlanAbort r m).sessions.map Session.link = m.sessions.map Session.link := by
  unfold runPlanAbort
  dsimp only
  split
  · simp
  · split <;> simp

@[simp] theorem runPlanQuery_sessionLinks (v : Mod) (r : Req) :
    (runPlanQuery v r m).sessions.map Session.link = m.sessions.map Session.link := by
  unfold runPlanQuery
  dsimp only
  repeat' split
  all_goals simp

/-! ### Commit -/

@[simp] theorem setRun_sessions (r : Running) : (m.setRun r).sessions = m.sessions := rfl

@[simp] theorem turnBack_sessions (i : Item) : (m.turnBack i).sessions = m.sessions := by
  unfold Mod.turnBack
  split <;> simp

@[simp] theorem notMade_sessions (i : Item) : (m.notMade i).1.sessions = m.sessions := by
  simp [Mod.notMade]

@[simp] theorem fixWaiting_sessions (r : Running) (prefer : List Nat) (i : Item) :
    (fixWaiting m r prefer i).1.sessions = m.sessions := by
  unfold fixWaiting
  dsimp only
  repeat' split
  all_goals simp

@[simp] theorem fixAll_sessions (r : Running) (prefer : List Nat) : (fixAll m r prefer).1.sessions = m.sessions := by
  refine foldl_fst_sessions _ (fun p i => ?_) _ _
  split <;> simp

@[simp] theorem advanceItem_sessions (r : Running) (mayRepair : Bool) (i : Item) :
    (advanceItem m r mayRepair i).1.sessions = m.sessions := by
  unfold advanceItem
  dsimp only
  repeat' split
  all_goals simp

@[simp] theorem advanceAll_sessions (r : Running) (mayRepair : Bool) : (advanceAll m r mayRepair).1.sessions = m.sessions := by
  refine foldl_fst_sessions _ (fun p i => ?_) _ _
  split <;> simp

@[simp] theorem driveItems_sessions (r : Running) : (m.driveItems r).sessions = m.sessions := by
  simp [Mod.driveItems]

@[simp] theorem prepare_sessions (r : Running) (ending : Bool) : (prepare m r ending).1.sessions = m.sessions := rfl

@[simp] theorem stepOn_sessions (r : Running) : (stepOn m r).sessions = m.sessions := by
  simp [stepOn]

@[simp] theorem dropWaiting_sessions (r : Running) : (dropWaiting m r).1.sessions = m.sessions := by
  refine foldl_fst_sessions _ (fun p i => ?_) _ _
  split <;> simp

@[simp] theorem stepEnd_sessions (r : Running) (why : EndWhy) : (stepEnd m r why).sessions = m.sessions := by
  unfold stepEnd
  dsimp only
  split <;> simp

@[simp] theorem engineStep_sessions (carried : Bool) : (m.engineStep carried).sessions = m.sessions := by
  unfold Mod.engineStep
  split
  · rfl
  split
  · rfl
  split
  · rfl
  · split <;> simp

@[simp] theorem fireBatch_sessions (failed : List Elem) (carried : List Nat) :
    (m.fireBatch failed carried).sessions = m.sessions := by
  unfold Mod.fireBatch
  split <;> simp

@[simp] theorem markStuck_sessions (e : Elem) : (m.markStuck e).sessions = m.sessions := by
  simp [Mod.markStuck]

@[simp] theorem breakMembers_sessionLinks : m.breakMembers.sessions.map Session.link = m.sessions.map Session.link := by
  simp [Mod.breakMembers]

@[simp] theorem readOne_sessionLinks (f : Fired) : (readOne m f).sessions.map Session.link = m.sessions.map Session.link := by
  simp [readOne]

@[simp] theorem readback_sessionLinks (arrived : BitVec 8) :
    (m.readback arrived).sessions.map Session.link = m.sessions.map Session.link := by
  simp [Mod.readback]

@[simp] theorem verify_sessions (got : List Nat) (drops : List (Nat × Int)) : (m.verify got drops).sessions = m.sessions := by
  unfold Mod.verify
  dsimp only
  split
  · simp
  · split <;> simp

@[simp] theorem unlaunch_sessionLinks (p : Plan) (status : Nat) (d : List Byte) :
    (m.unlaunch p status d).sessions.map Session.link = m.sessions.map Session.link := by
  simp [Mod.unlaunch]

@[simp] theorem cancelHost_sessions (w : Nat) : (m.cancelHost w).sessions = m.sessions := by
  simp [Mod.cancelHost]

@[simp] theorem launch_sessions (pl : Plan) (prefer : List Nat) : (m.launch pl prefer).sessions = m.sessions := by
  simp [Mod.launch]

@[simp] theorem tryLaunch_sessionLinks (prefer bad : List Nat) :
    (m.tryLaunch prefer bad).sessions.map Session.link = m.sessions.map Session.link := by
  unfold Mod.tryLaunch
  split
  · rfl
  split
  · simp
  split
  · simp
  · split <;> simp

@[simp] theorem reportBytes_sessions : m.reportBytes.sessions = m.sessions := rfl

@[simp] theorem stateEvent_sessionLinks (old : Nat) :
    (m.stateEvent old).sessions.map Session.link = m.sessions.map Session.link := by
  simp [Mod.stateEvent]

@[simp] theorem reportBroken_sessionLinks (r : Running) (old : List Context) :
    (m.reportBroken r old).sessions.map Session.link = m.sessions.map Session.link := by
  simp [Mod.reportBroken]

@[simp] theorem closeRun_sessionLinks (r : Running) (status : Nat) (gen : Word) (shown : List Nat) :
    (m.closeRun r status gen shown).sessions.map Session.link = m.sessions.map Session.link := by
  simp [Mod.closeRun]

@[simp] theorem endNow_sessionLinks (why : EndWhy) :
    (m.endNow why).sessions.map Session.link = m.sessions.map Session.link := by
  unfold Mod.endNow
  split <;> simp

@[simp] theorem dropQueue_sessionLinks (status : Nat) :
    (m.dropQueue status).sessions.map Session.link = m.sessions.map Session.link := by
  simp [Mod.dropQueue]

@[simp] theorem stopRun_sessions (why : EndWhy) : (m.stopRun why).sessions = m.sessions := by
  unfold Mod.stopRun
  split <;> simp

@[simp] theorem holdEngine_sessionLinks : m.holdEngine.sessions.map Session.link = m.sessions.map Session.link := by
  simp [Mod.holdEngine]

@[simp] theorem refreshStandIns_sessions : m.refreshStandIns.sessions = m.sessions := by
  refine foldl_sessions _ (fun m p => foldl_sessions _ (fun m k => ?_) _ m) _ _
  split <;> rfl

@[simp] theorem engineWork_sessions (prefer : List Nat) :
    (m.engineWork prefer).1.sessions = m.sessions := refreshStandIns_sessions m

@[simp] theorem startEngine_sessions (prefer : List Nat) : (m.startEngine prefer).sessions = m.sessions := by
  simp [Mod.startEngine]

@[simp] theorem rebuild_sessions : m.rebuild.sessions = m.sessions := rfl

/-! ### Trowel -/

@[simp] theorem sweepStep_sessions (k : Nat) : (m.sweepStep k).sessions = m.sessions := by
  simp [Mod.sweepStep]

@[simp] theorem sumSats_sessions (k : Nat) (sats : List Nat) : (m.sumSats k sats).sessions = m.sessions := rfl

@[simp] theorem traceStep_sessions (carried : List Nat) (sats : List (Nat × List Nat)) :
    (m.traceStep carried sats).sessions = m.sessions := by
  unfold Mod.traceStep
  split <;> simp

@[simp] theorem traceFlag_sessions : m.traceFlag.sessions = m.sessions := by
  unfold Mod.traceFlag
  split <;> simp

@[simp] theorem interruptTrace_sessions (i : Side) : (m.interruptTrace i).sessions = m.sessions := rfl

@[simp] theorem computeOne_sessionLinks (readings : List (Nat × Int)) (p : Mod × List (Nat × List Nat)) (k : Nat) :
    (computeOne readings p k).1.sessions.map Session.link = p.1.sessions.map Session.link := by
  simp [computeOne]

@[simp] theorem computeGroups_sessionLinks (c : ComputeIn) (car : List Nat) :
    (m.computeGroups c car).sessions.map Session.link = m.sessions.map Session.link := by
  simp [Mod.computeGroups]

@[simp] theorem ffMiss_sessions : m.ffMiss.sessions = m.sessions := rfl

@[simp] theorem runLoopMode_sessionLinks (r : Req) :
    (runLoopMode r m).sessions.map Session.link = m.sessions.map Session.link := by
  unfold runLoopMode
  dsimp only
  repeat' split
  all_goals simp

@[simp] theorem runLoopSetpoint_sessionLinks (r : Req) :
    (runLoopSetpoint r m).sessions.map Session.link = m.sessions.map Session.link := by
  unfold runLoopSetpoint
  dsimp only
  split
  · simp
  · split <;> simp

@[simp] theorem applyLoopMode_sessions (k mode : Nat) (out : Int) : (m.applyLoopMode k mode out).sessions = m.sessions := by
  simp [Mod.applyLoopMode]

@[simp] theorem applySetpoint_sessions (k : Nat) (v : Int) : (m.applySetpoint k v).sessions = m.sessions := by
  simp [Mod.applySetpoint]

@[simp] theorem runTraceArm_sessionLinks (r : Req) :
    (runTraceArm r m).sessions.map Session.link = m.sessions.map Session.link := by
  unfold runTraceArm
  dsimp only
  repeat' with_reducible apply ite_links
  case hn =>
    split
    · simp
    · split <;> simp
  all_goals simp

@[simp] theorem applyParams_sessions : m.applyParams.sessions = m.sessions := rfl

@[simp] theorem setExps_sessions (g : Nat) (new : List Int) : (m.setExps g new).sessions = m.sessions := by
  refine foldl_sessions _ (fun m x => ?_) _ _
  simp

@[simp] theorem clearTrowel_sessions : m.clearTrowel.sessions = m.sessions := rfl

@[simp] theorem restartLoops_sessions : m.restartLoops.sessions = m.sessions := by
  unfold Mod.restartLoops
  exact foldl_sessions _ (fun m k => setLoop_sessions m k _) _ m

@[simp] theorem parkAll_sessions : m.parkAll.sessions = m.sessions := rfl

/-! ### Cal -/

@[simp] theorem refCheck_sessions (refs : List Nat) : (refCheck refs m).sessions = m.sessions := rfl

@[simp] theorem scaleTick_sessions : m.scaleTick.sessions = m.sessions := rfl

@[simp] theorem calTriggers_sessions : m.calTriggers.sessions = m.sessions := by
  simp [Mod.calTriggers]

@[simp] theorem passProbes_sessions : m.passProbes.sessions = m.sessions := by
  refine foldl_sessions _ (fun m s => ?_) _ m
  split
  · rfl
  · split <;> rfl

@[simp] theorem calTap_sessions (c u : Nat) (p : Mod × CalCount) (t : CalTap) : (calTap c u p t).1.sessions = p.1.sessions := by
  unfold calTap
  dsimp only
  split
  · simp
  · split <;> simp

@[simp] theorem calRunUnit_sessions (c u : Nat) (taps : List CalTap) : (calRunUnit c u taps m).sessions = m.sessions := by
  simp [calRunUnit]

@[simp] theorem startRun_sessions (c u : Nat) (taps : List CalTap) : (startRun c u taps m).sessions = m.sessions := by
  simp [startRun]

@[simp] theorem fireTests_sessions (failed : List Elem) (late : List Nat) :
    (m.fireTests failed late).sessions = m.sessions := by
  simp [Mod.fireTests]

@[simp] theorem swapIn_sessions (x : ChanSwap) : (m.swapIn x).sessions = m.sessions := rfl

@[simp] theorem beginSwaps_sessions (t : CalTest) : (m.beginSwaps t).sessions = m.sessions := by
  simp [Mod.beginSwaps]

@[simp] theorem sweepOne_sessions (t : CalTest) (x : Nat × Nat) : (sweepOne t m x).sessions = m.sessions := by
  simp [sweepOne]

@[simp] theorem calRuns_sessions : m.calRuns.sessions = m.sessions := by
  have swaps (l : List ChanSwap) (m : Mod) : (l.foldl Mod.swapIn m).sessions = m.sessions := foldl_sessions _ swapIn_sessions l m
  simp [Mod.calRuns, swaps]

@[simp] theorem absorb_sessions (k : Nat) (old new : Rat) : (m.absorb k old new).sessions = m.sessions := rfl

@[simp] theorem applyRow_sessions (key : Nat × Nat × Nat) (v : Int × Int × Int) :
    (m.applyRow key v).sessions = m.sessions := rfl

@[simp] theorem applyOne_sessions (x : (Nat × Nat × Nat) × (Int × Int × Int)) : (applyOne m x).sessions = m.sessions := by
  unfold applyOne
  dsimp only
  split <;> simp

@[simp] theorem relockOne_sessions (w : Nat) : (m.relockOne w).sessions = m.sessions := by
  simp [Mod.relockOne]

@[simp] theorem applyCal_sessions : m.applyCal.sessions = m.sessions := by
  simp [Mod.applyCal]

@[simp] theorem runCalRun_sessionLinks (r : Req) : (runCalRun r m).sessions.map Session.link = m.sessions.map Session.link := by
  simp [runCalRun, foldl_sessions _ (fun m k => setCalClass_sessions m k _)]

@[simp] theorem calDone_sessionLinks : (calDone m).sessions.map Session.link = m.sessions.map Session.link := by
  unfold calDone
  split <;> simp

@[simp] theorem flagWindow_sessionLinks (w : Nat) :
    (flagWindow w m).sessions.map Session.link = m.sessions.map Session.link := by
  simp [flagWindow]

@[simp] theorem sweepEnd_sessions (w : Nat) (lit peak : Bool) : (sweepEnd w lit peak m).sessions = m.sessions := by
  simp [sweepEnd]

@[simp] theorem endSweeps_sessions : m.endSweeps.sessions = m.sessions := by
  simp [Mod.endSweeps]

@[simp] theorem beginSweep_sessions (w : Nat) : (beginSweep w m).sessions = m.sessions := rfl

@[simp] theorem loseFlagged_sessionLinks (w : Nat) :
    (loseFlagged w m).sessions.map Session.link = m.sessions.map Session.link := by
  simp [loseFlagged]

/-! ### MortarRun -/

@[simp] theorem cleanCourses_sessions (l : List Nat) : (m.cleanCourses l).sessions = m.sessions := by
  refine foldl_sessions _ (fun m x => ?_) _ _
  simp

@[simp] theorem endJob_sessionLinks (slot reason code : Nat) :
    (m.endJob slot reason code).sessions.map Session.link = m.sessions.map Session.link := by
  unfold Mod.endJob
  split <;> simp

@[simp] theorem jobFlag_sessions (c : Nat) (b : BitVec 3) : (m.jobFlag c b).sessions = m.sessions := by
  unfold Mod.jobFlag
  split <;> simp

@[simp] theorem saturated_sessions (c : Nat) : (m.saturated c).sessions = m.sessions := by
  simp [Mod.saturated]

@[simp] theorem outOfRange_sessions (c n : Nat) : (m.outOfRange c n).sessions = m.sessions := by
  simp [Mod.outOfRange]

@[simp] theorem mismatched_sessions (c n : Nat) : (m.mismatched c n).sessions = m.sessions := by
  unfold Mod.mismatched
  dsimp only
  split
  · simp
  · split <;> simp

@[simp] theorem courseErrors_sessions (c kind n : Nat) : (m.courseErrors c kind n).sessions = m.sessions := rfl

@[simp] theorem made_sessions (c : Nat) (k : Made) : (m.made c k).sessions = m.sessions := by
  simp [Mod.made]

@[simp] theorem setReg_sessions (c : Nat) (n : BitVec 8) (v : BitVec 64) : (m.setReg c n v).sessions = m.sessions := rfl

@[simp] theorem tensorOp_sessions (c : Nat) (srcs dsts : List Desc) (f : Made → Made) :
    (tensorOp c srcs dsts f m).1.sessions = m.sessions := by
  unfold tensorOp
  split <;> simp

@[simp] theorem felsoAfter_sessions (c : Nat) : (m.felsoAfter c).sessions = m.sessions := rfl

@[simp] theorem stopJob_sessionLinks (c : Nat) (e : Stop) :
    (m.stopJob c e).sessions.map Session.link = m.sessions.map Session.link := by
  unfold Mod.stopJob
  split <;> simp

@[simp] theorem passed_sessions (cls c : Nat) : (m.passed cls c).sessions = m.sessions := rfl

@[simp] theorem perform_sessionLinks (cls op c : Nat) (w : MWord) (run : Mod → Ran)
    (h : (run m).1.sessions.map Session.link = m.sessions.map Session.link) :
    (m.perform cls op c w run).sessions.map Session.link = m.sessions.map Session.link := by
  unfold Mod.perform
  split
  · exact stopJob_sessionLinks m c _
  · split
    next n e => simpa only [e] using h
    next n x e => simpa only [e, stopJob_sessionLinks] using h

/-! ### MortarMath -/

@[simp] theorem matrix_sessions (c : Nat) (w : MWord) (srcs : List Desc) (a d : Desc) (f : Desc → Made → Made) :
    (matrix c w srcs a d f m).1.sessions = m.sessions := by
  unfold matrix
  dsimp only
  split
  · simp
  · split <;> simp

@[simp] theorem runMmaw_sessions (c : Nat) (w : MWord) : (runMmaw c w m).1.sessions = m.sessions := by
  unfold runMmaw
  dsimp only
  split <;> simp

@[simp] theorem runExpal_sessions (c : Nat) (w : MWord) : (runExpal c w m).1.sessions = m.sessions := by
  unfold runExpal
  dsimp only
  split <;> simp

/-! ### MortarFlow -/

@[simp] theorem exchanged_sessions (team : List Nat) : (m.exchanged team).sessions = m.sessions := by
  simp [Mod.exchanged]

@[simp] theorem runExchange_sessions (c : Nat) (w : MWord) (sends : Mod → Bool) :
    (runExchange c w sends m).1.sessions = m.sessions := by
  unfold runExchange
  dsimp only
  split <;> simp

@[simp] theorem runXbar_sessions (c : Nat) : (runXbar c m).1.sessions = m.sessions := by
  unfold runXbar
  dsimp only
  split
  · refine (foldl_sessions _ (fun m x => ?_) _ _).trans rfl
    exact passed_sessions _ _ _
  · rfl

@[simp] theorem runLds_sessions (c : Nat) (w : MWord) : (runLds c w m).1.sessions = m.sessions := by
  unfold runLds
  split <;> simp

@[simp] theorem runSts_sessions (c : Nat) (w : MWord) : (runSts c w m).1.sessions = m.sessions := by
  unfold runSts
  split <;> simp

@[simp] theorem runDma_sessions (c : Nat) (into : Bool) (desc : BitVec 8) (off : BitVec 64) (stride : Option (BitVec 64))
    (w : MWord) :
    (runDma c into desc off stride w m).1.sessions = m.sessions := by
  unfold runDma
  dsimp only
  split
  · simp
  · split <;> simp

@[simp] theorem runDma2d_sessions (c : Nat) (w : MWord) : (runDma2d c w m).1.sessions = m.sessions := by
  unfold runDma2d
  split <;> simp

@[simp] theorem indexed_sessions (keeps : Bool) (c : Nat) (w : MWord) (limit : Desc → Desc → Nat)
    (f : Made → Desc → Desc → List Nat → Made) :
    (indexed keeps c w limit f m).1.sessions = m.sessions := by
  unfold indexed
  dsimp only
  split
  · simp
  · split <;> simp

@[simp] theorem runSnap_sessions (v : Mod) (c : Nat) (w : MWord) : (runSnap v c w m).1.sessions = m.sessions := by
  unfold runSnap
  dsimp only
  repeat' split
  all_goals simp

@[simp] theorem goto_sessions (c pc : Nat) : (m.goto c pc).1.sessions = m.sessions := rfl

@[simp] theorem runBrc_sessions (c : Nat) (w : MWord) : (runBrc c w m).1.sessions = m.sessions := by
  unfold runBrc
  split <;> simp

@[simp] theorem runRet_sessions (c : Nat) : (runRet c m).1.sessions = m.sessions := by
  unfold runRet
  split <;> simp

@[simp] theorem runLoop_sessions (c : Nat) (w : MWord) : (runLoop c w m).1.sessions = m.sessions := by
  unfold runLoop
  dsimp only
  split <;> simp

@[simp] theorem runEndl_sessions (c : Nat) : (runEndl c m).1.sessions = m.sessions := by
  unfold runEndl
  dsimp only
  repeat' split
  all_goals simp

@[simp] theorem runEnd_sessionLinks (c reason : Nat) (w : MWord) :
    (runEnd c reason w m).1.sessions.map Session.link = m.sessions.map Session.link := by
  unfold runEnd
  split <;> simp

@[simp] theorem runGstat_sessions (c : Nat) (w : MWord) : (runGstat c w m).1.sessions = m.sessions := by
  unfold runGstat
  split <;> simp

@[simp] theorem runFlagclr_sessions (c : Nat) (w : MWord) : (runFlagclr c w m).1.sessions = m.sessions := by
  unfold runFlagclr
  split <;> simp

@[simp] theorem propose_sessions (slot course : Nat) (id : Word) (buf : List Byte) :
    (m.propose slot course id buf).1.sessions = m.sessions := by
  unfold Mod.propose
  dsimp only
  repeat' split
  all_goals simp

@[simp] theorem runProp_sessions (c : Nat) (w : MWord) : (runProp c w m).1.sessions = m.sessions := by
  unfold runProp
  split
  · rfl
  · next n j _ =>
    extract_lets o len id q n' n''
    have hq : q.1.sessions = m.sessions := propose_sessions m n c id _
    clear_value q len
    split
    · rfl
    · rw [setReg_sessions, setReg_sessions, setJob_sessions, journalInternal_sessions, hq]

/-! ### MortarJobs -/

@[simp] theorem runJobLoad_sessionLinks (r : Req) :
    (runJobLoad r m).sessions.map Session.link = m.sessions.map Session.link := by
  unfold runJobLoad
  dsimp only
  split
  · simp
  split
  · simp
  split
  · simp
  split
  · simp
  split
  · simp
  split
  · split
    · simp
    · split <;> simp
  · split <;> simp

@[simp] theorem verifyDone_sessions (slot : Nat) (proof : Option Proven) : (verifyDone slot proof m).sessions = m.sessions := by
  unfold verifyDone
  split
  · rfl
  · split <;> simp

@[simp] theorem applyStart_sessionLinks (slot : Nat) (w : Waiter) (cs : List Nat) (mib : Nat) :
    (m.applyStart slot w cs mib).sessions.map Session.link = m.sessions.map Session.link := by
  unfold Mod.applyStart
  split
  · simp
  · split <;> simp

@[simp] theorem restore_sessions (cs : List Nat) (saved : List Course) : (m.restore cs saved).sessions = m.sessions := by
  simp [Mod.restore]

@[simp] theorem applyResume_sessions (slot : Nat) : (m.applyResume slot).sessions = m.sessions := by
  unfold Mod.applyResume
  split
  · rfl
  · split <;> simp

@[simp] theorem applyStop_sessionLinks (slot : Nat) :
    (m.applyStop slot).sessions.map Session.link = m.sessions.map Session.link := by
  unfold Mod.applyStop
  split <;> simp

@[simp] theorem runJobStart_sessionLinks (r : Req) :
    (runJobStart r m).sessions.map Session.link = m.sessions.map Session.link := by
  unfold runJobStart
  dsimp only
  apply ite_links
  · simp
  apply ite_links
  · simp
  split
  · simp
  repeat' with_reducible apply ite_links
  all_goals simp

@[simp] theorem beginPause_sessions (slot : Nat) : (m.beginPause slot).sessions = m.sessions := rfl

@[simp] theorem runJobPause_sessionLinks (r : Req) :
    (runJobPause r m).sessions.map Session.link = m.sessions.map Session.link := by
  unfold runJobPause
  split
  · simp
  · split <;> simp

@[simp] theorem saveDone_sessions (slot : Nat) : (saveDone slot m).sessions = m.sessions := by
  unfold saveDone
  split <;> simp

@[simp] theorem runJobResume_sessionLinks (r : Req) :
    (runJobResume r m).sessions.map Session.link = m.sessions.map Session.link := by
  unfold runJobResume
  dsimp only
  split
  · simp
  · split <;> simp

@[simp] theorem runJobStop_sessionLinks (r : Req) :
    (runJobStop r m).sessions.map Session.link = m.sessions.map Session.link := by
  unfold runJobStop
  split
  · simp
  · split <;> simp

@[simp] theorem runJobQuery_sessionLinks (v : Mod) (r : Req) :
    (runJobQuery v r m).sessions.map Session.link = m.sessions.map Session.link := by
  unfold runJobQuery
  split
  · simp
  · split <;> simp

@[simp] theorem dmaMove_sessions (c slot : Nat) (t : Dma) (region : Memory) :
    (m.dmaMove c slot t region).sessions = m.sessions := by
  simp [Mod.dmaMove]

@[simp] theorem dmaDone_sessionLinks (c : Nat) (tag : BitVec 8) (bad : Option Nat) :
    (dmaDone c tag bad m).sessions.map Session.link = m.sessions.map Session.link := by
  unfold dmaDone
  dsimp only
  repeat' split
  all_goals simp

@[simp] theorem detChange_sessions : m.detChange.sessions = m.sessions := rfl

@[simp] theorem detTick_sessions : m.detTick.sessions = m.sessions := by
  simp [Mod.detTick]

@[simp] theorem setReserved_sessions (l : List Nat) : (m.setReserved l).sessions = m.sessions := rfl

@[simp] theorem leavesSet_sessionLinks (c reason : Nat) :
    (leavesSet c reason m).sessions.map Session.link = m.sessions.map Session.link := by
  unfold leavesSet
  split <;> simp

@[simp] theorem failTick_sessionLinks : m.failTick.sessions.map Session.link = m.sessions.map Session.link := by
  refine foldl_sessionLinks _ (fun m c => ?_) _ m
  split <;> simp

@[simp] theorem solveOver_sessions (v : Solve) : (m.solveOver v).sessions = m.sessions := rfl

@[simp] theorem solveFailed_sessionLinks (v : Solve) :
    (m.solveFailed v).sessions.map Session.link = m.sessions.map Session.link := by
  simp [Mod.solveFailed]

@[simp] theorem clientErrs_sessionLinks (c kind : Nat) :
    (m.clientErrs c kind).sessions.map Session.link = m.sessions.map Session.link := by
  unfold Mod.clientErrs
  split <;> simp

@[simp] theorem courseFail_sessionLinks (c kind : Nat) :
    (courseFail c kind m).sessions.map Session.link = m.sessions.map Session.link := by
  simp [courseFail]

@[simp] theorem partnerReturn_sessions : (partnerReturn m).sessions = m.sessions := by
  unfold partnerReturn
  split
  · rfl
  · split <;> simp

@[simp] theorem thermalSlice_sessions (first second : List (Nat × BitVec 16)) :
    (thermalSlice first second m).sessions = m.sessions := by
  simp [thermalSlice]

@[simp] theorem runPlanSolve_sessionLinks (r : Req) :
    (runPlanSolve r m).sessions.map Session.link = m.sessions.map Session.link := by
  unfold runPlanSolve
  dsimp only
  repeat' split
  all_goals simp

@[simp] theorem solveDone_sessionLinks (result : SolveResult) (prefer : List Nat) (v : Solve) :
    (solveDone result prefer v m).sessions.map Session.link = m.sessions.map Session.link := by
  unfold solveDone
  dsimp only
  repeat' split
  all_goals simp

/-! ### Lasers -/

@[simp] theorem laserRecord_sessions (k partner event : Nat) : (m.laserRecord k partner event).sessions = m.sessions := by
  simp [Mod.laserRecord]

@[simp] theorem handOver_sessions (k : Nat) : (handOver k m).sessions = m.sessions := by
  unfold handOver
  split <;> simp

@[simp] theorem setSwitch_sessions (k : Nat) : (m.setSwitch k).sessions = m.sessions := by
  unfold Mod.setSwitch
  dsimp only
  split <;> simp

@[simp] theorem setSwitches_sessions : m.setSwitches.sessions = m.sessions := by
  simp [Mod.setSwitches]

@[simp] theorem endHandover_sessions (k : Nat) : (m.endHandover k).sessions = m.sessions := by
  unfold Mod.endHandover
  split <;> simp

@[simp] theorem endHandovers_sessions : m.endHandovers.sessions = m.sessions := by
  simp [Mod.endHandovers]

@[simp] theorem spaceSpare_sessions (set : List Nat × Nat) : (m.spaceSpare set).sessions = m.sessions := by
  simp [Mod.spaceSpare]

@[simp] theorem spaceSpares_sessions : m.spaceSpares.sessions = m.sessions := by
  simp [Mod.spaceSpares]

@[simp] theorem failOver_sessions (k : Nat) : (failOver k m).sessions = m.sessions := by
  unfold failOver
  dsimp only
  split <;> simp

@[simp] theorem failSpare_sessions (k : Nat) : (failSpare k m).sessions = m.sessions := by
  simp [failSpare]

@[simp] theorem failProbe_sessions (k : Nat) : (failProbe k m).sessions = m.sessions := by
  simp [failProbe]

@[simp] theorem failLaser_sessions (k : Nat) : (m.failLaser k).sessions = m.sessions := by
  simp [Mod.failLaser]

@[simp] theorem failLasers_sessions : m.failLasers.sessions = m.sessions := by
  simp [Mod.failLasers]

@[simp] theorem event3_sessionLinks (p cause : Nat) (data : List Byte) :
    (m.event3 p cause data).sessions.map Session.link = m.sessions.map Session.link := by
  simp [Mod.event3]

@[simp] theorem closeShutter_sessionLinks (p : Nat) :
    (m.closeShutter p).sessions.map Session.link = m.sessions.map Session.link := by
  simp [Mod.closeShutter]

@[simp] theorem darkenDue_sessions : m.darkenDue.sessions = m.sessions := rfl

@[simp] theorem actuateShutter_sessionLinks (p : Nat) :
    (m.actuateShutter p).sessions.map Session.link = m.sessions.map Session.link := by
  simp [Mod.actuateShutter]

@[simp] theorem actuateShutters_sessionLinks : m.actuateShutters.sessions.map Session.link = m.sessions.map Session.link := by
  simp [Mod.actuateShutters]

@[simp] theorem closeAll_sessionLinks : m.closeAll.sessions.map Session.link = m.sessions.map Session.link := by
  simp [Mod.closeAll]

@[simp] theorem loseSignal_sessionLinks (p : Nat) :
    (m.loseSignal p).sessions.map Session.link = m.sessions.map Session.link := by
  simp [Mod.loseSignal]

/-! ### Osc -/

@[simp] theorem stepRecord_sessions (base source : Nat) (off : Instant) :
    (m.stepRecord base source off).sessions = m.sessions := by
  simp [Mod.stepRecord]

@[simp] theorem stepFabric_sessions (source : Nat) (off : Instant) : (m.stepFabric source off).sessions = m.sessions := by
  simp [Mod.stepFabric]

@[simp] theorem servo_sessions (off : Int) : (m.servo off).sessions = m.sessions := by
  simp [Mod.servo]

@[simp] theorem holdover_sessions (rate : Int) : (m.holdover rate).sessions = m.sessions := rfl

@[simp] theorem setUpstream_sessions (p : Option Nat) : (m.setUpstream p).sessions = m.sessions := by
  unfold Mod.setUpstream
  split <;> simp

@[simp] theorem sendFrames_sessions : m.sendFrames.sessions = m.sessions := rfl

@[simp] theorem checkChanged_sessionLinks (p : Nat) :
    (m.checkChanged p).sessions.map Session.link = m.sessions.map Session.link := by
  unfold Mod.checkChanged
  dsimp only
  split <;> simp

@[simp] theorem neighFlags_sessionLinks (p : Nat) :
    (m.neighFlags p).sessions.map Session.link = m.sessions.map Session.link := by
  simp [Mod.neighFlags]

@[simp] theorem neighState_sessionLinks (p : Nat) :
    (m.neighState p).sessions.map Session.link = m.sessions.map Session.link := by
  simp [Mod.neighState]

@[simp] theorem takeTime_sessions (f : OscFrame) : (m.takeTime f).sessions = m.sessions := by
  simp [Mod.takeTime]

@[simp] theorem oscRx_sessionLinks (f : OscFrame) : (oscRx f m).sessions.map Session.link = m.sessions.map Session.link := by
  simp [oscRx]

@[simp] theorem neighTick_sessionLinks (p : Nat) : (m.neighTick p).sessions.map Session.link = m.sessions.map Session.link := by
  simp [Mod.neighTick]

@[simp] theorem neighTicks_sessionLinks : m.neighTicks.sessions.map Session.link = m.sessions.map Session.link := by
  simp [Mod.neighTicks]

@[simp] theorem runBlinkOpen_sessionLinks (r : Req) :
    (runBlinkOpen r m).sessions.map Session.link = m.sessions.map Session.link := by
  unfold runBlinkOpen
  dsimp only
  repeat' with_reducible apply ite_links
  all_goals simp

@[simp] theorem openBlink_sessions (w : Waiter) (scope : BitVec 512) (ticks : Nat) :
    (m.openBlink w scope ticks).sessions = m.sessions := rfl

@[simp] theorem closeBlink_sessionLinks (status : Nat) (d : List Byte) :
    (m.closeBlink status d).sessions.map Session.link = m.sessions.map Session.link := by
  unfold Mod.closeBlink
  split <;> simp

/-! ### Time -/

@[simp] theorem answerTime_sessionLinks : m.answerTime.sessions.map Session.link = m.sessions.map Session.link := by
  simp [Mod.answerTime]

@[simp] theorem applyHostTime_sessions (t : Instant) : (m.applyHostTime t).sessions = m.sessions := rfl

@[simp] theorem applyTimeRate_sessions (base : Nat) (ppb : Int) : (m.applyTimeRate base ppb).sessions = m.sessions := by
  simp [Mod.applyTimeRate]

@[simp] theorem lateBy_sessions (old : Instant) : (m.lateBy old).sessions = m.sessions := rfl

@[simp] theorem applyTimeStep_sessions (base : Nat) (t : Instant) : (m.applyTimeStep base t).sessions = m.sessions := by
  simp [Mod.applyTimeStep]

@[simp] theorem rootStep_sessions (held : Int) (fstate : Nat) : (m.rootStep held fstate).sessions = m.sessions := by
  simp [Mod.rootStep]

@[simp] theorem rootTick_sessions : m.rootTick.sessions = m.sessions := by
  simp [Mod.rootTick]

@[simp] theorem advanceTime_sessions : m.advanceTime.sessions = m.sessions := rfl

@[simp] theorem ppsServo_sessions (edge : Nat) : (m.ppsServo edge).sessions = m.sessions := by
  simp [Mod.ppsServo]

@[simp] theorem ppsEdge_sessions (time : Nat) : (ppsEdge time m).sessions = m.sessions := by
  unfold ppsEdge
  dsimp only
  repeat' split
  all_goals simp

@[simp] theorem launchBody_sessionLinks (l : Sched) :
    (launchBody l m).sessions.map Session.link = m.sessions.map Session.link := by
  simp [launchBody]

@[simp] theorem sendLaunched_sessionLinks : m.sendLaunched.sessions.map Session.link = m.sessions.map Session.link := by
  simp [Mod.sendLaunched]

/-! ### Power -/

@[simp] theorem beginEntry_sessions (d : Nat) (goal : DState) : (m.beginEntry d goal).sessions = m.sessions := rfl

@[simp] theorem courseTick_sessions (d : Domain) : (m.courseTick d).sessions = m.sessions := by
  unfold Mod.courseTick
  split <;> simp

@[simp] theorem idleTick_sessions (b : Mod) (d : Domain) : (m.idleTick b d).sessions = m.sessions := by
  unfold Mod.idleTick
  dsimp only
  split <;> simp

@[simp] theorem powerTick_sessions (m b : Mod) : (m.powerTick b).sessions = m.sessions := by
  simp [Mod.powerTick]

@[simp] theorem lower_sessions (d : Nat) (st : DState) : (m.lower d st).sessions = m.sessions := by
  unfold Mod.lower
  split
  · simp
  split
  · rfl
  split
  · exact foldl_sessions _ (fun m k => setLoop_sessions m k _) _ _
  · rfl

@[simp] theorem endEntry_sessions (d : Nat) (abandon : Bool) : (endEntry d abandon m).sessions = m.sessions := by
  unfold endEntry
  split
  · rfl
  · simp

@[simp] theorem applyPower_sessions (d q : Nat) : (m.applyPower d q).sessions = m.sessions := by
  simp [Mod.applyPower]

@[simp] theorem applyIdle_sessions (cls ticks : Nat) : (m.applyIdle cls ticks).sessions = m.sessions := rfl

@[simp] theorem resetDomains_sessions : m.resetDomains.sessions = m.sessions := rfl

/-! ### Security -/

@[simp] theorem imageRecord_sessions (event slot : Nat) (img : Slot) (link : Nat) :
    (m.imageRecord event slot img link).sessions = m.sessions := by
  simp [Mod.imageRecord]

@[simp] theorem keyRecord_sessions (op : Nat) (k : Key) (by_ : Nat) (label : List Byte) :
    (m.keyRecord op k by_ label).sessions = m.sessions := by
  simp [Mod.keyRecord]

@[simp] theorem applyEnrol_sessions (k : Key) (by_ : Nat) : (m.applyEnrol k by_).sessions = m.sessions := by
  simp [Mod.applyEnrol]

@[simp] theorem applyRevoke_sessionLinks (id : Word) (by_ : Nat) (label : List Byte) :
    (m.applyRevoke id by_ label).sessions.map Session.link = m.sessions.map Session.link := by
  unfold Mod.applyRevoke
  split
  · rfl
  · rw [keyRecord_sessions, List.map_map]
    refine List.map_congr_left fun t _ => ?_
    by_cases c : t.keyId = some id <;> simp [c]

@[simp] theorem runKeyEnrol_sessionLinks (r : Req) :
    (runKeyEnrol r m).sessions.map Session.link = m.sessions.map Session.link := by
  unfold runKeyEnrol
  dsimp only
  repeat' split
  all_goals simp

@[simp] theorem unlockRecord_sessions (event target key : Nat) : (m.unlockRecord event target key).sessions = m.sessions := by
  simp [Mod.unlockRecord]

@[simp] theorem unlockTarget_sessions (t key : Nat) : (m.unlockTarget t key).sessions = m.sessions := by
  simp [Mod.unlockTarget]

@[simp] theorem relockTarget_sessions (t event : Nat) : (m.relockTarget t event).sessions = m.sessions := by
  simp [Mod.relockTarget]

@[simp] theorem runUnlockResponse_sessionLinks (proof : Option Proven) (r : Req) :
    (runUnlockResponse proof r m).sessions.map Session.link = m.sessions.map Session.link := by
  unfold runUnlockResponse
  dsimp only
  repeat' split
  all_goals simp

@[simp] theorem endUnlock_sessionLinks (moved : Bool) :
    (m.endUnlock moved).sessions.map Session.link = m.sessions.map Session.link := by
  unfold Mod.endUnlock
  split <;> simp

@[simp] theorem yieldSlot_sessionLinks (w : Waiter) :
    (m.yieldSlot w).sessions.map Session.link = m.sessions.map Session.link := by
  unfold Mod.yieldSlot
  split <;> simp

@[simp] theorem dropBuffer_sessions (w : Waiter) : (m.dropBuffer w).sessions = m.sessions := rfl

@[simp] theorem runFwStageBegin_sessionLinks (r : Req) :
    (runFwStageBegin r m).sessions.map Session.link = m.sessions.map Session.link := by
  unfold runFwStageBegin
  dsimp only
  repeat' split
  all_goals simp

@[simp] theorem runFwStageData_sessionLinks (r : Req) :
    (runFwStageData r m).sessions.map Session.link = m.sessions.map Session.link := by
  unfold runFwStageData
  dsimp only
  repeat' split
  all_goals simp

@[simp] theorem runFwStageEnd_sessionLinks (proof : Option Proven) (r : Req) :
    (runFwStageEnd proof r m).sessions.map Session.link = m.sessions.map Session.link := by
  unfold runFwStageEnd
  dsimp only
  repeat' split
  all_goals simp

@[simp] theorem confirm_sessions (link : Nat) : (m.confirm link).sessions = m.sessions := by
  simp [Mod.confirm]

@[simp] theorem goldenDone_sessions : m.goldenDone.sessions = m.sessions := rfl

@[simp] theorem fallBack_sessions : m.fallBack.sessions = m.sessions := by
  simp [Mod.fallBack]

@[simp] theorem trialTick_sessions : m.trialTick.sessions = m.sessions := rfl

@[simp] theorem finishSlots_sessions : m.finishSlots.sessions = m.sessions := by
  simp [Mod.finishSlots]

@[simp] theorem activate_sessions (b : BootIn) : (m.activate b).sessions = m.sessions := by
  simp [Mod.activate]

@[simp] theorem chooseImage_sessions (b : BootIn) : (m.chooseImage b).sessions = m.sessions := by
  simp [Mod.chooseImage]

@[simp] theorem loadImage_sessions (i : Side) : (m.loadImage i).sessions = m.sessions := rfl

@[simp] theorem bootImages_sessions (b : BootIn) : (m.bootImages b).sessions = m.sessions := by
  simp [Mod.bootImages]

/-! ### Leaves -/

@[simp] theorem grantAt_sessions (k epoch : Nat) (forced : Bool) : (m.grantAt k epoch forced).sessions = m.sessions := rfl

@[simp] theorem sendGrants_sessions (i : Side) : (m.sendGrants i).sessions = m.sessions := by
  unfold Mod.sendGrants
  dsimp only
  split
  · exact foldl_sessions _ (fun m k => grantAt_sessions m k _ _) _ m
  · rfl

@[simp] theorem startGrant_sessions (i : Side) : (m.startGrant i).sessions = m.sessions := rfl

@[simp] theorem renewAt_sessions (i : Side) (k : Nat) : (m.renewAt i k).sessions = m.sessions := rfl

@[simp] theorem carryRun_sessions (steps : Bool) : (m.carryRun steps).sessions = m.sessions := by
  unfold Mod.carryRun
  split <;> simp

@[simp] theorem enterHold_sessionLinks (i : Side) :
    (m.enterHold i).sessions.map Session.link = m.sessions.map Session.link := by
  simp [Mod.enterHold]

@[simp] theorem endSwitch_sessionLinks (ok : Bool) :
    (m.endSwitch ok).sessions.map Session.link = m.sessions.map Session.link := by
  unfold Mod.endSwitch
  split <;> simp

@[simp] theorem returnStarts_sessions : m.returnStarts.sessions = m.sessions := by
  simp [Mod.returnStarts]

@[simp] theorem presetLoops_sessions : m.presetLoops.sessions = m.sessions := rfl

@[simp] theorem standDown_sessions (i : Side) : (m.standDown i).sessions = m.sessions := by
  simp [Mod.standDown]

@[simp] theorem applySwitch_sessionLinks (j : Side) (w : Waiter) (forced : Bool) :
    (m.applySwitch j w forced).sessions.map Session.link = m.sessions.map Session.link := by
  simp [Mod.applySwitch]

@[simp] theorem selfFails_sessions (leaf : Side) (items : BitVec 8) : (m.selfFails leaf items).sessions = m.sessions := by
  simp [Mod.selfFails]

@[simp] theorem checkItems_sessions : m.checkItems.sessions = m.sessions := by
  unfold Mod.checkItems
  split <;> simp

@[simp] theorem crossEvent_sessionLinks (x : Nat) :
    (m.crossEvent x).sessions.map Session.link = m.sessions.map Session.link := by
  unfold Mod.crossEvent
  split <;> simp

@[simp] theorem crossTick_sessions (ok : Bool) : (m.crossTick ok).sessions = m.sessions := by
  simp [Mod.crossTick]

@[simp] theorem riskLanes_sessionLinks : m.riskLanes.sessions.map Session.link = m.sessions.map Session.link := by
  simp [Mod.riskLanes]

@[simp] theorem stopFunction_sessionLinks (f : Nat) :
    (m.stopFunction f).sessions.map Session.link = m.sessions.map Session.link := by
  unfold Mod.stopFunction
  dsimp only
  repeat' split
  all_goals simp

@[simp] theorem startReinit_sessionLinks (f : Nat) (w : Option Waiter) :
    (m.startReinit f w).sessions.map Session.link = m.sessions.map Session.link := by
  simp [Mod.startReinit]

@[simp] theorem endReinit_sessionLinks (f : Nat) (back : Bool) :
    (endReinit f back m).sessions.map Session.link = m.sessions.map Session.link := by
  unfold endReinit
  dsimp only
  split <;> simp

@[simp] theorem stateTick_sessionLinks : m.stateTick.sessions.map Session.link = m.sessions.map Session.link := by
  unfold Mod.stateTick
  dsimp only
  split <;> simp

@[simp] theorem causeTick_sessionLinks : m.causeTick.sessions.map Session.link = m.sessions.map Session.link := by
  unfold Mod.causeTick
  split <;> simp

/-! ### Reset -/

@[simp] theorem violation_sessions (row interval : Nat) (up : Bool) : (m.violation row interval up).sessions = m.sessions := by
  simp [Mod.violation]

@[simp] theorem rebaseTime_sessions : m.rebaseTime.sessions = m.sessions := rfl

@[simp] theorem selfTest_sessionLinks (ok : BitVec 16) :
    (m.selfTest ok).sessions.map Session.link = m.sessions.map Session.link := by
  simp [Mod.selfTest, foldl_sessions _ (fun m k => setCourse_sessions m k _)]

@[simp] theorem bootModule_sessionLinks (b : BootIn) :
    (m.bootModule b).sessions.map Session.link = m.sessions.map Session.link := by
  simp [Mod.bootModule]

@[simp] theorem startLeaves_sessionLinks (b : BootIn) :
    (m.startLeaves b).sessions.map Session.link = m.sessions.map Session.link := by
  simp [Mod.startLeaves]

@[simp] theorem askReset_sessions (cause : Nat) : (m.askReset cause).sessions = m.sessions := rfl

/-! ### Fabric -/

@[simp] theorem settleItem_sessions (sill : Nat) (i : Item) : (m.settleItem sill i).1.sessions = m.sessions := by
  unfold Mod.settleItem
  dsimp only
  repeat' split
  all_goals simp

@[simp] theorem settleMoves_sessions (sill : Nat) : (m.settleMoves sill).sessions = m.sessions := by
  unfold Mod.settleMoves
  split <;> simp

@[simp] theorem impairSill_sessionLinks (sill : Nat) (st : CState) (cause : Nat) :
    (m.impairSill sill st cause).sessions.map Session.link = m.sessions.map Session.link := by
  refine foldl_sessionLinks _ (fun m x => ?_) _ m
  split <;> simp

@[simp] theorem returnWindows_sessions (sill : Nat) (cold : Bool) : (m.returnWindows sill cold).sessions = m.sessions := by
  simp [Mod.returnWindows]

@[simp] theorem breakPaths_sessionLinks (sill : Nat) :
    (m.breakPaths sill).sessions.map Session.link = m.sessions.map Session.link := by
  simp [Mod.breakPaths]

@[simp] theorem seeHold_sessions : m.seeHold.sessions = m.sessions := rfl

@[simp] theorem wantSafe_sessions : m.wantSafe.sessions = m.sessions := rfl

/-! ### Links -/

@[simp] theorem sendWaiting_sessionLinks (i : Side) :
    (m.sendWaiting i).sessions.map Session.link = m.sessions.map Session.link := by
  unfold Mod.sendWaiting
  split <;> simp

/-! ### Die -/

@[simp] theorem rebuildRecord_sessions (ctx : Nat) : (m.rebuildRecord ctx).sessions = m.sessions := rfl

@[simp] theorem badCopy_sessions (other : Bool) (ctx copy : Nat) : (m.badCopy other ctx copy).sessions = m.sessions := by
  simp [Mod.badCopy]

@[simp] theorem scrubAll_sessions (bad : List (Nat × Nat)) : (m.scrubAll bad).sessions = m.sessions := by
  simp [Mod.scrubAll]

/-! ### Registers -/

@[simp] theorem setSel_sessionLinks (f : Selects → Selects) (acc : Accessor) :
    (m.setSel f acc).sessions.map Session.link = m.sessions.map Session.link := by
  cases acc <;> simp [Mod.setSel]

@[simp] theorem setLatch_sessionLinks (f : Latch → Latch) (acc : Accessor) :
    (m.setLatch f acc).sessions.map Session.link = m.sessions.map Session.link := by
  cases acc <;> simp [Mod.setLatch]

@[simp] theorem clearRc_sessions (ref : Mod) (mirror : Bool) (sel : Selects) (a : Nat) :
    (m.clearRc ref mirror sel a).sessions = m.sessions := by
  unfold Mod.clearRc
  dsimp only
  split
  case h_11 => exact foldl_sessions _ (fun m c => setCalClass_sessions m c _) _ m
  all_goals rfl

@[simp] theorem mirrorClears_sessions (ref : Mod) : (m.mirrorClears ref).sessions = m.sessions := by
  refine foldl_sessions _ (fun m k => ?_) _ m
  dsimp only
  split <;> simp

@[simp] theorem putForce_sessions (w : Nat) (v : Word) : (m.putForce w v).sessions = m.sessions := by
  refine foldl_sessions _ (fun m x => ?_) _ _
  simp

@[simp] theorem putDet_sessions (on : Bool) : (m.putDet on).sessions = m.sessions := rfl

@[simp] theorem writeOnes_sessions (sel : Selects) (a : Nat) (w : Word) : (m.writeOnes sel a w).sessions = m.sessions := by
  unfold Mod.writeOnes
  split <;> simp

@[simp] theorem acceptWrite_sessionLinks (acc : Accessor) (a : Nat) (value mask : Word) (reply : Option Waiter) :
    (m.acceptWrite acc a value mask reply).sessions.map Session.link = m.sessions.map Session.link := by
  unfold Mod.acceptWrite
  dsimp only
  split
  · simp only [ite_sessions, ite_sessionLinks, setLatch_sessionLinks, setSel_sessionLinks, ite_self]
  · simp

@[simp] theorem runRegWrite_sessionLinks (r : Req) :
    (runRegWrite r m).sessions.map Session.link = m.sessions.map Session.link := by
  unfold runRegWrite
  dsimp only
  split
  · simp
  · split <;> simp

/-! ### Records -/

@[simp] theorem reportDropped_sessions : m.reportDropped.sessions = m.sessions := by
  simp [Mod.reportDropped]

@[simp] theorem writeRecord_sessionLinks : m.writeRecord.sessions.map Session.link = m.sessions.map Session.link := by
  unfold Mod.writeRecord
  split <;> simp

@[simp] theorem applyFreeze_sessions (on : Bool) : (m.applyFreeze on).sessions = m.sessions := rfl

@[simp] theorem applyClear_sessions (i : Side) (sid : Word) : (m.applyClear i sid).sessions = m.sessions := by
  simp [Mod.applyClear]

@[simp] theorem keyholeDue_sessions : m.keyholeDue.sessions = m.sessions := by
  simp [Mod.keyholeDue]

@[simp] theorem keyholePeriod_sessions : m.keyholePeriod.sessions = m.sessions := by
  simp [Mod.keyholePeriod]

/-! ### Felso -/

@[simp] theorem felsoAnswer_sessions (status : Nat) (data : Word) : (m.felsoAnswer status data).sessions = m.sessions := rfl

@[simp] theorem felsoSays_sessions (status : Nat) : (m.felsoSays status).sessions = m.sessions := rfl

@[simp] theorem felsoJournal_sessions (status : Nat) (x : FelsoTx) (mask : Word) :
    (m.felsoJournal status x mask).sessions = m.sessions := by
  simp [Mod.felsoJournal]

@[simp] theorem felsoWrite_sessionLinks (x : FelsoTx) :
    (felsoWrite x m).sessions.map Session.link = m.sessions.map Session.link := by
  unfold felsoWrite
  dsimp only
  split
  · split
    · rw [felsoSays_sessions, felsoJournal_sessions]
    · rw [felsoSays_sessions, acceptWrite_sessionLinks, felsoJournal_sessions]
  · rw [felsoSays_sessions]

/-! ### Tick -/

@[simp] theorem setClass_sessions (cls p : Nat) : (m.setClass cls p).sessions = m.sessions := by
  simp [Mod.setClass]

@[simp] theorem countTick_sessions (auxPeriods power : Nat) : (m.countTick auxPeriods power).sessions = m.sessions := rfl

@[simp] theorem stallTick_sessions : m.stallTick.sessions = m.sessions := by
  simp [Mod.stallTick]

@[simp] theorem mapPeaks_sessions (f : Peak → Peak) : (m.mapPeaks f).sessions = m.sessions := rfl

@[simp] theorem settleSticky_sessions : m.settleSticky.sessions = m.sessions := rfl

@[simp] theorem carryTick_sessions : m.carryTick.sessions = m.sessions := rfl

@[simp] theorem ratioTick_sessions : m.ratioTick.sessions = m.sessions := by
  simp [Mod.ratioTick]

@[simp] theorem recoverTick_sessions (i : Side) : (m.recoverTick i).sessions = m.sessions := by
  simp [Mod.recoverTick]

@[simp] theorem cleanTick_sessions : m.cleanTick.sessions = m.sessions := rfl

@[simp] theorem loopsTick_sessionLinks : m.loopsTick.sessions.map Session.link = m.sessions.map Session.link := by
  unfold Mod.loopsTick
  split <;> simp

@[simp] theorem waitTick_sessions : m.waitTick.sessions = m.sessions := by
  unfold Mod.waitTick
  split <;> simp

@[simp] theorem jobTick_sessions : m.jobTick.sessions = m.sessions := rfl

@[simp] theorem engineTicks_sessionLinks (b : Mod) :
    (m.engineTicks b).sessions.map Session.link = m.sessions.map Session.link := by
  simp [Mod.engineTicks]

@[simp] theorem seeEpochs_sessions (i : Side) (got : List Nat) : (m.seeEpochs i got).sessions = m.sessions := by
  simp [Mod.seeEpochs]

@[simp] theorem countSilent_sessions (got carried : List Nat) : (m.countSilent got carried).sessions = m.sessions := by
  refine foldl_sessions _ (fun m x => ?_) _ _
  simp

@[simp] theorem portReading_sessions (got : List Nat) (ports : List PortReading) (p : Nat) :
    (Mod.portReading got ports m p).sessions = m.sessions := by
  unfold Mod.portReading
  dsimp only
  split
  · rfl
  split
  · rfl
  · split <;> simp

@[simp] theorem oscReading_sessionLinks (x : Nat × Int) :
    (m.oscReading x).sessions.map Session.link = m.sessions.map Session.link := by
  simp [Mod.oscReading]

@[simp] theorem tileReading_sessions (raw : Nat × Int) : (m.tileReading raw).sessions = m.sessions := rfl

@[simp] theorem railReading_sessions (pos neg : Nat) : (m.railReading pos neg).sessions = m.sessions := rfl

@[simp] theorem biasReading_sessions (k : Nat) : (m.biasReading k).sessions = m.sessions := by
  simp [Mod.biasReading]

@[simp] theorem bankReadings_sessions (i : SenseIn) : (m.bankReadings i).sessions = m.sessions := by
  unfold Mod.bankReadings
  split
  · rfl
  · refine (foldl_sessions _ biasReading_sessions _ _).trans (foldl_sessions _ (fun m x => ?_) _ _)
    exact setLaser_sessions m x.1 _

@[simp] theorem houseReadings_sessions (got : List Nat) (i : SenseIn) : (m.houseReadings got i).sessions = m.sessions := by
  have tiles (l : List (Nat × Int)) : (l.foldl Mod.tileReading m).sessions = m.sessions :=
    foldl_sessions Mod.tileReading tileReading_sessions l m
  simp [Mod.houseReadings, tiles]

@[simp] theorem sweepReadings_sessions (got : List Nat) (drops : List (Nat × Int)) :
    (m.sweepReadings got drops).sessions = m.sessions := rfl

@[simp] theorem runSense_sessionLinks (i : SenseIn) :
    (runSense i m).sessions.map Session.link = m.sessions.map Session.link := by
  simp [runSense, Mod.seeHold]

@[simp] theorem latchHeaters_sessions (late : List Nat) : (m.latchHeaters late).sessions = m.sessions := rfl

@[simp] theorem sendRenews_sessions (i : Side) (unreached : BitVec 8) : (m.sendRenews i unreached).sessions = m.sessions := by
  unfold Mod.sendRenews
  split
  · exact foldl_sessions _ (fun m k => renewAt_sessions m i k) _ m
  · rfl

@[simp] theorem standbyDegraded_sessions (mirrored : Bool) : (m.standbyDegraded mirrored).sessions = m.sessions := by
  unfold Mod.standbyDegraded
  split <;> simp

@[simp] theorem mirrored_sessions : m.mirrored.sessions = m.sessions := rfl

end

end Sys2Proof.Machine
end

section
/-! PROOFS. At most 8 sessions on a link (R148): the operations that open and close sessions keep the limit. -/

namespace Sys2Proof.Machine

/-- Each link has at most 8 open sessions (R148). -/
def Mod.fewSessions (m : Mod) : Prop := ∀ i : Side, m.sessionsOn i ≤ 8

section
variable {m n : Mod}

/-- The count on a link is read from the links of the sessions. -/
theorem sessionsOn_eq_count (m : Mod) (i : Side) : m.sessionsOn i = (m.sessions.map Session.link).count i := by
  rw [Mod.sessionsOn, List.count, List.countP_map, List.countP_eq_length_filter]
  rfl

theorem fewSessions_of_links (h : m.fewSessions) (e : n.sessions.map Session.link = m.sessions.map Session.link) :
    n.fewSessions := fun i => by
  rw [sessionsOn_eq_count, e, ← sessionsOn_eq_count]
  exact h i

theorem fewSessions_of_sublist (h : m.fewSessions) (e : n.sessions.Sublist m.sessions) : n.fewSessions := fun i => by
  refine le_trans ?_ (h i)
  rw [sessionsOn_eq_count, sessionsOn_eq_count]
  exact (e.map Session.link).count_le i

theorem fewSessions_of_none (h : m.sessions = []) : m.fewSessions := fun i => by
  simp [Mod.sessionsOn, h]

theorem ite_fewSessions {c : Prop} [Decidable c] (hm : m.fewSessions) (hn : n.fewSessions) :
    (if c then m else n).fewSessions := by
  split
  · exact hm
  · exact hn

theorem closeSessions_fewSessions (h : m.fewSessions) (g : Session → Bool) : (m.closeSessions g).fewSessions :=
  fewSessions_of_sublist h List.filter_sublist

theorem foldl_fewSessions {α : Type} (f : Mod → α → Mod) (hf : ∀ m a, m.fewSessions → (f m a).fewSessions) (l : List α)
    (h : m.fewSessions) : (l.foldl f m).fewSessions := by
  induction l generalizing m with
  | nil => exact h
  | cons a l ih => exact ih (hf m a h)

theorem runSessionOpen_fewSessions (h : m.fewSessions) (r : Req) : (runSessionOpen r m).fewSessions := by
  unfold runSessionOpen
  dsimp only
  split
  · exact fewSessions_of_links h (malformed_sessionLinks m r)
  split
  · exact fewSessions_of_links h (refuse_sessionLinks ..)
  split
  · exact fewSessions_of_links h (refuse_sessionLinks ..)
  split
  · exact fewSessions_of_links h (refuse_sessionLinks ..)
  next room =>
    refine fewSessions_of_links (fun i => ?_) (answer_sessionLinks ..)
    have one := h i
    have room : m.sessionsOn r.w.link < 8 := Nat.not_le.mp room
    simp only [Mod.sessionsOn, List.filter_append, List.length_append] at one room ⊢
    by_cases e : r.w.link = i
    · subst e
      have : ∀ t : Session, (List.filter (fun t => t.link == r.w.link) [t]).length ≤ 1 := fun t => List.length_filter_le _ _
      exact Nat.add_le_add (Nat.le_of_lt_succ room) (this _)
    · simpa [List.filter_cons, e] using one

theorem runSessionClose_fewSessions (h : m.fewSessions) (r : Req) : (runSessionClose r m).fewSessions := by
  unfold runSessionClose
  split
  · exact fewSessions_of_links h (malformed_sessionLinks m r)
  · exact closeSessions_fewSessions (fewSessions_of_links h (answer_sessionLinks ..)) _

/-- A leaf that stops closes the sessions of its link. -/
theorem leafStops_sessions_eq (m : Mod) (i : Side) (held : Bool) :
    (m.leafStops i held).sessions = m.sessions.filter fun s => !(s.link == i) := by
  obtain ⟨f, c, r, l, w, t, e⟩ := leafStops_changes m i held
  rw [e]

theorem leafStops_fewSessions (h : m.fewSessions) (i : Side) (held : Bool) : (m.leafStops i held).fewSessions :=
  fewSessions_of_sublist h (leafStops_sessions_eq m i held ▸ List.filter_sublist)

theorem resetLeaf_fewSessions (h : m.fewSessions) (i : Side) (cause : Nat) : (m.resetLeaf i cause).fewSessions := by
  have e : (m.resetLeaf i cause).sessions = m.sessions.filter fun s => !(s.link == i) := by
    simp [Mod.resetLeaf, leafStops_sessions_eq]
  exact fewSessions_of_sublist h (e ▸ List.filter_sublist)

theorem askLeafReset_fewSessions (h : m.fewSessions) (i : Side) (cause : Nat) : (m.askLeafReset i cause).fewSessions :=
  fewSessions_of_links (leafStops_fewSessions h i true) rfl

theorem leafResets_fewSessions (h : m.fewSessions) : m.leafResets.fewSessions := by
  refine foldl_fewSessions _ (fun m i h => ?_) _ h
  split
  · exact resetLeaf_fewSessions h i _
  · exact h

theorem fallbackMoved_fewSessions (h : m.fewSessions) (j : Side) : (m.fallbackMoved j).fewSessions := by
  unfold Mod.fallbackMoved
  split
  · refine resetLeaf_fewSessions ?_ _ _
    exact fewSessions_of_links h rfl
  · exact h

theorem takeOver_fewSessions (h : m.fewSessions) (j : Side) : (m.takeOver j).fewSessions := by
  unfold Mod.takeOver
  extract_lets l booted back kind gap plan steps undriven mirrored _ _ m1 m2 m3 m4 m5 held m6 m7 m8 m9
  have h3 : m3.sessions = m.sessions := by simp [m3, m2, m1]
  have h8 : m8.sessions.map Session.link = m.sessions.map Session.link := by simp [m8, m7, m6, m5, m4, h3]
  have h8 := fewSessions_of_links h h8
  refine ite_fewSessions (fewSessions_of_links h (congrArg _ h3)) (fallbackMoved_fewSessions ?_ j)
  exact ite_fewSessions (resetLeaf_fewSessions h8 _ _) h8

theorem claim_fewSessions (h : m.fewSessions) (j : Side) : (m.claim j).fewSessions := by
  unfold Mod.claim
  exact ite_fewSessions (fewSessions_of_links h rfl) (takeOver_fewSessions h j)

theorem leaseTick_fewSessions (h : m.fewSessions) : m.leaseTick.fewSessions := by
  have down (n : Mod) (hn : n.fewSessions) : ((n.standDown .a).standDown .b).fewSessions :=
    fewSessions_of_links hn (by rw [standDown_sessions, standDown_sessions])
  unfold Mod.leaseTick
  refine down _ ?_
  split
  · exact ite_fewSessions h (claim_fewSessions h _)
  · exact claim_fewSessions h _
  · refine ite_fewSessions (resetLeaf_fewSessions ?_ _ _) ?_ <;> exact fewSessions_of_links h rfl
  · exact h

theorem fallBackRunning_fewSessions (h : m.fewSessions) : (fallBackRunning m).fewSessions := by
  unfold fallBackRunning
  extract_lets _ m1
  have h1 : m1.fewSessions := fewSessions_of_links h (by simp [m1])
  clear_value m1
  split
  · refine ite_fewSessions (askLeafReset_fewSessions ?_ _ _) h1
    exact fewSessions_of_links h1 rfl
  · refine askLeafReset_fewSessions ?_ _ _
    exact fewSessions_of_links h1 rfl
  · exact h1

/-- A power-on starts with no session (R461). -/
theorem wiped_sessions (m : Mod) : m.wiped.sessions = [] := rfl

/-- A warm reset ends every session (R571). -/
theorem warm_sessions (m : Mod) : m.warm.sessions = [] := rfl

theorem powerOn_fewSessions (m : Mod) (volts : Nat) (refclk : Bool) (b : BootIn) : (m.powerOn volts refclk b).fewSessions := by
  refine fewSessions_of_links (fewSessions_of_none (wiped_sessions m)) ?_
  unfold Mod.powerOn
  dsimp only
  split <;> simp [wiped_sessions, -List.map_eq_nil_iff]

theorem warmReset_fewSessions (m : Mod) (cause : Nat) (b : BootIn) : (warmReset cause b m).fewSessions :=
  fewSessions_of_links (fewSessions_of_none (warm_sessions m))
    (by simp [warmReset, warm_sessions, -List.map_eq_nil_iff])

theorem putSecCfg_fewSessions (h : m.fewSessions) (w : Word) : (m.putSecCfg w).fewSessions := by
  unfold Mod.putSecCfg
  exact ite_fewSessions (fewSessions_of_links h rfl) (closeSessions_fewSessions (fewSessions_of_links h rfl) _)

theorem putReg_fewSessions (h : m.fewSessions) (sel : Selects) (a : Nat) (w : Word) : (m.putReg sel a w).fewSessions := by
  unfold Mod.putReg
  dsimp only
  split
  case h_17 => exact putSecCfg_fewSessions h w
  all_goals exact fewSessions_of_links h (by simp)

theorem applyWrite_fewSessions (h : m.fewSessions) (sel : Selects) (a : Nat) (value mask : Word) :
    (m.applyWrite sel a value mask).fewSessions := by
  unfold Mod.applyWrite
  split
  · extract_lets m1
    have h1 : m1.fewSessions := ite_fewSessions h (putReg_fewSessions h _ _ _)
    exact ite_fewSessions h1 (fewSessions_of_links h1 (by simp))
  · exact h

theorem applyEffect_fewSessions (h : m.fewSessions) (e : Effect) : (m.applyEffect e).fewSessions := by
  cases e
  case regWrite => exact applyWrite_fewSessions h _ _ _ _
  all_goals exact fewSessions_of_links h (by simp [Mod.applyEffect])

theorem applyDeferred_fewSessions (h : m.fewSessions) (d : Deferred) : (applyDeferred m d).fewSessions := by
  refine fewSessions_of_links (applyEffect_fewSessions h d.eff) ?_
  unfold applyDeferred
  dsimp only
  split <;> split <;> simp

theorem applyAll_fewSessions (h : m.fewSessions) : m.applyAll.fewSessions :=
  foldl_fewSessions _ (fun _ d h => applyDeferred_fewSessions h d) _ (fewSessions_of_links h rfl)

theorem stateTicks_fewSessions (h : m.fewSessions) : m.stateTicks.fewSessions := by
  unfold Mod.stateTicks
  extract_lets m1
  have h1 : m1.fewSessions := fewSessions_of_links h rfl
  exact ite_fewSessions (fewSessions_of_links h1 rfl)
    (fewSessions_of_links (leaseTick_fewSessions (leafResets_fewSessions h1)) (by simp))

theorem boundary_fewSessions (h : m.fewSessions) (aux power : Nat) (b : Mod) : (boundary aux power b m).fewSessions := by
  unfold boundary
  extract_lets m1 m2 m3
  have before : ((m.countTick aux power).stallTick.failTick).fewSessions := fewSessions_of_links h (by simp)
  have h1 : m1.fewSessions := fewSessions_of_links (applyAll_fewSessions before) (by simp [m1, Mod.seeHold])
  have h2 : m2.fewSessions := stateTicks_fewSessions (fewSessions_of_links h1 (by simp))
  exact fewSessions_of_links h2 (by simp [m3])

end

end Sys2Proof.Machine
end

section
/-! PROOFS. At most 8 sessions on a link (R148), after every step. -/

namespace Sys2Proof.Machine

/-- Whatever next state an outcome gives, its live module has at most 8 sessions on each link. -/
def LiveFew (o : Host.Outcome State Fault Refusal) : Prop := ∀ t, o = .next t → t.cur.fewSessions

theorem liveFew_next {s : State} (h : s.cur.fewSessions) : LiveFew (.next s) := by
  intro t e
  cases e
  exact h

theorem happens_liveFew {s : State} (g : Mod → Bool) (f : Mod → Mod) (h : s.cur.fewSessions) (hf : (f s.cur).fewSessions) :
    LiveFew (happens g f s) := by
  cases e : g s.cur with
  | true => rw [happens_holds g f s e]; exact liveFew_next hf
  | false => rw [happens_not g f s e]; exact liveFew_next h

theorem happens_keeps {s : State} (g : Mod → Bool) (f : Mod → Mod) (h : s.cur.fewSessions)
    (hf : (f s.cur).sessions.map Session.link = s.cur.sessions.map Session.link) : LiveFew (happens g f s) :=
  happens_liveFew g f h (fewSessions_of_links h hf)

theorem accept_liveFew {s : State} (o : Op) (p : Packet) (run : Req → State → State) (h : s.cur.fewSessions)
    (hrun : ∀ r s', s'.cur.fewSessions → (run r s').cur.fewSessions) : LiveFew (.next (accept o p run s)) := by
  apply liveFew_next
  unfold accept
  dsimp only
  split
  · exact h
  split
  · exact h
  split
  · exact fewSessions_of_links h (turnAway_sessionLinks ..)
  split
  · exact fewSessions_of_links h (sendReply_sessionLinks ..)
  split
  · exact fewSessions_of_links h (turnAway_sessionLinks ..)
  · exact fewSessions_of_links h (turnAway_sessionLinks ..)
  split
  · exact fewSessions_of_links h (overLimit_sessionLinks ..)
  · exact hrun _ _ h

theorem commandM_liveFew {s : State} (code : Nat) (p : Packet) (run : Req → Mod → Mod) (h : s.cur.fewSessions)
    (hrun : ∀ r m, m.fewSessions → (run r m).fewSessions) : LiveFew (commandM code p run s) :=
  accept_liveFew _ p _ h fun r s' => hrun r s'.cur

theorem commandM_keeps {s : State} (code : Nat) (p : Packet) (run : Req → Mod → Mod) (h : s.cur.fewSessions)
    (hrun : ∀ r m, (run r m).sessions.map Session.link = m.sessions.map Session.link) : LiveFew (commandM code p run s) :=
  commandM_liveFew code p run h fun r m hm => fewSessions_of_links hm (hrun r m)

theorem query_keeps {s : State} (code : Nat) (p : Packet) (f : Mod → Req → Mod → Mod) (h : s.cur.fewSessions)
    (hf : ∀ v r m, (f v r m).sessions.map Session.link = m.sessions.map Session.link) : LiveFew (query code p f s) :=
  accept_liveFew _ p _ h fun r _ hm => fewSessions_of_links hm (hf _ r _)

theorem control_keeps {s : State} (cls op c : Nat) (w : MWord) (run : Mod → Ran) (h : s.cur.fewSessions)
    (hrun : (run s.cur).1.sessions.map Session.link = s.cur.sessions.map Session.link) :
    LiveFew (Machine.control cls op c w run s) := by
  refine happens_keeps _ _ h ?_
  simp [hrun]

theorem instruct_keeps {s : State} (cls op c : Nat) (w : MWord) (run : Mod → Ran) (h : s.cur.fewSessions)
    (hrun : (run s.cur).1.sessions.map Session.link = s.cur.sessions.map Session.link) :
    LiveFew (instruct cls op c w run s) := by
  refine control_keeps cls op c w _ h ?_
  simpa using hrun

theorem felso_liveFew {s : State} (op : Nat) (x : FelsoTx) (run : State → State) (h : s.cur.fewSessions)
    (hrun : (run s).cur.fewSessions) : LiveFew (felso op x run s) := by
  unfold felso
  split
  · exact liveFew_next h
  split
  · exact liveFew_next (fewSessions_of_links h (by simp))
  · exact liveFew_next (fewSessions_of_links hrun (by simp))

theorem readClears_cur (s : State) (i : Side) (sel : Selects) (a : Nat) :
    (s.readClears i sel a).cur.sessions = s.cur.sessions := by
  unfold State.readClears
  split
  · rfl
  split
  · split
    · exact clearRc_sessions ..
    · split <;> rfl
  · exact clearRc_sessions ..

theorem readReg_cur (s : State) (acc : Accessor) (i : Side) (a : Nat) :
    (s.readReg acc i a).2.cur.sessions.map Session.link = s.cur.sessions.map Session.link := by
  unfold State.readReg
  dsimp only
  split
  · rfl
  · rw [readClears_cur]
    exact setLatch_sessionLinks ..

theorem readRegs_cur (acc : Accessor) (i : Side) (l : List Nat) (s : State) :
    (s.readRegs acc i l).2.cur.sessions.map Session.link = s.cur.sessions.map Session.link := by
  induction l generalizing s with
  | nil => rfl
  | cons a l ih => exact (ih _).trans (readReg_cur s acc i a)

theorem runRegRead_cur (r : Req) (s : State) :
    (runRegRead r s).cur.sessions.map Session.link = s.cur.sessions.map Session.link := by
  unfold runRegRead
  dsimp only
  split
  · exact malformed_sessionLinks ..
  split
  · exact refuse_sessionLinks ..
  split
  · exact refuse_sessionLinks ..
  split
  · exact refuse_sessionLinks ..
  · exact (answer_sessionLinks ..).trans (readRegs_cur ..)

theorem felsoRead_cur (x : FelsoTx) (s : State) :
    (felsoRead x s).cur.sessions.map Session.link = s.cur.sessions.map Session.link := by
  unfold felsoRead
  dsimp only
  split
  · rfl
  split
  · rfl
  · exact readReg_cur ..

theorem undefinedOpcode_keeps {s : State} (opcode : Byte) (p : Packet) (h : s.cur.fewSessions) :
    LiveFew (execUndefinedOpcode opcode p s) := by
  unfold execUndefinedOpcode
  dsimp only
  repeat' split
  all_goals exact liveFew_next (fewSessions_of_links h (by simp))

theorem vendorService_keeps {s : State} (opcode : Byte) (p : Packet) (h : s.cur.fewSessions) :
    LiveFew (execVendorService opcode p s) := by
  unfold execVendorService
  dsimp only
  split
  · exact liveFew_next h
  split
  · intro t e
    cases e
  · exact accept_liveFew _ p _ h fun _ _ hs => hs

theorem runGuard_cur (ok : Bool) (s : State) :
    (runGuard ok s).cur.sessions.map Session.link = s.cur.sessions.map Session.link := by
  simp [runGuard]

theorem atEdge_keeps {s : State} (g : Mod → Bool) (f : Mod → Mod) (h : s.cur.fewSessions)
    (hf : (f s.cur).sessions.map Session.link = s.cur.sessions.map Session.link) : LiveFew (atEdge g f s) :=
  happens_keeps _ f h hf

theorem lossOf_fewSessions (m : Mod) (cause : Nat) : (m.lossOf cause).fewSessions := fewSessions_of_none rfl

theorem vauxRise_liveFew {s : State} (h : s.cur.fewSessions) (dt : Nat) : LiveFew (execVauxRise dt s) := by
  refine happens_keeps _ _ h ?_
  dsimp only
  split <;> split <;> simp

/-- What the supplies are told does not touch the sessions. -/
theorem withSup_fewSessions {m : Mod} (h : m.fewSessions) (x : Supply) : ({ m with sup := x } : Mod).fewSessions := h

theorem vauxFall_liveFew {s : State} (h : s.cur.fewSessions) (dt : Nat) : LiveFew (execVauxFall dt s) := by
  refine happens_liveFew _ _ h ?_
  dsimp only
  refine withSup_fewSessions (ite_fewSessions (withSup_fewSessions (lossOf_fewSessions _ 2) _) ?_) _
  refine fewSessions_of_links h ?_
  split
  · simp
  · split
    · split <;> simp
    · simp

theorem vanaFall_liveFew {s : State} (h : s.cur.fewSessions) (dt : Nat) : LiveFew (execVanaFall dt s) := by
  refine happens_liveFew _ _ h ?_
  dsimp only
  refine ite_fewSessions (withSup_fewSessions h _)
    (ite_fewSessions (ite_fewSessions (withSup_fewSessions (lossOf_fewSessions _ 1) _) ?_) ?_)
  · exact fewSessions_of_links h (by simp)
  · refine fewSessions_of_links h ?_
    split
    · split <;> simp
    · rfl

theorem vin54Rise_liveFew {s : State} (h : s.cur.fewSessions) (dt aux volts : Nat) (refclk : Bool) (b : BootIn) :
    LiveFew (execVin54Rise dt aux volts refclk b s) := by
  refine happens_liveFew _ _ h ?_
  dsimp only
  refine ite_fewSessions (powerOn_fewSessions _ volts refclk b) (fewSessions_of_links h ?_)
  split <;> simp

theorem vin54Loss_liveFew {s : State} (h : s.cur.fewSessions) (dt volts : Nat) : LiveFew (execVin54Loss dt volts s) := by
  refine happens_liveFew _ _ h ?_
  dsimp only
  exact withSup_fewSessions (ite_fewSessions (lossOf_fewSessions _ 0) (withSup_fewSessions h _)) _

theorem vin54Overvoltage_liveFew {s : State} (h : s.cur.fewSessions) (dt volts : Nat) :
    LiveFew (execVin54Overvoltage dt volts s) := by
  refine happens_liveFew _ _ h ?_
  dsimp only
  refine withSup_fewSessions (ite_fewSessions (lossOf_fewSessions _ 3) (fewSessions_of_links h ?_)) _
  split <;> simp

theorem warmResetStart_liveFew {s : State} (h : s.cur.fewSessions) (b : BootIn) : LiveFew (execWarmResetStart b s) := by
  unfold execWarmResetStart
  split
  · split
    · exact liveFew_next (warmReset_fewSessions s.cur _ b)
    · exact liveFew_next h
  · exact liveFew_next h

theorem commitLaunch_liveFew {s : State} (h : s.cur.fewSessions) (prefer bad : List Nat) :
    LiveFew (execCommitLaunch prefer bad s) := by
  refine liveFew_next ?_
  split
  · exact fewSessions_of_links h (by simp [atBoundary])
  · exact h

theorem watchdog_liveFew {s : State} (h : s.cur.fewSessions) (i : Side) : LiveFew (execWatchdog i s) :=
  happens_liveFew _ _ h (askLeafReset_fewSessions h i 7)

theorem leafRailCollapse_liveFew {s : State} (h : s.cur.fewSessions) (i : Side) : LiveFew (execLeafRailCollapse i s) :=
  happens_liveFew _ _ h (fewSessions_of_links (leafStops_fewSessions h i true) rfl)

theorem leafRailReturn_liveFew {s : State} (h : s.cur.fewSessions) (i : Side) : LiveFew (execLeafRailReturn i s) :=
  happens_liveFew _ _ h (askLeafReset_fewSessions (m := s.cur.setLeaf i _) h i 6)

theorem release_liveFew {s : State} (h : s.cur.fewSessions) (i : Side) : LiveFew (execRelease i s) := by
  refine happens_keeps _ _ h (congrArg _ (foldl_sessions _ (fun m k => ?_) _ _))
  exact setSill_sessions m k _

theorem throttle_liveFew {s : State} (h : s.cur.fewSessions) (down : Bool) : LiveFew (execThrottle down s) := by
  refine happens_keeps _ _ h (congrArg _ (foldl_sessions _ (fun m c => ?_) _ _))
  exact setCourse_sessions m c _

theorem channelFailure_liveFew {s : State} (h : s.cur.fewSessions) (c : Nat) : LiveFew (execChannelFailure c s) := by
  refine happens_keeps _ _ h ?_
  have ends (l : List (Nat × Job)) (m : Mod) :
      (l.foldl (fun m j => m.endJob j.1 7 0) m).sessions.map Session.link = m.sessions.map Session.link :=
    foldl_sessionLinks _ (fun m j => endJob_sessionLinks m j.1 7 0) l m
  rw [ends, foldl_sessions _ rebuildRecord_sessions]
  rfl

theorem journalRestart_liveFew {s : State} (h : s.cur.fewSessions) : LiveFew (execJournalRestart s) := by
  refine happens_keeps _ _ h ?_
  extract_lets ch seq _ _ m1 m2 train
  clear_value seq
  rw [setLink_sessions, setLink_sessions, journalInternal_sessions]

theorem memoryRead_liveFew {s : State} (h : s.cur.fewSessions) (x : FelsoTx) : LiveFew (execMemoryRead x s) := by
  refine felso_liveFew _ _ _ h (fewSessions_of_links h ?_)
  simp only [needs, onCur_cur]
  split
  · split
    · simp
    · split <;> simp
  · simp

theorem exec_liveFew (c : Instr) {s : State} (h : s.cur.fewSessions) : LiveFew (exec c s) := by
  cases c <;> dsimp only [exec]
  case tickBoundary aux power =>
    refine liveFew_next ?_
    split
    · exact boundary_fewSessions h aux power _
    · exact h
  case vauxRise dt => exact vauxRise_liveFew h dt
  case vauxFall dt => exact vauxFall_liveFew h dt
  case vanaFall dt => exact vanaFall_liveFew h dt
  case vin54Rise dt aux volts refclk b => exact vin54Rise_liveFew h dt aux volts refclk b
  case vin54Loss dt volts => exact vin54Loss_liveFew h dt volts
  case vin54Overvoltage dt volts => exact vin54Overvoltage_liveFew h dt volts
  case warmResetStart b => exact warmResetStart_liveFew h b
  case commitLaunch prefer bad => exact commitLaunch_liveFew h prefer bad
  case watchdog i => exact watchdog_liveFew h i
  case leafRailCollapse i => exact leafRailCollapse_liveFew h i
  case leafRailReturn i => exact leafRailReturn_liveFew h i
  case release i => exact release_liveFew h i
  case throttle down => exact throttle_liveFew h down
  case channelFailure c => exact channelFailure_liveFew h c
  case sessionLinkTimeout link sid => exact happens_liveFew _ _ h (closeSessions_fewSessions h _)
  case fwTrialExpiry => exact happens_liveFew _ _ h (fallBackRunning_fewSessions h)
  case refclkReturn | clockMove | revert | detProfileChange | engineCommit => exact atEdge_keeps _ _ h (by simp)
  case keyholeSnapshot =>
    unfold execKeyholeSnapshot
    exact happens_keeps _ _ h rfl
  case windowStart | commitComplete | commitEnd | solveStart | solveDone | fwStageWriteDone =>
    refine happens_keeps _ _ h ?_
    split <;> simp
  case standbyReport =>
    refine happens_keeps _ _ h ?_
    dsimp only
    split <;> simp
  case scheduledLaunch =>
    refine atEdge_keeps _ _ h ?_
    split <;> simp
  case memoryRead x => exact memoryRead_liveFew h x
  case yield | instrNop => exact instruct_keeps _ _ _ _ _ h rfl
  case ffin | ffout => exact control_keeps _ _ _ _ _ h rfl
  case guard ok =>
    refine liveFew_next ?_
    split
    · exact fewSessions_of_links h (runGuard_cur ok s)
    · exact h
  case regRead p => exact accept_liveFew _ p _ h fun r s' hs => fewSessions_of_links hs (runRegRead_cur r s')
  case felsoRegisterRead x => exact felso_liveFew _ x _ h (fewSessions_of_links h (felsoRead_cur x s))
  case vendorService opcode p => exact vendorService_keeps opcode p h
  case undefinedOpcode opcode p => exact undefinedOpcode_keeps opcode p h
  case sessionOpen p => exact commandM_liveFew _ p _ h fun r m hm => runSessionOpen_fewSessions hm r
  case sessionClose p => exact commandM_liveFew _ p _ h fun r m hm => runSessionClose_fewSessions hm r
  case planQuery | circuitQuery | portQuery | neighbourQuery | traceRead | calQuery | jobQuery | fwQuery | powerQuery =>
    exact query_keeps _ _ _ h (by
      simp [runCircuitQuery, runTraceRead, runCalQuery, runPortQuery, runNeighbourQuery, runPowerQuery, runFwQuery])
  case nop | sessionAuth | identify | attest | resultRead | eventSubscribe | resultRelease |
      circuitSet | circuitClear | planStage | planCommit | planAbort | planSolve | portClassSet | blinkOpen | loopMode |
      loopSetpoint | traceArm | calRun | jobLoad | jobStart | jobPause | jobResume | jobStop | timeQuery | hostTimeSet |
      timeRate | timeStep | launchSchedule | journalRead | cornerstoneRead | keyholeFreeze | keyholeRead | keyholeClear |
      fwStageBegin | fwStageData | fwStageEnd | fwConfirm | unlockChallenge | unlockResponse | keyEnrol | powerRequest |
      idleTimerSet | regWrite | functionReinit | warmReset | holdRelease | leafSwitch | recoveryEnter | fabricCfg |
      memsBudget | brickSelect | loopSelect | paramSelect | paramData | paramApply | expSelect | expData | mortarCfg |
      guardCfg | calCfg | laserCfg | laserSelect | shutterForce | timeCfg | fabricId | powerCfg | idleTicks | leafCfg |
      secCfg | keyholeCfg | keyholeIndex | keyholeAddr | keyholeTrigger | channelSelect =>
    exact commandM_keeps _ _ _ h (by
      simp [runNop, runIdentify, runEventSubscribe, runResultRelease, runPlanStage, runPortClassSet, runTimeQuery,
        runHostTimeSet, runTimeRate, runTimeStep, runLaunchSchedule, runPowerRequest, runIdleTimerSet, runAttest,
        runUnlockChallenge, runFwConfirm, runLeafSwitch, runFunctionReinit, runHoldRelease, runReset, runSeqRead,
        runKeyholeFreeze, runKeyholeClear])
  case felsoRegisterWrite | felsoStatus | selectCore | felsoHalt | felsoResume | felsoStep | setBreakpoint |
      clearBreakpoint | memoryWrite =>
    refine felso_liveFew _ _ _ h (fewSessions_of_links h ?_)
    simp [needs]
  case mma | mmat | mmaw | mmas | mmad | mmax | outer | conv1 | accz | accset | vadd | vsub | vmul | vfma | vmax | vmin | vabs |
      vneg | vclamp | vrcp | vrsq | vexp2 | vlog2 | vcmp | vsel | vand | vor | vxor | vshl | vshr | qnt | reqnt | expal | dqnt |
      cvtfi | cvtif | exprd | expwr | pack | unpack | rsumr | rsumc | rmaxr | rminr | rargmax | rargmin | pscan |
      ld | st | lds | sts | copy | fill | dmain | dmaout | dma2d | dmawait | gather | scatter | scatadd |
      snap | setr | addr | mulr | cmpr | tdesc | waitd |  gcfg | gstat | flagclr | tickrd | perf | rng | prop =>
    exact instruct_keeps _ _ _ _ _ h (by
      simp [runMma, runMmat, runMmas, runMmad, runOuter, runConv1, runAccz, runAccset, runVec, runVclamp, runRaw, runTable,
        runVcmp, runVsel, runShift, runConvert, runFormat, runExprd, runExpwr, runPack, runReduce, runMove, runFill,
        runDmain, runDmaout, runDmawait, runGather, runScatter, runScatadd, runSetr, runScalar, runTdesc, runWaitd, runGcfg,
        runTickrd, runPerf, runRng])
  case xred | xredo | xbcast | xgath | xbar | br | brc | call | ret | loop | endl | halt | trap =>
    exact control_keeps _ _ _ _ _ h (by simp [runBr, runCall])
  case actuate => exact happens_keeps _ _ h (by simp [runActuate])
  case commitStep => exact happens_keeps _ _ h (by simp [runCommitStep])
  case compute => exact happens_keeps _ _ h (by simp [runCompute])
  case journalRestart => exact journalRestart_liveFew h
  case sense | overrunCauseSet | refclkLoss | vanaRise | resetNAssert | resetNRelease | bootReadback | bootComplete |
      selfDiagnosisFailure | renew | grant | forcedGrant | leaseLapse | lapseNotice | reportMissing | crossLinkDown |
      crossLinkUp | dieLinkDown | dieLinkUp | sillLinkDown | sillLost | sillPowerLoss | sillReturn | memsRailFault |
      tileOverTemperature | safetyInterlockAssert | safetyInterlockRelease | packetDiscard | linkFrameRx | linkDownTimeout |
      retrainComplete | authBackoffEnd | creditedSend | resultExpiry | planCheckDone | blinkClose | calRunDone |
      jobVerifyDone | jobPauseStopped | jobSaveDone | jobTimeLimit | autoConfirm | goldenCopyDone | functionReinitDone |
      firmwareReinit | keyholeAutoResume | cornerstoneWrite | thermalModelSlice | ffMiss | ffLost | ffRestore | courseFail |
      thermalPartnerReturn | dmaDone | implausibleHold | implausibleRelease | traceDone | refCheck | calibrationRun |
      wrongLaneCheck | signatureSweep | wrongLaneTimeout | laserHandover | laserFailover | laserEol | probeLaserFailure |
      losEntry | losExit | probingPulse | probingPulseEnd | shutterOpened | oscFrameRx | neighbourUp | neighbourLost |
      neighbourRecord | upstreamChange | fabricTimeLock | fabricTimeUnlock | ppsInEdge | ppsInLoss | ppsOutPulse |
      ppsOutEnd | idleTimerExpiry | domainEntry | domainWake | scrub | attBatchPrepare | felsoRelock | sillLinkRestored |
      faultNAssert =>
    exact happens_keeps _ _ h (by simp)

/-! ### The report of the boundary and the mirror -/

/-- The report and the mirror have at most 8 sessions on each link. -/
def State.reportsFew (s : State) : Prop := s.snap.fewSessions ∧ s.mirror.fewSessions

/-- A state whose report has the sessions of another's, and its mirror. -/
def SameReports (s t : State) : Prop := t.snap.sessions = s.snap.sessions ∧ t.mirror = s.mirror

theorem SameReports.trans {s t u : State} (h : SameReports s t) (k : SameReports t u) : SameReports s u :=
  ⟨k.1.trans h.1, k.2.trans h.2⟩

theorem SameReports.reportsFew {s t : State} (k : SameReports s t) (h : s.reportsFew) : t.reportsFew :=
  ⟨fewSessions_of_links h.1 (congrArg _ k.1), k.2 ▸ h.2⟩

theorem readClears_sameReports (s : State) (i : Side) (sel : Selects) (a : Nat) : SameReports s (s.readClears i sel a) := by
  unfold State.readClears
  split
  · exact ⟨rfl, rfl⟩
  split
  · split
    · exact ⟨clearRc_sessions .., rfl⟩
    · split <;> exact ⟨rfl, rfl⟩
  · exact ⟨clearRc_sessions .., rfl⟩

theorem readReg_sameReports (s : State) (acc : Accessor) (i : Side) (a : Nat) : SameReports s (s.readReg acc i a).2 := by
  unfold State.readReg
  dsimp only
  split
  · exact ⟨rfl, rfl⟩
  · exact readClears_sameReports _ i _ a

theorem readRegs_sameReports (acc : Accessor) (i : Side) (l : List Nat) (s : State) :
    SameReports s (s.readRegs acc i l).2 := by
  induction l generalizing s with
  | nil => exact ⟨rfl, rfl⟩
  | cons a l ih => exact (readReg_sameReports s acc i a).trans (ih _)

theorem runRegRead_sameReports (r : Req) (s : State) : SameReports s (runRegRead r s) := by
  unfold runRegRead
  dsimp only
  split
  · exact ⟨rfl, rfl⟩
  split
  · exact ⟨rfl, rfl⟩
  split
  · exact ⟨rfl, rfl⟩
  split
  · exact ⟨rfl, rfl⟩
  · exact readRegs_sameReports _ _ _ s

theorem regRead_sameReports (p : Packet) (s t : State) (e : execRegRead p s = .next t) : SameReports s t := by
  simp only [execRegRead, command, Host.Outcome.next.injEq] at e
  subst e
  obtain ⟨m, e⟩ | e := accept_cases (opRow 0xA0) p runRegRead s
  · rw [e]
    exact ⟨rfl, rfl⟩
  · rw [e]
    exact runRegRead_sameReports _ { s with cur := s.cur.taken (opRow 0xA0) p }

theorem felsoRegisterRead_sameReports (x : FelsoTx) (s t : State) (e : execFelsoRegisterRead x s = .next t) :
    SameReports s t := by
  simp only [execFelsoRegisterRead, felso, felsoRead, Host.Outcome.next.injEq] at e
  subst e
  split
  · exact ⟨rfl, rfl⟩
  split
  · exact ⟨rfl, rfl⟩
  split
  · exact ⟨rfl, rfl⟩
  split
  · exact ⟨rfl, rfl⟩
  · exact readReg_sameReports s _ _ _

theorem tickBoundary_reportsFew (aux power : Nat) (s t : State) (hc : s.cur.fewSessions) (h : s.reportsFew)
    (e : execTickBoundary aux power s = .next t) : t.reportsFew := by
  simp only [execTickBoundary, Host.Outcome.next.injEq] at e
  subst e
  split
  · exact ⟨boundary_fewSessions hc aux power s.snap, h.2⟩
  · exact h

theorem guard_reportsFew (ok : Bool) (s t : State) (hc : s.cur.fewSessions) (h : s.reportsFew)
    (e : execGuard ok s = .next t) : t.reportsFew := by
  simp only [execGuard, Host.Outcome.next.injEq] at e
  subst e
  split
  · refine ⟨h.1, ?_⟩
    unfold runGuard
    exact ite_fewSessions (fewSessions_of_links hc (by simp)) h.2
  · exact h

theorem warmResetStart_reportsFew (b : BootIn) (s t : State) (h : s.reportsFew)
    (e : execWarmResetStart b s = .next t) : t.reportsFew := by
  unfold execWarmResetStart at e
  split at e
  · split at e
    · obtain rfl := Host.Outcome.next.inj e
      exact ⟨warmReset_fewSessions s.cur _ b, warmReset_fewSessions s.cur _ b⟩
    · obtain rfl := Host.Outcome.next.inj e
      exact h
  · obtain rfl := Host.Outcome.next.inj e
    exact h

theorem commitLaunch_sameReports (prefer bad : List Nat) (s t : State) (e : execCommitLaunch prefer bad s = .next t) :
    SameReports s t := by
  simp only [execCommitLaunch, Host.Outcome.next.injEq] at e
  subst e
  split <;> exact ⟨rfl, rfl⟩

theorem exec_reportsFew (c : Instr) (s t : State) (hc : s.cur.fewSessions) (h : s.reportsFew) (e : exec c s = .next t) :
    t.reportsFew := by
  cases hr : atBoundaryRow c with
  | true =>
    cases c
    case tickBoundary aux power => exact tickBoundary_reportsFew aux power s t hc h e
    case warmResetStart b => exact warmResetStart_reportsFew b s t h e
    case commitLaunch prefer bad => exact (commitLaunch_sameReports prefer bad s t e).reportsFew h
    case regRead p => exact (regRead_sameReports p s t e).reportsFew h
    case felsoRegisterRead x => exact (felsoRegisterRead_sameReports x s t e).reportsFew h
    all_goals cases hr
  | false =>
    cases hg : mirrorRow c with
    | true =>
      cases c <;> cases hg
      exact guard_reportsFew _ s t hc h e
    | false =>
      obtain ⟨m, rfl⟩ := exec_liveOnly c s hr hg t e
      exact h

/-- Settles O59: only SESSION_OPEN adds a session, and it counts those of its link first. -/
theorem sessionLimitKept : Obligations.SessionLimitKept := by
  unfold Obligations.SessionLimitKept
  intro s t h e
  have cur : s.cur.fewSessions := fun i => (h i).1
  have reports : s.reportsFew := ⟨fun i => (h i).2.1, fun i => (h i).2.2⟩
  unfold step at e
  split at e
  · cases e
    exact h
  · next c q _ =>
    have ht : t.cur.fewSessions := exec_liveFew c (s := { s with pending := q }) cur t e
    obtain ⟨snap, mirror⟩ := exec_reportsFew c { s with pending := q } t cur reports e
    exact fun i => ⟨ht i, snap i, mirror i⟩

end Sys2Proof.Machine
end

section
/-! PROOFS. The acceptance of a packet (R154): its checks in their order, and what each refusal leaves. -/

namespace Sys2Proof.Machine

/-! ### Rows and requests -/

/-- The row under which a code is found is that code's own. -/
@[simp] theorem opRow_code (code : Nat) : (opRow code).code = code := by
  unfold opRow opOf
  split
  · rfl
  · cases e : opTable.find? fun o => o.code == code with
    | none => rfl
    | some o => exact beq_iff_eq.mp (List.find?_some (p := fun o : Op => o.code == code) e)

/-- A clean header has a role of its own 3 bits. -/
theorem packetClean_role {p : Packet} (h : packetClean p = true) : p.role.toNat % 8 = p.role.toNat := by
  simp only [packetClean, Bool.and_eq_true, decide_eq_true_eq] at h
  omega

@[simp] theorem session_credited (m : Mod) (p : Packet) (i : Side) (sid : Word) :
    (m.credited p).session i sid = m.session i sid := rfl

/-! ### The course of a packet command -/

section
variable {c : Instr} {code : Nat} {p : Packet} {s : State} (hc : packetOf c = some (code, p))
include hc

/-- A packet command on a link that the leaf does not take changes nothing. -/
theorem exec_packet_not_taken (h : s.cur.takes p.link = false) : exec c s = .next s := by
  obtain ⟨run, e⟩ := exec_packet p s c code hc
  rw [e, accept_not_taken _ _ _ _ h]

/-- The first failing check of the header is what the sender hears. -/
theorem exec_packet_header (ht : s.cur.takes p.link = true) (hn : (s.cur.link p.link).noCredit p.payload.length = false)
    {st : Nat} {d : List Byte} (hh : headerCheck (opRow code) p (s.cur.credited p) = some (st, d)) :
    exec c s = .next { s with cur := (s.cur.credited p).turnAway (packetReq p (opRow code)) st d } := by
  obtain ⟨run, e⟩ := exec_packet p s c code hc
  rw [e, accept_header _ _ _ _ st d ht hn hh]

/-- A repeat is answered from what is held. -/
theorem exec_packet_repeat (ht : s.cur.takes p.link = true) (hn : (s.cur.link p.link).noCredit p.payload.length = false)
    (hh : headerCheck (opRow code) p (s.cur.credited p) = none) {fl st : Nat} {pl : List Byte}
    (hr : (s.cur.credited p).repeatOf (opRow code) p = some (fl, st, pl)) :
    exec c s = .next { s with cur := (s.cur.credited p).sendReply (packetReq p (opRow code)).w fl st pl } := by
  obtain ⟨run, e⟩ := exec_packet p s c code hc
  rw [e, accept_repeat _ _ _ _ fl st pl ht hn hh hr]

/-- Past step 6, a command that the leaf's state refuses is turned away. -/
theorem exec_packet_state (h : s.cur.checked (opRow code) p = true) (hl : legal code (s.cur.leaf p.link).state = .s) :
    exec c s = .next { s with cur := (s.cur.credited p).turnAway (packetReq p (opRow code)) eSTATE plain } := by
  obtain ⟨run, e⟩ := exec_packet p s c code hc
  have cell : s.cur.cell (opRow code) p = .s := by rw [Mod.cell, opRow_code, hl]
  rw [e, accept_checked _ _ _ _ h, cell]

theorem exec_packet_safety (h : s.cur.checked (opRow code) p = true) (hl : legal code (s.cur.leaf p.link).state = .h) :
    exec c s = .next { s with cur := (s.cur.credited p).turnAway (packetReq p (opRow code)) eSAFETY plain } := by
  obtain ⟨run, e⟩ := exec_packet p s c code hc
  have cell : s.cur.cell (opRow code) p = .h := by rw [Mod.cell, opRow_code, hl]
  rw [e, accept_checked _ _ _ _ h, cell]

/-- What step 8 refuses is answered with its own detail. -/
theorem exec_packet_limit (h : s.cur.checked (opRow code) p = true) (hl : legal code (s.cur.leaf p.link).state = .a)
    {st : Nat} {d : List Byte} (hd : limitCheck (opRow code) (packetReq p (opRow code)) (s.cur.cleared p) = some (st, d)) :
    exec c s = .next { s with cur := (s.cur.credited p).overLimit (packetReq p (opRow code)) st d } := by
  obtain ⟨run, e⟩ := exec_packet p s c code hc
  have cell : s.cur.cell (opRow code) p = .a := by rw [Mod.cell, opRow_code, hl]
  rw [e, accept_checked _ _ _ _ h, cell]
  dsimp only
  rw [hd]

end

/-! ### VENDOR_SERVICE -/

/-- Settles O4: the row stops where acceptance admits the packet, and is acceptance everywhere else. -/
theorem vendorServiceStops : Obligations.VendorServiceStops := by
  unfold Obligations.VendorServiceStops
  intro op p s h
  have hv : ¬ op.toNat < 0xF0 := Nat.not_lt.mpr h
  refine ⟨fun ha => ?_, fun ha => ⟨accept (opRow op.toNat) p (fun _ s => s) s, ?_⟩⟩
  · simp [exec, execVendorService, hv, ha]
  · simp [exec, execVendorService, hv, ha]

/-! ### The header -/

section
variable (o : Op) (p : Packet) (m : Mod)

/-- The session of a packet fits its opcode: none for SESSION_OPEN, an open one for any other (R147, R148). -/
def Mod.belongs (m : Mod) (o : Op) (p : Packet) : Bool :=
  if o.code = 1 then p.session == 0 else p.session != 0 && (m.session p.link p.session).isSome

/-- The role that the packet's session has proven. -/
def Mod.proven (m : Mod) (p : Packet) : Nat := (m.session p.link p.session).elim 0 Session.role

variable {o p m}

theorem headerCheck_version (hv : p.version ≠ 1) : headerCheck o p m = some (eVERSION, plain ++ [2]) := if_pos hv

theorem headerCheck_unclean (hv : p.version = 1) (hc : packetClean p = false) :
    headerCheck o p m = some (ePARAM, detail 0x12 noField noIndex) := by
  simp [headerCheck, hv, hc]

variable (hv : p.version = 1) (hc : packetClean p = true)
include hv hc

theorem headerCheck_long (hl : 8192 < p.len8.toNat) : headerCheck o p m = some (ePARAM, badField noField) := by
  simp [headerCheck, hv, hc, hl]

/-- Past the length, the session and the roles decide. -/
theorem headerCheck_clean (hl : p.len8.toNat ≤ 8192) :
    headerCheck o p m =
      if m.belongs o p = false then some (eAUTH, detail 7 noField noIndex)
      else if m.proven p < p.role.toNat then some (eAUTH, detail 9 noField noIndex)
      else if p.role.toNat < minRole o p.payload ∨ (p.role.toNat < 2 ∧ overrideAsked o.code p.payload = true) then
        some (eAUTH, detail 8 noField noIndex)
      else none := by
  have member : ((o.code = 1) ≠ (p.session = 0) ∨ (p.session ≠ 0 ∧ m.session p.link p.session = none)) ↔
      m.belongs o p = false := by
    unfold Mod.belongs
    by_cases h1 : o.code = 1 <;> by_cases h0 : p.session = 0#32 <;> cases m.session p.link p.session <;> simp [h1, h0]
  simp only [headerCheck, hv, packetClean_role hc, Nat.not_lt.mpr hl, member, Mod.proven]
  obtain hs | ⟨t, hs⟩ := Option.eq_none_or_eq_some (m.session p.link p.session) <;> simp [hs, hc]
end

/-- Settles O6: the checks are those of `headerCheck`, in its order. -/
theorem headerChecksInOrder : Obligations.HeaderChecksInOrder := by
  unfold Obligations.HeaderChecksInOrder
  intro c code p s hp ht hn o hears clean proven member low
  have turn {st : Nat} {d : List Byte} (h : headerCheck o p (s.cur.credited p) = some (st, d)) : hears st d :=
    exec_packet_header hp ht hn h
  have belongs : (s.cur.credited p).belongs o p ↔ member := by
    simp only [Mod.belongs, o, opRow_code, session_credited]
    split <;> simp [member, *]
  have checks (hv : p.version = 1) (hc : clean) := headerCheck_clean (o := o) (m := s.cur.credited p) hv hc.1 hc.2
  refine ⟨fun hv => turn (headerCheck_version hv), fun hv hc => turn (headerCheck_unclean hv hc),
    fun hv hc hl => turn (headerCheck_long hv hc hl), fun hv hc hm => turn ?session, fun hv hc hm hr => turn ?above,
    fun hv hc hm hr hlow => turn ?low⟩
  case session => rw [checks hv hc, if_pos (Bool.eq_false_iff.mpr (mt belongs.mp hm))]
  case above =>
    rw [checks hv hc, if_neg (Bool.not_eq_false _ ▸ belongs.mpr hm),
      if_pos (show (s.cur.credited p).proven p < p.role.toNat from hr)]
  case low =>
    rw [checks hv hc, if_neg (Bool.not_eq_false _ ▸ belongs.mpr hm),
      if_neg (show ¬ (s.cur.credited p).proven p < p.role.toNat from Nat.not_lt.mpr hr), opRow_code, if_pos hlow]

/-! ### The duplicate rule -/

/-- Settles O7: `dupReply` gives the first three rows, and in the last two nothing is repeated. -/
theorem duplicateRule : Obligations.DuplicateRule := by
  unfold Obligations.DuplicateRule
  intro c code p s hp ht hn hh r hears
  have again {h : Held} {fl st : Nat} {d : List Byte} (hk : s.cur.knownFor p = some h) (hd : dupReply h r.hash = some (fl, st, d)) :
      hears fl st d :=
    exec_packet_repeat hp ht hn hh (by
      have known : (s.cur.credited p).knownFor p = some h := hk
      simpa [Mod.repeatOf, known] using hd)
  have fresh (hd : (s.cur.knownFor p).bind (fun h => dupReply h r.hash) = none) : s.cur.checked (opRow code) p = true := by
    have none : (s.cur.credited p).repeatOf (opRow code) p = .none := hd
    simp [Mod.checked, ht, hn, hh, none]
  refine ⟨fun h hk hf he => again hk (by simp [dupReply, hf, he]), fun h hk hf he => again hk (by simp [dupReply, hf, he]),
    fun h st pl hk hf he => again hk (by simp [dupReply, hf, he]),
    fun h st pl hk hf he => ⟨fresh (by simp [hk, dupReply, hf, he]), fun g hg => ?dropped⟩,
    fun hk => fresh (by simp [hk])⟩
  case dropped =>
    simp only [Mod.cleared, Mod.forget, List.mem_filter] at hg
    rintro ⟨hl, hs, ht⟩
    simp [hl, hs, ht] at hg

/-! ### The legality table -/

/-- A leaf in OFF takes no packet. -/
theorem takes_of_off {m : Mod} {i : Side} (h : (m.leaf i).state = .off) : m.takes i = false := by
  simp [Mod.takes, Mod.serving, h]

/-- Settles O8: the cells one by one, and the course of a packet under each of them. -/
theorem legalityByState : Obligations.LegalityByState := by
  unfold Obligations.LegalityByState
  refine ⟨?cells, ?course⟩
  case course =>
    intro c code p s hp o
    refine ⟨fun h => exec_packet_not_taken hp (takes_of_off h), exec_packet_state hp,
      exec_packet_safety hp, fun hc hl hn => ?_⟩
    have cell : s.cur.cell o p = .a := by rw [Mod.cell, opRow_code, hl]
    simp [Mod.admits, hc, cell, hn]
  case cells =>
    intro row hr code hc
    refine ⟨?_, rfl⟩
    revert row code
    decide

/-! ### The limits of step 8 -/

/-- Settles O9: `limitCheck` counts the commands of the link first. -/
theorem pendingLimits : Obligations.PendingLimits := by
  unfold Obligations.PendingLimits
  intro c code p s hp hc hl r m busy
  refine ⟨fun h => exec_packet_limit hp hc hl ?pending, fun h _ hs => exec_packet_limit hp hc hl ?store⟩
  case pending => exact if_pos h
  case store => exact (if_neg (Nat.not_le.mpr h)).trans (if_pos hs)

/-! ### What a refusal leaves -/

/-- `n` differs from `m` only in what a refusal may change: the links, the sessions, the replies that wait, the held results and the
records. -/
def Mod.RefusedTo (m n : Mod) : Prop :=
  ∃ l t d h x, n = { m with links := l, sessions := t, deferred := d, held := h, recs := x }

theorem Mod.RefusedTo.refl (m : Mod) : m.RefusedTo m := ⟨_, _, _, _, _, rfl⟩

theorem Mod.RefusedTo.trans {m n k : Mod} (h : m.RefusedTo n) (h' : n.RefusedTo k) : m.RefusedTo k := by
  obtain ⟨l, t, d, g, x, rfl⟩ := h
  obtain ⟨l', t', d', g', x', rfl⟩ := h'
  exact ⟨_, _, _, _, _, rfl⟩

theorem setLink_refusedTo (m : Mod) (i : Side) (f : LinkSt → LinkSt) : m.RefusedTo (m.setLink i f) := ⟨_, _, _, _, _, rfl⟩

theorem journalReq_refusedTo (m : Mod) (r : Req) (st : Nat) : m.RefusedTo (m.journalReq r st) := by
  obtain ⟨x, e⟩ := journalReq_changes m r st
  exact ⟨_, _, _, _, x, e⟩

theorem sendReply_refusedTo (m : Mod) (w : Waiter) (fl st : Nat) (pl : List Byte) : m.RefusedTo (m.sendReply w fl st pl) := by
  obtain ⟨l, h, t, d, e⟩ := sendReply_changes m w fl st pl
  exact ⟨l, t, d, h, _, e⟩

theorem turnAway_refusedTo (m : Mod) (r : Req) (st : Nat) (d : List Byte) : m.RefusedTo (m.turnAway r st d) := by
  unfold Mod.turnAway
  split
  · exact (journalReq_refusedTo m r st).trans (sendReply_refusedTo _ _ _ _ _)
  · exact sendReply_refusedTo _ _ _ _ _

theorem overLimit_refusedTo (m : Mod) (r : Req) (st : Nat) (d : List Byte) : m.RefusedTo (m.overLimit r st d) :=
  (journalReq_refusedTo m r st).trans (sendReply_refusedTo _ _ _ _ _)

/-- A packet that acceptance does not admit is discarded, turned away or answered, whatever its own step. -/
theorem accept_refusedTo (o : Op) (p : Packet) (run : Req → State → State) (s : State) (ha : s.cur.admits o p = false) :
    ∃ m, s.cur.RefusedTo m ∧ accept o p run s = { s with cur := m } := by
  have credited : s.cur.RefusedTo (s.cur.credited p) := setLink_refusedTo _ _ _
  by_cases ht : s.cur.takes p.link = true
  case neg => exact ⟨s.cur, .refl _, accept_not_taken _ _ _ _ (Bool.eq_false_iff.mpr ht)⟩
  by_cases hn : (s.cur.link p.link).noCredit p.payload.length = true
  case pos => exact ⟨_, setLink_refusedTo _ _ _, accept_no_credit _ _ _ _ ht hn⟩
  rw [Bool.not_eq_true] at hn
  match hh : headerCheck o p (s.cur.credited p) with
  | some (st, d) => exact ⟨_, credited.trans (turnAway_refusedTo _ _ _ _), accept_header _ _ _ _ st d ht hn hh⟩
  | none =>
    match hr : (s.cur.credited p).repeatOf o p with
    | some (fl, st, pl) => exact ⟨_, credited.trans (sendReply_refusedTo _ _ _ _ _), accept_repeat _ _ _ _ fl st pl ht hn hh hr⟩
    | none =>
      have checked : s.cur.checked o p = true := by simp [Mod.checked, ht, hn, hh, hr]
      have course := accept_checked o p run s checked
      match hl : s.cur.cell o p with
      | .s => exact ⟨_, credited.trans (turnAway_refusedTo _ _ _ _), by rw [course, hl]⟩
      | .h => exact ⟨_, credited.trans (turnAway_refusedTo _ _ _ _), by rw [course, hl]⟩
      | .a =>
        match hd : limitCheck o (packetReq p o) (s.cur.cleared p) with
        | some (st, d) => exact ⟨_, credited.trans (overLimit_refusedTo _ _ _ _), by rw [course, hl]; dsimp only; rw [hd]⟩
        | none => simp [Mod.admits, checked, hl, hd] at ha

/-- Settles O10: each way acceptance ends but the own step of the opcode is a refusal. -/
theorem refusalHasNoEffect : Obligations.RefusalHasNoEffect := by
  unfold Obligations.RefusalHasNoEffect
  intro c code p s t hp ha he
  obtain ⟨run, e⟩ := exec_packet p s c code hp
  obtain ⟨m, ⟨l, n, d, h, x, rfl⟩, hm⟩ := accept_refusedTo (opRow code) p run s ha
  refine ⟨l, n, d, h, x, ?_⟩
  rw [e, hm] at he
  exact (Host.Outcome.next.inj he).symm

end Sys2Proof.Machine
end

section
/-! PROOFS. The first reply that is the final (R156 – R158): sent at once, and held. -/

namespace Sys2Proof.Machine

/-! ### A packet sent at once -/

section
variable (m : Mod) (i : Side)

theorem setLink_setLink (f g : LinkSt → LinkSt) : (m.setLink i f).setLink i g = m.setLink i fun l => g (f l) := by
  cases i <;> rfl

/-- Setting a link to what it is changes nothing. -/
theorem setLink_congr {f g : LinkSt → LinkSt} (h : f (m.link i) = g (m.link i)) : m.setLink i f = m.setLink i g := by
  unfold Mod.setLink Pair.modify
  rw [show f (m.links.get i) = g (m.links.get i) from h]

theorem setLink_markSeen (j : Side) (p : OutPkt) (f : LinkSt → LinkSt) :
    (m.markSeen j p).setLink i f = (m.setLink i f).markSeen j p := rfl

/-- On a link with credit and nothing waiting, past the boundary, a packet that is no event leaves at once, stamped. -/
theorem emit_sends (p : OutPkt) (hw : (m.link i).waiting = []) (hc : (m.link i).canSend p.payload.length = true)
    (hs : m.settling = false) (hf : p.flags.testBit 1 = false) :
    m.emit i p = (m.setLink i fun l => l.send m.tick.now (m.stamp i p)).markSeen i p := by
  have queued : ((m.setLink i fun l => { l with waiting := l.waiting ++ [p] }).link i).waiting = [p] := by simp [hw]
  have credit : ((m.setLink i fun l => { l with waiting := l.waiting ++ [p] }).link i).canSend p.payload.length = true := by
    rw [link_setLink_same]
    exact hc
  have sent : (m.setLink i fun l => { l with waiting := l.waiting ++ [p] }).sendNow i p =
      (m.setLink i fun l => ({ l with waiting := l.waiting ++ [p] } : LinkSt).send m.tick.now (m.stamp i p)).markSeen i p := by
    rw [Mod.sendNow, hf, setLink_setLink]
    rfl
  have emptied : (fun l : LinkSt => ({ ({ l with waiting := l.waiting ++ [p] } : LinkSt).send m.tick.now (m.stamp i p) with
      waiting := [] } : LinkSt)) (m.link i) = (m.link i).send m.tick.now (m.stamp i p) := by
    dsimp only
    rw [← hw]
    rfl
  have now : (m.setLink i fun l => { l with waiting := l.waiting ++ [p] }).settling = false := hs
  rw [Mod.emit, if_neg (by rw [now]; exact Bool.false_ne_true), Mod.pump, queued, Mod.sendAll, if_pos credit, Mod.sendAll, sent]
  rw [setLink_markSeen, setLink_setLink, setLink_congr m i (g := fun l => l.send m.tick.now (m.stamp i p)) emptied]

/-- So does a reply that nothing of its session waits before. -/
theorem sendReply_sends (w : Waiter) (fl st : Nat) (pl : List Byte) (hu : (m.link w.link).state = 2) (hb : m.blocked w = false)
    (hw : (m.link w.link).waiting = []) (hc : (m.link w.link).canSend (pad8 pl).length = true) (hs : m.settling = false)
    (hf : (fReply + fl).testBit 1 = false) :
    m.sendReply w fl st pl =
      (m.setLink w.link fun l => l.send m.tick.now (m.stamp w.link (replyPkt w fl st pl))).markSeen w.link
        (replyPkt w fl st pl) := by
  rw [Mod.sendReply, if_neg (not_not.mpr hu), hb, if_neg Bool.false_ne_true, emit_sends m _ _ hw hc hs hf]

/-- A reply that a standby without its peer does not send carries the leaf's state byte and is not stale. -/
theorem stamp_reply (w : Waiter) (st : Nat) (pl : List Byte) (h : (m.leaf i).state = .standby → m.xlinkDown = false) :
    m.stamp i (replyPkt w 0 st pl) = { replyPkt w 0 st pl with state := m.leaves.moduleByte.get i } := by
  have fresh : ((m.leaf i).state == .standby && m.xlinkDown) = false := by
    cases hd : m.xlinkDown <;> simp_all
  have bits : (fReply + 0).testBit 1 = false := rfl
  have unstale : ((fReply + 0).testBit 0 && (m.leaf i).state == .standby && m.xlinkDown && !(fReply + 0).testBit 4) = false := by
    simp [Bool.and_assoc, fresh]
  simp only [Mod.stamp, replyPkt, unstale, bits, Bool.false_eq_true, if_false]

/-- What `f` leaves of the tag of a held result and of its final. -/
def SameResult (f : Held → Held) : Prop :=
  ∀ h, (f h).link = h.link ∧ (f h).session = h.session ∧ (f h).tag = h.tag ∧ (f h).final = h.final

theorem markSeen_held (p : OutPkt) : ∃ f, SameResult f ∧ (m.markSeen i p).held = m.held.map f := by
  refine ⟨_, fun h => ?_, rfl⟩
  split <;> exact ⟨rfl, rfl, rfl, rfl⟩

variable {m} {w : Waiter} {h : Held}

/-- Once the final of a tag is held, no command under the tag waits. -/
theorem hold_final (holder : Side) (st : Nat) (pl : List Byte) (hm : h ∈ (m.hold w holder st pl).held) (hl : h.link = w.link)
    (hs : h.session = w.session) (ht : h.tag = w.tag) : h.final.isSome = true := by
  obtain ⟨g, -, rfl⟩ := List.mem_map.mp hm
  split at hl
  next c => rw [if_pos c]; rfl
  next c =>
    rw [if_neg c] at hs ht ⊢
    cases e : g.final with
    | none => exact absurd ⟨hl, hs, ht, e⟩ c
    | some _ => rfl

/-- A command that waits has its final once that is held. -/
theorem hold_waiting (holder : Side) (st : Nat) (pl : List Byte) (hm : h ∈ m.held) (hl : h.link = w.link)
    (hs : h.session = w.session) (ht : h.tag = w.tag) (hf : h.final = none) :
    ∃ g ∈ (m.hold w holder st pl).held, g.link = h.link ∧ g.session = h.session ∧ g.tag = h.tag ∧ g.final = some (st, pad8 pl) :=
  ⟨_, List.mem_map_of_mem hm, by rw [if_pos ⟨hl, hs, ht, hf⟩]; exact ⟨rfl, rfl, rfl, rfl⟩⟩
end

/-- Settles O12: the final is held, then sent, and what is held survives its marking as seen. -/
theorem firstReplyIsSentAndHeld : Obligations.FirstReplyIsSentAndHeld := by
  unfold Obligations.FirstReplyIsSentAndHeld
  intro r st pl m hu hw hc hb hp hx t out
  obtain ⟨x, hj⟩ := journalReq_changes m r st
  have settled : m.settling = false := by
    cases hr : m.tick.running with
    | false => simp [Mod.settling, hr]
    | true => simpa [Mod.settling, hr] using hp hr
  have stamped : m.stamp r.w.link (replyPkt r.w 0 st pl) = out := stamp_reply m r.w.link r.w st pl hx
  have sent : t = ((m.journalReq r st).hold r.w r.w.link st pl |>.setLink r.w.link fun l => l.send m.tick.now out).markSeen
      r.w.link (replyPkt r.w 0 st pl) := by
    rw [← stamped]
    simp only [t, answer, Mod.done, hj]
    exact sendReply_sends _ r.w 0 st pl hu hb hw hc settled rfl
  have link : t.link r.w.link = (m.link r.w.link).send m.tick.now out := by
    rw [sent, hj]
    exact link_setLink_same _ _ _
  obtain ⟨f, same, seen⟩ := markSeen_held ((m.journalReq r st).hold r.w r.w.link st pl) r.w.link (replyPkt r.w 0 st pl)
  have held : t.held = ((m.journalReq r st).hold r.w r.w.link st pl).held.map f := by rw [sent, ← seen]; rfl
  refine ⟨by rw [link]; rfl, by rw [link]; rfl, fun h hm hl hs ht => ?final, fun h hm hl hs ht hf => ?result, ?rest⟩
  case final =>
    rw [held] at hm
    obtain ⟨g, hg, rfl⟩ := List.mem_map.mp hm
    obtain ⟨link, session, tag, final⟩ := same g
    rw [final]
    exact hold_final _ _ _ hg (link ▸ hl) (session ▸ hs) (tag ▸ ht)
  case result =>
    have known : h ∈ (m.journalReq r st).held := by rw [hj]; exact hm
    obtain ⟨g, hg, gl, gs, gt, gf⟩ := hold_waiting r.w.link st pl known hl hs ht hf
    obtain ⟨link, session, tag, final⟩ := same g
    exact ⟨f g, held ▸ List.mem_map_of_mem hg, link.trans gl, session.trans gs, tag.trans gt, final.trans gf⟩
  case rest =>
    rw [sent, hj]
    exact ⟨_, _, _, rfl⟩

end Sys2Proof.Machine
end

section
/-! PROOFS. Packets without credit, undefined opcodes, and the change journal (R144, R165, R168, R498). -/

namespace Sys2Proof.Machine

/-! ### Packets without credit, and those that fail their CRC -/

/-- What an opcode that no table gives, or another VERSION, runs into. -/
theorem undefinedOpcode_taken {op : Byte} {p : Packet} {s : State} (hu : opOf op.toNat = none ∨ p.version ≠ 1)
    (ht : s.cur.takes p.link = true) : (!s.cur.takes p.link || ((opOf op.toNat).isSome && p.version == 1)) = false := by
  rcases hu with h | h
  · simp [ht, h]
  · rw [ht, show (p.version == 1) = false from beq_eq_false_iff_ne.mpr h, Bool.and_false]
    rfl

/-- Without credit, acceptance admits nothing. -/
theorem admits_of_noCredit (o : Op) {p : Packet} {m : Mod} (h : (m.link p.link).noCredit p.payload.length = true) :
    m.admits o p = false := by
  simp [Mod.admits, Mod.checked, h]

/-- Settles O5: each row of packets discards before it reads the header, and `mustDiscard` reads the front of the buffer. -/
theorem discardedPackets : Obligations.DiscardedPackets := by
  unfold Obligations.DiscardedPackets
  refine ⟨fun c p s kind ht hc => ?credit, fun i s hl hr hu => ⟨fun hb => ?bad, fun b t hb hg hn => ?good⟩⟩
  case credit =>
    obtain ⟨code, hp⟩ | ⟨op, hv, rfl⟩ | ⟨op, hu, rfl⟩ := kind
    · obtain ⟨run, e⟩ := exec_packet p s c code hp
      rw [e, accept_no_credit _ _ _ _ ht hc, Mod.discard]
    · simp only [exec, execVendorService, if_neg (Nat.not_lt.mpr hv), admits_of_noCredit _ hc, Bool.false_eq_true, if_false]
      rw [accept_no_credit _ _ _ _ ht hc, Mod.discard]
    · simp only [exec, execUndefinedOpcode, undefinedOpcode_taken hu ht, hc, Bool.false_eq_true, if_false, if_true]
      rfl
  case bad =>
    have must : (s.cur.link i).mustDiscard = true := by
      unfold LinkSt.mustDiscard
      split
      · rfl
      next b t e => rw [hb b t e]; rfl
    refine (happens_holds (fun m => m.linkUp i && (m.link i).mustDiscard) _ s
      (by simp [Mod.linkUp, Mod.serving, hl, hr, hu, must])).trans ?_
    rw [Mod.discard, setLink_setLink]
  case good =>
    have stays : (s.cur.link i).mustDiscard = false := by
      unfold LinkSt.mustDiscard
      rw [hb]
      simp [hg, hn]
    exact happens_not (fun m => m.linkUp i && (m.link i).mustDiscard) _ s (by simp [stays])

/-! ### UNDEFINED_OPCODE -/

/-- Settles O11: the checks of the header, and then the opcode itself. -/
theorem undefinedOpcodeAnswered : Obligations.UndefinedOpcodeAnswered := by
  unfold Obligations.UndefinedOpcodeAnswered
  intro op p s hu ht hc hears
  have course : exec (.undefinedOpcode op p) s =
      if p.version ≠ 1 then .next { s with cur := (s.cur.credited p).sendReply (packetWaiter p op.toNat) 0 eVERSION (plain ++ [2]) }
      else if !packetClean p then
        .next { s with cur := (s.cur.credited p).sendReply (packetWaiter p op.toNat) 0 ePARAM (detail 0x12 noField noIndex) }
      else if 8192 < p.len8.toNat then
        .next { s with cur := (s.cur.credited p).sendReply (packetWaiter p op.toNat) 0 ePARAM (badField noField) }
      else .next { s with cur := (s.cur.credited p).sendReply (packetWaiter p op.toNat) 0 ePARAM (detail 3 noField noIndex) } := by
    simp only [exec, execUndefinedOpcode, undefinedOpcode_taken hu ht, hc, Bool.false_eq_true, if_false]
  refine ⟨fun hv => ?version, fun hv hu => ?unclean, fun hv hg hl => ?long, fun hv hg hl => ?opcode⟩
  case version => exact course.trans (if_pos hv)
  case unclean => exact course.trans ((if_neg (not_not.mpr hv)).trans (if_pos (by rw [hu]; rfl)))
  all_goals have clean : ¬ (!packetClean p) = true := by rw [hg]; exact Bool.false_ne_true
  case long => exact course.trans ((if_neg (not_not.mpr hv)).trans ((if_neg clean).trans (if_pos hl)))
  case opcode => exact course.trans ((if_neg (not_not.mpr hv)).trans ((if_neg clean).trans (if_neg (Nat.not_lt.mpr hl))))

/-! ### The change journal -/

/-- With no entry of Zudin B's commands of the same tick before it, an entry is the newest. -/
theorem withEntry_newest (base n : Nat) (l : List JEntry) (e : JEntry)
    (h : e.link ≠ 0 ∨ ∀ x ∈ l, x.lateB base = false) : withEntry base n l e = l ++ [{ e with seq := n }] := by
  have none : (if e.link = 0 ∧ e.kind ≤ 1 then l.findIdx? (JEntry.lateB base) else .none) = .none := by
    rcases h with h | h
    · exact if_neg fun c => h c.1
    · rw [List.findIdx?_eq_none_iff.mpr h, ite_self]
  rw [withEntry, none]

/-- A command of Zudin A stands before those of Zudin B of the same tick. -/
theorem withEntry_before (base n : Nat) (f l : List JEntry) (e : JEntry) (h0 : e.link = 0) (hk : e.kind ≤ 1) (hl : l ≠ [])
    (hf : ∀ x ∈ f, x.lateB base = false) (hh : ∀ x ∈ l.head?, x.lateB base = true) :
    withEntry base n (f ++ l) e =
      f ++ [{ e with seq := n - l.length }] ++ l.map fun (x : JEntry) => { x with seq := x.seq + 1 } := by
  obtain ⟨x, t, rfl⟩ := List.exists_cons_of_ne_nil hl
  have place : (f ++ x :: t).findIdx? (JEntry.lateB base) = some f.length := by
    rw [List.findIdx?_append, List.findIdx?_eq_none_iff.mpr hf]
    simp [List.findIdx?_cons, hh x rfl]
  rw [withEntry, if_pos ⟨h0, hk⟩, place]
  simp

/-- While the journal is not full, an entry drops none. -/
theorem journal_recs (m : Mod) (e : JEntry) (h : m.recs.journal.length < 262144) :
    (m.journal e).recs.journal = withEntry m.recs.jBase m.recs.jSeq m.recs.journal e := by
  have one : (withEntry m.recs.jBase m.recs.jSeq m.recs.journal e).length = m.recs.journal.length + 1 := by
    unfold withEntry
    split
    next k hk =>
      split at hk
      · simp only [List.length_append, List.length_take, List.length_map, List.length_drop, List.length_singleton]
        omega
      · cases hk
    · simp
  rw [Mod.journal]
  dsimp only
  rw [one, Nat.sub_eq_zero_of_le h, List.drop_zero]

/-- Settles O13. -/
theorem journalOfCommands : Obligations.JournalOfCommands := by
  unfold Obligations.JournalOfCommands
  intro r st m room
  refine ⟨fun hq hs => ?query, ?entry⟩
  case query => simp [Mod.journalReq, hq, hs]
  case entry =>
    intro hj e
    have entered : m.journalReq r st = m.journal { e with seq := 0 } := if_pos (by rcases hj with h | h <;> simp [h])
    have few : e.kind ≤ 1 := by
      dsimp only [e]
      split <;> decide
    rw [entered]
    refine ⟨fun h => ?newest, fun f l ha hd hl hf hh => ?before, rfl⟩
    case newest =>
      rw [journal_recs _ _ room, withEntry_newest]
      exact h.imp_left fun hb => by simp [e, hb, Side.num]
    case before =>
      rw [journal_recs _ _ room, hd]
      exact withEntry_before _ _ f l { e with seq := 0 } (show r.w.link.num = 0 by rw [ha]; rfl) few hl hf hh

end Sys2Proof.Machine
end

section
/-! PROOFS. The session family (R148, R149, R162): the equations of its commands, and what each answers. -/

namespace Sys2Proof.Machine

/-! ### SESSION_OPEN -/

section
variable (r : Req) (m : Mod)

/-- The session that SESSION_OPEN opens: the next number, the observer role, a NONCE of its own. -/
def Mod.freshSession (m : Mod) (i : Side) : Session :=
  { link := i, id := BitVec.ofNat 32 (m.nextSid.get i), role := 0, nonce := m.freeBytes 32, opened := m.tick.now
    keyId := none, mask := 0, evSeq := 0, lost := 0, sel := .init, latch := .init }

variable {r m} (h : sized r.payload 16 = true) (hz : zeros r.payload 1 7 = true)
include h hz

theorem runSessionOpen_opens (hv : (field r.payload 0 1).testBit 1 = true)
    (hn : (m.sessions.filter fun t => t.link == r.w.link).length < 8) :
    runSessionOpen r m =
      answer r stOK (le 4 (m.nextSid.get r.w.link) ++ [1, 0, 0, 0] ++ m.freeBytes 32)
        { m with
          freeCtr := m.freeCtr + 32, nextSid := m.nextSid.set r.w.link (m.nextSid.get r.w.link + 1)
          sessions := m.sessions ++ [m.freshSession r.w.link] } := by
  simp [runSessionOpen, h, hz, hv, Nat.not_le.mpr hn, Mod.freshSession, Mod.useFree]

theorem runSessionOpen_limit (hv : (field r.payload 0 1).testBit 1 = true)
    (hn : 8 ≤ (m.sessions.filter fun t => t.link == r.w.link).length) :
    runSessionOpen r m = refuse r eBUSY (detail 0x10 noField noIndex) m := by
  simp [runSessionOpen, h, hz, hv, hn]

theorem runSessionOpen_version (hv : (field r.payload 0 1).testBit 1 = false) :
    runSessionOpen r m = refuse r eVERSION (plain ++ [2]) m := by
  simp [runSessionOpen, h, hz, hv]
end

/-! ### SESSION_AUTH -/

section
variable {r : Req} {m : Mod} {proof : Option Proven} {t : Session} (h : sized r.payload 7864 = true)
  (hz : zeros r.payload 5 3 = true) (hr : field r.payload 4 1 ≤ 4) (ht : m.session r.w.link r.w.session = some t)
include h hz hr

/-- The link is in a back-off (R149). -/
def Mod.inBackoff (m : Mod) (i : Side) : Prop := ∃ b, (m.link i).backoff = some b ∧ m.tick.now < b

/-- In a back-off no proof is read. -/
theorem runSessionAuth_backoff (hb : m.inBackoff r.w.link) :
    runSessionAuth proof r m = refuse r eBUSY (detail 0x0B noField noIndex) m := by
  obtain ⟨b, e, lt⟩ := hb
  simp [runSessionAuth, h, hz, Nat.not_lt.mpr hr, e, lt]

include ht

/-- Outside one, the time and then the proof decide. -/
theorem runSessionAuth_proof (hb : ¬ m.inBackoff r.w.link) :
    runSessionAuth proof r m =
      if t.opened + 1000000 < m.tick.now then refuse r eTIMEOUT plain m
      else if m.signed proof (field r.payload 0 4) (authMessage t (field r.payload 4 1)) (slice r.payload 8 7856) &&
          m.keyProves (field r.payload 0 4) (field r.payload 4 1) then
        answer r stOK (le 1 (field r.payload 4 1))
          (m.setSession r.w.link r.w.session fun t =>
            { t with role := field r.payload 4 1, keyId := some (BitVec.ofNat 32 (field r.payload 0 4)) })
      else refuse r eAUTH (detail 0x0A noField noIndex) (m.setLink r.w.link fun l => l.reject m.tick.now) := by
  have free (b : Nat) (e : (m.link r.w.link).backoff = some b) : ¬ m.tick.now < b := fun lt => hb ⟨b, e, lt⟩
  obtain e | ⟨b, e⟩ := Option.eq_none_or_eq_some (m.link r.w.link).backoff
  · simp [runSessionAuth, h, hz, Nat.not_lt.mpr hr, ht, e]
  · simp [runSessionAuth, h, hz, Nat.not_lt.mpr hr, ht, e, Nat.not_lt.mp (free b e)]
end

/-- A proof is of its message under the public part of its key (R478). -/
theorem signed_iff (m : Mod) (proof : Option Proven) (key : Nat) (message sig : List Byte) :
    m.signed proof key message sig = true ↔ proof = some { key := m.publicPart key, message := message, sig := sig } := by
  simp [Mod.signed]

/-- Settles O15: the equations of the two commands, one by one. -/
theorem sessionOpensAndAuthenticates : Obligations.SessionOpensAndAuthenticates := by
  unfold Obligations.SessionOpensAndAuthenticates
  refine ⟨fun s p ha h hz => ?opens, fun s p proof t ha h hz hr => ?auth⟩
  case opens =>
    intro m0 here n
    exact ⟨fun hv hn => commandM_runs 0x01 p _ _ s ha (runSessionOpen_opens h hz hv hn),
      fun hv hn => commandM_runs 0x01 p _ _ s ha (runSessionOpen_limit h hz hv hn),
      fun hv => commandM_runs 0x01 p _ _ s ha (runSessionOpen_version h hz hv)⟩
  case auth =>
    intro m0 key role backed message valid ht
    have proves (hb : ¬ backed) := runSessionAuth_proof (r := packetReq p (opRow 0x02)) (proof := proof) h hz hr ht hb
    have late (ho : m0.tick.now ≤ t.opened + 1000000) : ¬ t.opened + 1000000 < m0.tick.now := Nat.not_lt.mpr ho
    have accepted : (m0.signed proof key (authMessage t role) (slice p.payload 8 7856) && m0.keyProves key role) = true ↔
        valid ∧ m0.keyProves key role = true := by
      rw [Bool.and_eq_true, signed_iff]
      rfl
    refine ⟨fun hb ho hv hk => commandM_runs 0x02 p _ _ s ha ?valid, fun hb ho hn => commandM_runs 0x02 p _ _ s ha ?invalid,
      fun hb hl => commandM_runs 0x02 p _ _ s ha ?late, fun hb => commandM_runs 0x02 p _ _ s ha ?backoff⟩
    case valid => exact (proves hb).trans ((if_neg (late ho)).trans (if_pos (accepted.mpr ⟨hv, hk⟩)))
    case invalid => exact (proves hb).trans ((if_neg (late ho)).trans (if_neg (mt accepted.mp hn)))
    case late => exact (proves hb).trans (if_pos hl)
    case backoff => exact runSessionAuth_backoff h hz hr hb

/-! ### RESULT_READ -/

/-- The result that RESULT_READ names, other than its own. -/
def Mod.resultFor (m : Mod) (r : Req) : Option Held :=
  let i : Side := if field r.payload 0 1 = 0 then .a else .b
  m.held.find? fun h => h.link == i && h.session == wordAt r.payload 4 && h.tag == BitVec.ofNat 16 (field r.payload 2 2) &&
    h.kept m.tick.now && !(h.link == r.w.link && h.session == r.w.session && h.tag == r.w.tag)

/-- What RESULT_READ leaves of a final that the leaf can reach: it is sent behind the opcode and status of its command, and
marked. -/
def Mod.readResult (m : Mod) (r : Req) (h : Held) (out : List Byte) : Mod :=
  let i : Side := if field r.payload 0 1 = 0 then .a else .b
  let n := (m.hold r.w r.w.link stOK out).sendReply r.w (if h.seen then fRepeat else 0) stOK out
  { n with held := n.held.map fun g =>
      if g.link = i ∧ g.session = wordAt r.payload 4 ∧ g.tag = BitVec.ofNat 16 (field r.payload 2 2) then { g with seen := true }
      else g }

section
variable {r : Req} {m : Mod} (hs : sized r.payload 8 = true) (hl : field r.payload 0 1 ≤ 1) (hz : zeros r.payload 1 1 = true)
include hs hl hz

theorem runResultRead_unknown (hf : m.resultFor r = none) :
    runResultRead r m = refuse r ePARAM (detail 5 noField noIndex) m := by
  simp only [runResultRead, hs, Nat.not_lt.mpr hl, hz, Bool.not_true, Bool.false_eq_true, if_false]
  split
  · rfl
  next h e => cases hf.symm.trans e

variable {h : Held} (hf : m.resultFor r = some h)
include hf

/-- Of a result found, the role and then the final decide. -/
theorem runResultRead_found :
    runResultRead r m =
      if (m.session r.w.link r.w.session).elim 0 Session.role < h.role then refuse r eAUTH plain m
      else match h.final with
        | none => answer r stPENDING [] m
        | some (st, pl) =>
          if h.holder = r.w.link ∨ h.mirrored ∨ (m.leaves.xlinkUp ∧ m.serving h.holder) then
            m.readResult r h (le 1 h.opcode ++ le 1 st ++ le 6 0 ++ pl)
          else refuse r eTIMEOUT (detail 0x13 noField noIndex) m := by
  simp only [runResultRead, hs, Nat.not_lt.mpr hl, hz, Bool.not_true, Bool.false_eq_true, if_false]
  split
  next e => cases hf.symm.trans e
  next g e =>
    obtain rfl : h = g := Option.some.inj (hf.symm.trans e)
    cases m.session r.w.link r.w.session <;> rfl
end

/-- Settles O16: the result that the packet names, then the role, then the final. -/
theorem resultRead : Obligations.ResultRead := by
  unfold Obligations.ResultRead
  intro s p ha hs hl hz m0 i sid tag found proven
  have reads {h : Held} (hf : found = some h) := runResultRead_found (r := packetReq p (opRow 0x06)) (m := m0) hs hl hz hf
  have covered {h : Held} (hr : h.role ≤ proven) : ¬ proven < h.role := Nat.not_lt.mpr hr
  refine ⟨fun hf => ?unknown, fun h hf hr => ?above, fun h hf hr hn => ?pending, fun h st pl hf hr hd hh => ?final⟩
  case unknown => exact commandM_runs 0x06 p _ _ s ha (runResultRead_unknown hs hl hz hf)
  case above => exact commandM_runs 0x06 p _ _ s ha ((reads hf).trans (if_pos hr))
  case pending => exact commandM_runs 0x06 p _ _ s ha ((reads hf).trans ((if_neg (covered hr)).trans (by rw [hn])))
  case final =>
    refine commandM_runs 0x06 p _ _ s ha ((reads hf).trans ((if_neg (covered hr)).trans ?_))
    rw [hd]
    exact if_pos hh

end Sys2Proof.Machine
end

section
/-! PROOFS. Queries (R169): each answers from the view of its leaf. -/

namespace Sys2Proof.Machine

/-- An admitted query answers with what it makes of the view of its leaf. -/
theorem query_answers {code : Nat} {p : Packet} {f : Mod → Req → Mod → Mod} {s : State} {b : List Byte}
    (ha : s.cur.admits (opRow code) p = true)
    (hf : f (s.view p.link) (packetReq p (opRow code)) (s.cur.taken (opRow code) p) =
      answer (packetReq p (opRow code)) stOK b (s.cur.taken (opRow code) p)) :
    query code p f s = .next (s.ran code p fun r m => answer r stOK b m) := by
  rw [query_admitted p s code f ha]
  exact congrArg (fun m => Host.Outcome.next { s with cur := m }) hf

section
variable {r : Req} {m v : Mod}

theorem runPortQuery_answers (h : sized r.payload 4 = true) (hf : field r.payload 0 2 < 512)
    (hr : portRange (field r.payload 0 2) (field r.payload 2 2) = true) :
    runPortQuery v r m =
      answer r stOK ((List.range (field r.payload 2 2)).flatMap fun k => portEntry v (field r.payload 0 2 + k)) m := by
  simp [runPortQuery, h, hr, Nat.not_le.mpr hf]

theorem runNeighbourQuery_answers (h : sized r.payload 2 = true) (hf : field r.payload 0 2 < 512) :
    runNeighbourQuery v r m = answer r stOK (neighRecord v (field r.payload 0 2)) m := by
  simp [runNeighbourQuery, h, Nat.not_le.mpr hf]

theorem runJobQuery_answers {slot : Nat} {j : Job} (h : sized r.payload 4 = true)
    (hj : v.slotOf (wordAt r.payload 0) = some (slot, j)) : runJobQuery v r m = answer r stOK (jobBytes v slot j) m := by
  simp [runJobQuery, h, hj]

/-- TIME_QUERY is no answer of its own: it waits for the Commit step. -/
theorem runTimeQuery_waits (h : r.payload = []) (hq : r.query = true) :
    runTimeQuery r m = { m with time := { m.time with queries := m.time.queries ++ [r.w] } } := by
  simp [runTimeQuery, h, Mod.journalReq, hq, stOK, eAUTH]

theorem runSeqRead_answers (l : Mod → List (Nat × List Byte)) (h : sized r.payload 10 = true) (h1 : 1 ≤ field r.payload 8 2)
    (h2 : field r.payload 8 2 ≤ 1024) :
    runSeqRead l r m = answer r stOK (seqReply (field r.payload 0 8) (field r.payload 8 2) (l m)) m := by
  simp [runSeqRead, h, Nat.not_lt.mpr h2, Nat.pos_iff_ne_zero.mp h1]

/-! ### PLAN_QUERY, CIRCUIT_QUERY and TRACE_READ -/

section
variable (h : sized r.payload 4 = true)
include h

/-- A plan that is not CHECKING answers for itself. -/
theorem runPlanQuery_plan {q : Plan} (hq : v.plan (wordAt r.payload 0) = some q) (hc : q.state ≠ .checking) :
    runPlanQuery v r m =
      match q.state with
      | .staged => answer r stOK (planReply 0 q.base q.n q.w q.n2 q.w2 (List.replicate 56 0) [] []) m
      | .queued => answer r stOK (planReply 1 q.gen q.n q.w q.n2 q.w2 (List.replicate 56 0) [] []) m
      | _ =>
        match v.engine.run with
        | some x =>
          answer r stOK (planReply 2 q.gen x.n x.w x.n2 x.w2 (launchBytes x.record) x.counts (x.list q v.engine.members)) m
        | none => answer r stOK (planReply 2 q.gen q.n q.w q.n2 q.w2 (List.replicate 56 0) [] []) m := by
  have here : (v.plan (wordAt r.payload 0)).filter (fun p => p.state != .checking) = some q := by
    simp [hq, hc]
  simp only [runPlanQuery, h, here, Bool.not_true, Bool.false_eq_true, if_false] <;>
    cases q.state <;> rfl

/-- Where no plan but one in CHECKING has the number, a kept outcome answers. -/
theorem runPlanQuery_outcome {o : Outcome} (hq : ∀ q, v.plan (wordAt r.payload 0) = some q → q.state = .checking)
    (ho : v.outcome (wordAt r.payload 0) = some o) :
    runPlanQuery v r m =
      answer r stOK (planReply 3 o.gen o.n o.w o.n2 o.w2 (launchBytes o.launched) o.counts o.list) m := by
  have gone : (v.plan (wordAt r.payload 0)).filter (fun p => p.state != .checking) = none := by
    rw [Option.filter_eq_none_iff]
    intro q e
    simp [hq q e]
  simp only [runPlanQuery, h, gone, ho, Bool.not_true, Bool.false_eq_true, if_false]
end

/-- The circuits of the members that touch a port, by its side. -/
def Mod.membersAt (v : Mod) (side port : Nat) : List Context :=
  v.engine.members.filter fun x => (if side = 0 then x.circ.src else x.circ.dst) == port

theorem runCircuitQuery_answers (h : sized r.payload 5 = true) (hf : field r.payload 0 2 < 512)
    (hr : portRange (field r.payload 0 2) (field r.payload 2 2) = true) (hs : field r.payload 4 1 ≤ 1) :
    let q := queryPorts (v.membersAt (field r.payload 4 1)) (field r.payload 2 2) (field r.payload 0 2) 2040 []
    runCircuitQuery v r m = answer r stOK (le 2 q.1.length ++ le 2 (q.2.getD 0) ++ le 1 (b2n q.2.isSome) ++ le 3 0 ++
      q.1.flatMap (contextBytes v)) m := by
  simp only [runCircuitQuery, h, hr, Nat.not_le.mpr hf, Nat.not_lt.mpr hs, Bool.not_true, Bool.false_eq_true, if_false]
  rfl

theorem runTraceRead_answers (h : sized r.payload 6 = true) (hb : field r.payload 0 1 < 64) (hz : zeros r.payload 1 1 = true)
    (h1 : 1 ≤ field r.payload 4 2) (h2 : field r.payload 2 2 + field r.payload 4 2 ≤ 4096)
    (hn : ∀ n, (v.trowel.trace.get r.w.link).nodes[field r.payload 0 1]? = some n → m.variant.loop n.1 = true) :
    let t := v.trowel.trace.get r.w.link
    let b := field r.payload 0 1
    let xs := if b < t.nodes.length then (t.samples.drop (field r.payload 2 2)).take (field r.payload 4 2) else []
    runTraceRead v r m = answer r stOK (le 1 t.state.code ++ le 1 (b2n t.interrupted) ++ le 2 0 ++ le 2 xs.length ++
      le 2 0 ++ le 8 t.trigTick ++ le 8 (xs.head?.elim 0 Prod.fst) ++ xs.flatMap fun x => le 4 (lget 0 x.2 b).toNat) m := by
  intro t b xs
  have count : ¬ (field r.payload 4 2 < 1 ∨ 4096 < field r.payload 4 2) := by omega
  have node : ¬ (match t.nodes[b]? with | some n => !m.variant.loop n.1 | none => false) = true := by
    split
    next n e => simp [hn n e]
    · exact Bool.false_ne_true
  have first : xs.head?.elim 0 Prod.fst = (match xs with | x :: _ => x.1 | [] => 0) := by cases xs <;> rfl
  rw [first]
  unfold runTraceRead
  rw [if_neg (by simp [h]), if_neg (Nat.not_le.mpr hb), if_neg (by simp [hz]), if_neg count, if_neg (Nat.not_lt.mpr h2)]
  exact if_neg node
end

/-- Settles O17: each query past its own checks is the answer that its equation gives. -/
theorem queriesReplyAndEnd : Obligations.QueriesReplyAndEnd := by
  unfold Obligations.QueriesReplyAndEnd
  refine ⟨fun s p => ?records, fun s p => ?lists⟩
  case records =>
    intro v pl hears seqOk
    refine ⟨fun ha h hf hr => query_answers ha (runPortQuery_answers h hf hr),
      fun ha h hf => query_answers ha (runNeighbourQuery_answers h hf),
      fun ha h => query_answers ha (if_neg (not_not.mpr h)),
      fun slot j ha h hj => query_answers ha (runJobQuery_answers h hj),
      fun ha h => commandM_runs 0x60 p _ _ s ha (runTimeQuery_waits h rfl),
      fun ha h => query_answers ha (if_neg (not_not.mpr h)),
      fun ha h => query_answers ha (if_neg (not_not.mpr h)),
      fun ha h => commandM_runs 0x70 p _ _ s ha (runSeqRead_answers _ h.1 h.2.1 h.2.2),
      fun ha h => commandM_runs 0x71 p _ _ s ha (runSeqRead_answers _ h.1 h.2.1 h.2.2),
      fun ha h => commandM_runs 0x73 p _ _ s ha (runSeqRead_answers _ h.1 h.2.1 h.2.2)⟩
  case lists =>
    intro v pl id hears none56
    refine ⟨fun ha h => ⟨fun q hq hs => query_answers ha ?staged, fun q hq hs => query_answers ha ?queued,
      fun q x hq hs hx => query_answers ha ?running, fun o hq ho => query_answers ha (runPlanQuery_outcome h hq ho)⟩,
      fun ha h hf hr hs => query_answers ha (runCircuitQuery_answers h hf hr hs),
      fun ha h hb hz h1 h2 hn => query_answers ha (runTraceRead_answers h hb hz h1 h2 hn)⟩
    case staged =>
      refine (runPlanQuery_plan h hq (by rw [hs]; decide)).trans ?_
      rw [hs]
    case queued =>
      refine (runPlanQuery_plan h hq (by rw [hs]; decide)).trans ?_
      rw [hs]
    case running =>
      refine (runPlanQuery_plan h hq (by rw [hs]; decide)).trans ?_
      rw [hs]
      dsimp only
      rw [hx]

end Sys2Proof.Machine
end

section
/-! PROOFS. Resets and the boot (R172, R461, R462, R71, R497, R412): what each leaves. -/

namespace Sys2Proof.Machine

/-! ### What a reset and a boot leave -/

/-- The state of a leaf and its reset causes. -/
def LeafSt.marks (l : LeafSt) : LeafState × Nat × Nat := (l.state, l.causeLast, l.causePrev)

/-- What neither the end of the commands nor the images of a boot touch: the latched elements, the tick, the supplies, the reset
asked for, and the leaves' states and causes. -/
def Mod.bootCore (m : Mod) :=
  (m.fabric.set, m.tick, m.sup, m.leaves.resetAt, m.leaves.resetNow, m.leaves.leaf.a.marks, m.leaves.leaf.b.marks)

section
variable (m : Mod)

theorem ite_bootCore (c : Prop) [Decidable c] (n : Mod) :
    (if c then m else n).bootCore = if c then m.bootCore else n.bootCore := apply_ite Mod.bootCore c m n

theorem bootCore_of_butWindows {m n : Mod} (h : m.butWindows = n.butWindows) : m.bootCore = n.bootCore :=
  congrArg (fun f : Trowel → Mod => (f m.trowel).bootCore) h

@[simp] theorem setLink_bootCore (i : Side) (f : LinkSt → LinkSt) : (m.setLink i f).bootCore = m.bootCore := rfl

theorem setLeaf_bootCore (i : Side) {f : LeafSt → LeafSt} (h : ∀ l, (f l).marks = l.marks) :
    (m.setLeaf i f).bootCore = m.bootCore := by
  cases i <;> simp [Mod.bootCore, Mod.setLeaf, Pair.modify, Pair.set, Pair.get, h]

@[simp] theorem setJob_bootCore (k : Nat) (f : Job → Job) : (m.setJob k f).bootCore = m.bootCore := rfl

@[simp] theorem setCourse_bootCore (c : Nat) (f : Course → Course) : (m.setCourse c f).bootCore = m.bootCore := rfl

@[simp] theorem setDomain_bootCore (c : Nat) (f : Domain → Domain) : (m.setDomain c f).bootCore = m.bootCore := rfl

@[simp] theorem setReserved_bootCore (l : List Nat) : (m.setReserved l).bootCore = m.bootCore := rfl

@[simp] theorem record_bootCore (ty origin : Nat) (data : List Byte) : (m.record ty origin data).bootCore = m.bootCore := by
  obtain ⟨r, e⟩ := record_changes m ty origin data
  rw [e]
  rfl

@[simp] theorem fire_bootCore (n : Nat) : (m.fire n).bootCore = m.bootCore := by
  obtain ⟨k, e⟩ := fire_changes m n
  rw [e]
  rfl

@[simp] theorem journalInternal_bootCore (kind st : Nat) (ref : Word) (l : Option LaunchRec) :
    (m.journalInternal kind st ref l).bootCore = m.bootCore := by
  unfold Mod.journalInternal
  obtain ⟨r, e⟩ := journal_changes m _
  rw [e]
  rfl

@[simp] theorem pump_bootCore (i : Side) : (m.pump i).bootCore = m.bootCore := by
  obtain ⟨l, h, t, e⟩ := pump_changes m i
  rw [e]
  rfl

@[simp] theorem final_bootCore (w : Waiter) (st : Nat) (pl : List Byte) : (m.final w st pl).bootCore = m.bootCore := by
  obtain ⟨l, h, t, d, e⟩ := final_changes m w st pl
  rw [e]
  rfl

@[simp] theorem finalTo_bootCore (w : Option Waiter) (st : Nat) (pl : List Byte) :
    (m.finalTo w st pl).bootCore = m.bootCore := by
  obtain ⟨l, h, t, d, e⟩ := finalTo_changes m w st pl
  rw [e]
  rfl

@[simp] theorem event_bootCore (cls : Nat) (body : List Byte) : (m.event cls body).bootCore = m.bootCore := by
  obtain ⟨l, h, t, e⟩ := event_changes m cls body
  rw [e]
  rfl

/-! ### The end of the commands -/

@[simp] theorem endJob_bootCore (slot reason code : Nat) : (m.endJob slot reason code).bootCore = m.bootCore := by
  have cleaned (l : List Nat) : (m.cleanCourses l).bootCore = m.bootCore :=
    foldl_keeps Mod.bootCore _ (fun m c => setCourse_bootCore m c _) l m
  unfold Mod.endJob
  split
  · rfl
  · simp only [event_bootCore, ite_bootCore, finalTo_bootCore, setJob_bootCore, cleaned, ite_self]

theorem closeRun_bootCore (r : Running) (st : Nat) (gen : Word) (shown : List Nat) :
    (m.closeRun r st gen shown).bootCore = m.bootCore := by
  have broken (n : Mod) (old : List Context) : (n.reportBroken r old).bootCore = n.bootCore :=
    foldl_keeps Mod.bootCore _ (fun m _ => event_bootCore m _ _) _ n
  unfold Mod.closeRun
  dsimp only
  split
  · rw [journalInternal_bootCore, broken]
    rfl
  · rw [finalTo_bootCore, fire_bootCore, journalInternal_bootCore]
    exact broken { m with engine := _ } m.engine.members

theorem endNow_bootCore (why : EndWhy) : (m.endNow why).bootCore = m.bootCore := by
  unfold Mod.endNow
  split
  · rfl
  · exact (closeRun_bootCore _ _ _ _ _).trans (bootCore_of_butWindows (dropWaiting_butWindows m _))

theorem closeBlink_bootCore (st : Nat) (d : List Byte) : (m.closeBlink st d).bootCore = m.bootCore := by
  unfold Mod.closeBlink
  split
  · rfl
  · exact final_bootCore _ _ _ _

theorem unlaunch_bootCore (p : Plan) (st : Nat) (d : List Byte) : (m.unlaunch p st d).bootCore = m.bootCore := by
  unfold Mod.unlaunch
  dsimp only
  rw [finalTo_bootCore]
  rfl

theorem dropQueue_bootCore (st : Nat) : (m.dropQueue st).bootCore = m.bootCore :=
  foldl_keeps Mod.bootCore _ (fun m p => unlaunch_bootCore m p st plain) _ m

theorem endLaunches_bootCore : m.endLaunches.bootCore = m.bootCore :=
  foldl_keeps Mod.bootCore _ (fun m _ => final_bootCore m _ _ _) _ _

theorem endCommands_bootCore : m.endCommands.bootCore = m.bootCore := by
  unfold Mod.endCommands
  extract_lets m1 m2 m3
  calc _ = m3.bootCore := foldl_keeps Mod.bootCore _ (fun m _ => final_bootCore m _ _ _) _ m3
    _ = m2.bootCore := foldl_keeps Mod.bootCore _ (fun m _ => endJob_bootCore m _ _ _) _ m2
    _ = m1.bootCore := (closeBlink_bootCore _ _ _).trans (endLaunches_bootCore m1)
    _ = m.bootCore := (dropQueue_bootCore _ _).trans (endNow_bootCore m .reset)
theorem relockTarget_bootCore (t event : Nat) : (m.relockTarget t event).bootCore = m.bootCore := by
  obtain ⟨f, r, e⟩ := relockTarget_changes m t event
  rw [e]
  rfl

/-! ### The images and the self-test of a boot -/

@[simp] theorem imageRecord_bootCore (event slot : Nat) (img : Slot) (link : Nat) :
    (m.imageRecord event slot img link).bootCore = m.bootCore := record_bootCore m _ _ _

@[simp] theorem imageRecord_engine (event slot : Nat) (img : Slot) (link : Nat) :
    (m.imageRecord event slot img link).engine = m.engine := record_engine m _ _ _

@[simp] theorem endJob_engine (slot reason code : Nat) : (m.endJob slot reason code).engine = m.engine := by
  have cleaned (l : List Nat) : (m.cleanCourses l).engine = m.engine :=
    foldl_keeps Mod.engine _ (fun m c => setCourse_engine m c _) l m
  unfold Mod.endJob
  split
  · rfl
  · simp only [event_engine, apply_ite Mod.engine, finalTo_engine, setJob_engine, cleaned, ite_self]

/-- What the choice of the images changes: nothing of what a boot keeps, and nothing of the engine. -/
theorem finishSlots_core : m.finishSlots.bootCore = m.bootCore ∧ m.finishSlots.engine = m.engine := by
  unfold Mod.finishSlots
  dsimp only
  split <;> exact ⟨rfl, rfl⟩

theorem activate_core (b : BootIn) : (m.activate b).bootCore = m.bootCore ∧ (m.activate b).engine = m.engine := by
  unfold Mod.activate Mod.fallBack
  dsimp only
  split
  · split <;> exact ⟨imageRecord_bootCore _ _ _ _ _, imageRecord_engine _ _ _ _ _⟩
  split
  · split
    · exact ⟨imageRecord_bootCore _ _ _ _ _, imageRecord_engine _ _ _ _ _⟩
    · exact ⟨rfl, rfl⟩
  · exact ⟨rfl, rfl⟩

theorem chooseImage_core (b : BootIn) : (m.chooseImage b).bootCore = m.bootCore ∧ (m.chooseImage b).engine = m.engine := by
  unfold Mod.chooseImage
  split
  · exact ⟨rfl, rfl⟩
  split <;> exact ⟨rfl, rfl⟩

theorem bootImages_core (b : BootIn) : (m.bootImages b).bootCore = m.bootCore ∧ (m.bootImages b).engine = m.engine := by
  obtain ⟨f, fe⟩ := finishSlots_core m
  obtain ⟨a, ae⟩ := activate_core m.finishSlots b
  obtain ⟨c, ce⟩ := chooseImage_core (m.finishSlots.activate b) b
  exact ⟨c.trans (a.trans f), ce.trans (ae.trans fe)⟩

theorem leavesSet_core (c reason : Nat) :
    (leavesSet c reason m).bootCore = m.bootCore ∧ (leavesSet c reason m).engine = m.engine := by
  unfold leavesSet
  dsimp only
  rw [record_bootCore, record_engine]
  split
  · exact ⟨endJob_bootCore m _ _ _, endJob_engine m _ _ _⟩
  · exact ⟨rfl, rfl⟩

theorem selfTest_core (ok : BitVec 16) : (m.selfTest ok).bootCore = m.bootCore ∧ (m.selfTest ok).engine = m.engine := by
  unfold Mod.selfTest
  extract_lets back m1 m2
  have back1 : m1.bootCore = m.bootCore ∧ m1.engine = m.engine :=
    ⟨foldl_keeps Mod.bootCore _ (fun m c => setCourse_bootCore m c _) back m,
      foldl_keeps Mod.engine _ (fun m c => setCourse_engine m c _) back m⟩
  have left : m2.bootCore = m1.bootCore ∧ m2.engine = m1.engine :=
    ⟨foldl_keeps Mod.bootCore _ (fun m c => (leavesSet_core m c 2).1) _ m1,
      foldl_keeps Mod.engine _ (fun m c => (leavesSet_core m c 2).2) _ m1⟩
  exact ⟨(setReserved_bootCore m2 _).trans (left.1.trans back1.1), left.2.trans back1.2⟩

theorem bootModule_core (b : BootIn) : (m.bootModule b).bootCore = m.bootCore ∧ (m.bootModule b).engine = m.engine := by
  unfold Mod.bootModule
  extract_lets go m1 m2 train
  obtain ⟨i, ie⟩ := bootImages_core m b
  obtain ⟨t, te⟩ := selfTest_core (m.bootImages b) b.coursesOk
  have released : m2.bootCore = m1.bootCore :=
    calc m2.bootCore = (((m1.setLeaf .a go).setLeaf .b go).loadImage .a).bootCore := setLeaf_bootCore _ .b fun _ => rfl
      _ = ((m1.setLeaf .a go).setLeaf .b go).bootCore := setLeaf_bootCore _ .a fun _ => rfl
      _ = (m1.setLeaf .a go).bootCore := setLeaf_bootCore _ .b fun _ => rfl
      _ = m1.bootCore := setLeaf_bootCore _ .a fun _ => rfl
  have engine : m2.engine = m1.engine := by simp only [m2, Mod.loadImage, setLeaf_engine]
  have trained : (train .b (train .a m2)).bootCore = m2.bootCore ∧ (train .b (train .a m2)).engine = m2.engine := by
    simp only [train, setLink_bootCore, setLink_engine, and_self]
  exact ⟨trained.1.trans (released.trans (t.trans i)), trained.2.trans (engine.trans (te.trans ie))⟩
end

/-! ### RESET_N, WARM_RESET and the boot -/

section
variable {m n : Mod}

/-- What a core that is kept says, part by part. -/
theorem bootCore_parts (h : n.bootCore = m.bootCore) : n.fabric.set = m.fabric.set ∧ n.tick = m.tick ∧ n.sup = m.sup ∧
    n.leaves.resetAt = m.leaves.resetAt ∧ n.leaves.resetNow = m.leaves.resetNow ∧
    ∀ i, (n.leaf i).marks = (m.leaf i).marks := by
  simp only [Mod.bootCore, Prod.mk.injEq] at h
  obtain ⟨f, t, s, a, w, la, lb⟩ := h
  exact ⟨f, t, s, a, w, fun i => by cases i; exacts [la, lb]⟩

theorem startLeaves_core (m : Mod) (b : BootIn) : (m.startLeaves b).sup = m.sup ∧ (m.startLeaves b).tick.running = true := by
  unfold Mod.startLeaves
  extract_lets boot m1 m2
  obtain ⟨-, tick, sup, -⟩ := bootCore_parts (bootModule_core ((m1.setLeaf .a boot).setLeaf .b boot) b).1
  exact ⟨sup, congrArg Tick.running tick⟩

/-- The reset asked for, the greater cause prevailing (R172). -/
theorem askReset_resetAt (m : Mod) (cause : Nat) :
    m.askReset cause = { m with leaves := { m.leaves with
      resetAt := some (m.leaves.resetAt.elim cause fun c => max c cause) } } := by
  unfold Mod.askReset
  cases m.leaves.resetAt <;> rfl

/-- WARM_RESET and RECOVERY_ENTER with the confirming word. -/
theorem runReset_waits {r : Req} (confirm cause : Nat) (h : sized r.payload 4 = true) (hc : field r.payload 0 4 = confirm) :
    runReset confirm cause r m = { answer r stOK [] m with deferred := (answer r stOK [] m).deferred ++
      [{ eff := .warmReset cause, reply := none, pkt := none }] } := by
  simp [runReset, h, hc]

theorem runReset_refuses {r : Req} (confirm cause : Nat) (h : sized r.payload 4 = true) (hc : field r.payload 0 4 ≠ confirm) :
    runReset confirm cause r m = refuse r ePARAM (badField 0) m := by
  simp [runReset, h, hc]
end

/-- What a leaf keeps over the end of its commands. -/
theorem warm_parts (m : Mod) : m.warm.sessions = [] ∧ m.warm.leaves.resetAt = none ∧ m.warm.leaves.resetNow = false ∧
    m.warm.engine.run = none ∧ m.warm.fabric.set = m.fabric.set ∧ m.warm.leaves.leaf = m.leaves.leaf ∧
    m.warm.tick.count = m.tick.count := ⟨rfl, rfl, rfl, rfl, rfl, rfl, rfl⟩

/-- What a warm reset leaves (R461, R571). -/
theorem warmReset_leaves (m : Mod) (c : Nat) (b : BootIn) :
    (warmReset c b m).sessions = [] ∧ (warmReset c b m).leaves.resetAt = none ∧ (warmReset c b m).leaves.resetNow = false ∧
      (warmReset c b m).engine.run = none ∧ (warmReset c b m).fabric.set = m.fabric.set ∧
      (∀ i, ((warmReset c b m).leaf i).marks = (.boot, c, (m.leaf i).causeLast)) ∧ (warmReset c b m).tick.count = m.tick.count := by
  have links : (warmReset c b m).sessions.map Session.link = [] := by
    simp [warmReset, warm_sessions, -List.map_eq_nil_iff]
  refine ⟨List.map_eq_nil_iff.mp links, ?_⟩
  unfold warmReset
  extract_lets n m1 _ m2 _ m3 m4 m5 m6 boot m7 m8
  have pumped : m1.bootCore = m.bootCore := (pump_bootCore _ _).trans (pump_bootCore m .a)
  have ended : m2.bootCore = ({ m1 with sessions := [], tick := { m1.tick with count := n - 1 } } : Mod).bootCore :=
    endCommands_bootCore _
  have recorded : m3.bootCore = ({ m2 with tick := { m2.tick with count := n } } : Mod).bootCore := record_bootCore _ 3 0 _
  have locked : m4.bootCore = m3.bootCore := foldl_keeps Mod.bootCore _ (fun m t => relockTarget_bootCore m t 2) _ m3
  obtain ⟨f1, -, -, -, -, l1⟩ := bootCore_parts pumped
  obtain ⟨f2, -, -, -, -, l2⟩ := bootCore_parts ended
  obtain ⟨f3, t3, -, -, -, l3⟩ := bootCore_parts recorded
  obtain ⟨f4, t4, -, -, -, l4⟩ := bootCore_parts locked
  clear_value m4 m3 m2 m1
  obtain ⟨-, at6, now6, run6, f6, l6, t6⟩ := warm_parts m5
  have boots : m8.bootCore = m7.bootCore ∧ m8.engine = m7.engine := by
    dsimp only [m8]
    split
    · exact ⟨rfl, rfl⟩
    · exact bootModule_core m7 b
  obtain ⟨f8, t8, -, at8, now8, l8⟩ := bootCore_parts boots.1
  have last (i : Side) : (m4.leaf i).causeLast = (m.leaf i).causeLast :=
    congrArg (fun k => k.2.1) ((l4 i).trans ((l3 i).trans ((l2 i).trans (l1 i))))
  have counted : m3.tick.count = m.tick.count := by rw [t3]
  have booted (i : Side) : (m7.leaf i).marks = (.boot, c, (m4.leaf i).causeLast) := by cases i <;> rfl
  refine ⟨at8.trans at6, now8.trans now6, (congrArg Engine.run boots.2).trans run6, ?elements, fun i => ?leaf, ?tick⟩
  case elements => exact f8.trans (f6.trans (f4.trans (f3.trans (f2.trans f1))))
  case leaf => exact ((l8 i).trans (booted i)).trans (by rw [last i])
  case tick => exact (congrArg Tick.count t8).trans (t6.trans ((congrArg Tick.count t4).trans counted))

/-- The epoch of a grant is above every one the leaf has seen (R412). -/
theorem lt_nextEpoch (m : Mod) (i : Side) : (m.leaf i).highest < m.nextEpoch i := by
  unfold Mod.nextEpoch
  omega

theorem le_foldl_max {x b : Nat} {l : List Nat} (h : x ∈ b :: l) : x ≤ l.foldl max b := by
  induction l generalizing b x with
  | nil => exact (List.mem_singleton.mp h).le
  | cons y l ih =>
    rcases List.mem_cons.mp h with rfl | h
    · exact (le_max_left x y).trans (ih List.mem_cons_self)
    rcases List.mem_cons.mp h with rfl | h
    · exact (le_max_right b x).trans (ih List.mem_cons_self)
    · exact ih (List.mem_cons_of_mem _ h)

section
variable (s : State)

theorem resetNAssert_asks (ns : Nat) (taken : Bool) (hv : s.cur.sup.vaux = true) (hr : s.cur.sup.resetN = false)
    (hn : 2000 ≤ ns) : ∃ t, execResetNAssert ns taken s = .next { s with cur := t } ∧ t.sup.resetN = true ∧
      (s.cur.tick.running = true → t.leaves.resetAt.isSome = true) := by
  have low : decide (1000 ≤ ns) = true ∧ decide (2000 ≤ ns) = true := ⟨decide_eq_true (by omega), decide_eq_true hn⟩
  refine ⟨_, happens_holds _ _ s (by simp [hv, hr, low]), ?_, fun hrun => ?_⟩
  · dsimp only
    split
    · exact low.2
    · exact low.2
  · rw [if_pos hrun]
    rfl

theorem resetNRelease_boots (aux : Nat) (b : BootIn) (hr : s.cur.sup.resetN = true) :
    ∃ t, execResetNRelease aux b s = .next { s with cur := t } ∧ t.sup.resetN = false ∧
      (s.cur.leaves.resetAt = none → s.cur.sup.rails = true → t.tick.running = true) := by
  refine ⟨_, happens_holds _ _ s hr, ?_⟩
  extract_lets _ m1
  have up : m1.sup.resetN = false := rfl
  have same : m1.leaves.resetAt = s.cur.leaves.resetAt ∧ m1.sup.rails = s.cur.sup.rails := ⟨rfl, rfl⟩
  split
  next asked => exact ⟨up, fun hn ha => by simp [same, hn, ha] at asked⟩
  split
  · obtain ⟨sup, running⟩ := startLeaves_core { m1 with aux := m1.aux + aux } b
    exact ⟨(congrArg Supply.resetN sup).trans up, fun _ _ => running⟩
  next hrun =>
    obtain ⟨-, tick, sup, -⟩ := bootCore_parts (bootModule_core m1 b).1
    exact ⟨(congrArg Supply.resetN sup).trans up, fun _ _ => (congrArg Tick.running tick).trans (by simpa using hrun)⟩

theorem warmResetStart_resets (b : BootIn) {c : Nat} (hc : s.cur.leaves.resetAt = some c) (hrun : s.cur.tick.running = true)
    (hnow : s.cur.leaves.resetNow = true) :
    execWarmResetStart b s =
      .next { s with cur := warmReset c b s.cur, snap := warmReset c b s.cur, mirror := warmReset c b s.cur } := by
  simp [execWarmResetStart, hc, hrun, hnow]

theorem journalRestart_numbers (hrun : s.cur.tick.running = true) (hu : s.cur.recs.jUp = false) :
    ∃ t, execJournalRestart s = .next { s with cur := t } ∧ t.recs.jUp = true ∧ t.recs.jSeq = s.cur.recs.jMark + 65537 := by
  refine ⟨_, happens_holds _ _ s (by simp [hrun, hu]), ?_⟩
  extract_lets ch seq _ _ m1 m2 train
  have next : seq + 1 = s.cur.recs.jMark + 65537 := rfl
  clear_value seq
  exact ⟨rfl, next⟩

theorem bootReadback_reads {i : Side} (hrun : s.cur.tick.running = true) (hs : s.cur.serving i = true)
    (hb : (s.cur.leaf i).state = .boot) (hread : (s.cur.leaf i).bootReads = false) :
    ∃ t, execBootReadback s = .next { s with cur := t } ∧ (t.leaf .a).bootReads = true ∧ (t.leaf .b).bootReads = true ∧
      t.leaves.rebuildDue = false := by
  have due : (s.cur.tick.running && [Side.a, Side.b].any fun i =>
      s.cur.serving i && (s.cur.leaf i).state == .boot && !(s.cur.leaf i).bootReads) = true := by
    cases i <;> simp [hrun, hs, hb, hread]
  exact ⟨_, happens_holds _ _ s due, rfl, rfl, rfl⟩

theorem bootComplete_grants {i : Side} (hb : s.cur.bootReady i = true) (hg : (s.cur.leaf i).granting = false) :
    ∃ t, execBootComplete i s = .next { s with cur := t } ∧
      ((∀ k < 8, s.cur.reaches i k = true → (s.cur.sill k).lease ≠ .valid) → (t.leaf i).granting = true ∧
        ∀ k < 8, s.cur.reaches i k = true → (s.cur.sill k).epoch < (t.leaf i).epoch) ∧
      ((∃ k < 8, s.cur.reaches i k = true ∧ (s.cur.sill k).lease = .valid) → s.cur.leaves.active = some i.other →
        (t.leaf i).stopped = true ∧ (t.leaf i).granting = false) := by
  refine ⟨_, happens_holds _ _ s (by simp [hb, hg]), fun none => ?_, fun ⟨k, hk, hr, hl⟩ ha => ?_⟩
  · have all : ((List.range 8).filter (s.cur.reaches i)).all (fun k => (s.cur.sill k).lease != .valid) = true := by
      simp only [List.all_eq_true, List.mem_filter, List.mem_range]
      exact fun k h => bne_iff_ne.mpr (none k h.1 h.2)
    dsimp only
    rw [if_pos all, Mod.startGrant, leaf_setLeaf_same]
    refine ⟨rfl, fun k hk hr => lt_of_le_of_lt ?_ (lt_nextEpoch _ i)⟩
    rw [leaf_setLeaf_same]
    refine le_foldl_max (List.mem_cons_of_mem _ (List.mem_map_of_mem (List.mem_filter.mpr ⟨List.mem_range.mpr hk, hr⟩)))
  · have some : ¬ ((List.range 8).filter (s.cur.reaches i)).all (fun k => (s.cur.sill k).lease != .valid) = true := by
      simp only [List.all_eq_true, List.mem_filter, List.mem_range]
      exact fun h => by simpa [hl] using h k ⟨hk, hr⟩
    dsimp only
    rw [if_neg some, if_pos ha, leaf_setLeaf_same]
    exact ⟨rfl, hg⟩
end

/-- Settles O27: the commands by their own step, the rows one by one. -/
theorem resetCommandsAndRowsComplete : Obligations.ResetCommandsAndRowsComplete := by
  unfold Obligations.ResetCommandsAndRowsComplete
  refine ⟨⟨fun s p hp => ?commands, fun m cause => askReset_resetAt m cause⟩, fun s ns aux taken b => ?rows⟩
  case commands =>
    intro asked
    exact ⟨fun ha => ⟨fun hc => commandM_runs 0xA3 p _ _ s ha (runReset_waits _ 4 hp hc),
        fun hc => commandM_runs 0xA3 p _ _ s ha (runReset_refuses _ 4 hp hc)⟩,
      fun ha => ⟨fun hc => commandM_runs 0xA6 p _ _ s ha (runReset_waits _ 5 hp hc),
        fun hc => commandM_runs 0xA6 p _ _ s ha (runReset_refuses _ 5 hp hc)⟩⟩
  case rows =>
    refine ⟨resetNAssert_asks s ns taken, resetNRelease_boots s aux b, fun c hc hrun hnow => ?warm, journalRestart_numbers s,
      fun i => bootReadback_reads s, fun i => bootComplete_grants s⟩
    obtain ⟨sessions, at_, now, run, elements, marks, count⟩ := warmReset_leaves s.cur c b
    have leaf (i : Side) := marks i
    simp only [LeafSt.marks, Prod.mk.injEq] at leaf
    exact ⟨_, warmResetStart_resets s b hc hrun hnow, sessions, at_, now, run, elements, (leaf .a).1, (leaf .b).1,
      (leaf .a).2.1, (leaf .a).2.2, count⟩

end Sys2Proof.Machine
end

section
/-! PROOFS. Registers (R170, R171): what a write changes at its boundary, what acceptance of it does, and what a read answers. -/

namespace Sys2Proof.Machine

/-- What a write leaves in a register that reads `old`: under MASK the bits of VALUE, elsewhere those it had. -/
def mixed (value mask old rw : Word) : Word := (old &&& rw &&& ~~~mask) ||| (value &&& mask &&& rw)

/-- A write to a register without W1C bits puts the mixed value in it. -/
theorem regWrite_plain {m t : Mod} {sel : Selects} {acc : Accessor} {a : Nat} {v k used rw : Word} (old : Word)
    (e : masksOf sel a = some (used, rw, 0)) (w : m.regAt m m.worker sel a = some old) (h : k &&& rw ≠ 0)
    (hp : m.putReg sel a (mixed v k old rw) = t) : m.applyEffect (.regWrite acc sel a v k) = t := by
  rw [Mod.applyEffect, Mod.applyWrite, e]
  dsimp only
  rw [if_neg h, if_pos (show v &&& k &&& 0 = 0 from BitVec.and_zero), Mod.written, w]
  exact hp

/-- A field at bit 0. -/
theorem at_zero (n : Nat) : at_ 0 n = BitVec.ofNat 32 n := congrArg (BitVec.ofNat 32) (Nat.mul_one n)

/-- Settles O29: of each register its masks, what it reads, and where it stands. -/
theorem registerWriteLands : Obligations.RegisterWriteLands := by
  unfold Obligations.RegisterWriteLands
  intro m sel acc v k mix lands
  have all (h : k ≠ 0) : k &&& 0xFFFFFFFF ≠ 0 := by
    rwa [show (0xFFFFFFFF : Word) = BitVec.allOnes 32 from rfl, BitVec.and_allOnes]
  have budget : m.regAt m m.worker sel 0x40008 = some (BitVec.ofNat 32 m.fabric.budget) := congrArg some (at_zero m.fabric.budget)
  have power : m.regAt m m.worker sel 0x90010 = some (BitVec.ofNat 32 m.power.cfg) := congrArg some (at_zero m.power.cfg)
  have spare : m.regAt m m.worker sel 0x80004 = some (BitVec.ofNat 32 m.osc.spareAt) := congrArg some (at_zero m.osc.spareAt)
  exact ⟨fun h => regWrite_plain m.time.cfg rfl rfl h rfl,
    fun h => regWrite_plain (m.fabric.reserve.zeroExtend 32) rfl rfl h rfl,
    fun h => regWrite_plain (BitVec.ofNat 32 m.fabric.budget) rfl budget h rfl,
    fun h => regWrite_plain m.mortar.guardCfg rfl rfl h rfl,
    fun h => regWrite_plain m.osc.fabricId rfl rfl (all h) rfl,
    fun h => regWrite_plain (BitVec.ofNat 32 m.power.cfg) rfl power h rfl,
    fun h => regWrite_plain m.leaves.cfg rfl rfl h rfl,
    fun h => regWrite_plain m.keyhole.cfg rfl rfl h rfl,
    fun h => regWrite_plain (BitVec.ofNat 32 m.osc.spareAt) rfl spare h rfl⟩

/-! ### REG_WRITE and the rows of single registers -/

/-- Every row of a single register is its REG_WRITE. -/
theorem exec_regWrite {c : Instr} {p : Packet} (s : State) (h : packetOf c = some (0xA1, p)) :
    exec c s = commandM 0xA1 p runRegWrite s := by
  cases c
  case regWrite | fabricCfg | memsBudget | brickSelect | loopSelect | paramSelect | paramData | paramApply | expSelect | expData |
      mortarCfg | guardCfg | calCfg | laserCfg | laserSelect | shutterForce | timeCfg | fabricId | powerCfg | idleTicks |
      leafCfg | secCfg | keyholeCfg | keyholeIndex | keyholeAddr | keyholeTrigger | channelSelect =>
    obtain ⟨-, rfl⟩ := Prod.mk.inj (Option.some.inj h)
    rfl
  all_goals simp [packetOf] at h

section
variable (m : Mod) (i : Side) (sid : Word)

/-- Setting a session to what it is changes nothing. -/
theorem setSession_same {f : Session → Session} (h : ∀ t, f t = t) : m.setSession i sid f = m := by
  have id : (m.sessions.map fun t => if t.link = i ∧ t.id = sid then f t else t) = m.sessions := by
    simp [h]
  rw [Mod.setSession, id]

theorem setSession_setSession {f g : Session → Session} (h : ∀ t, (f t).link = t.link ∧ (f t).id = t.id) :
    (m.setSession i sid f).setSession i sid g = m.setSession i sid fun t => g (f t) := by
  have both : ((m.sessions.map fun t => if t.link = i ∧ t.id = sid then f t else t).map fun t =>
      if t.link = i ∧ t.id = sid then g t else t) = m.sessions.map fun t => if t.link = i ∧ t.id = sid then g (f t) else t := by
    rw [List.map_map]
    refine List.map_congr_left fun t _ => ?_
    by_cases c : t.link = i ∧ t.id = sid <;> simp [c, h]
  simp only [Mod.setSession, both]
end

section
variable (m : Mod) (i : Side) (sid : Word) (a : Nat) (v k : Word) (w : Option Waiter)

/-- A register that is no select waits for the boundary with the selects the session has now. -/
theorem acceptWrite_later (acc : Accessor) (hs : isSelect a = false) (hf : a ≠ 0x80014) :
    m.acceptWrite acc a v k w =
      { m with deferred := m.deferred ++ [{ eff := .regWrite acc (m.selOf acc) a v k, reply := w, pkt := none }] } := by
  unfold Mod.acceptWrite
  dsimp only
  rw [hs, if_neg Bool.false_ne_true, if_neg hf]

/-- FABRIC_ID is in the Cornerstone first. -/
theorem acceptWrite_fabricId (acc : Accessor) :
    m.acceptWrite acc 0x80014 v k w =
      { m with
        recs := { m.recs with csFabric := m.withWrites.written (m.selOf acc) 0x80014 0xFFFFFFFF v k }
        deferred := m.deferred ++ [{ eff := .regWrite acc (m.selOf acc) 0x80014 v k, reply := w, pkt := none }] } := rfl

/-- A select takes its value at once. -/
theorem acceptWrite_select (hs : isSelect a = true) (hl : a ≠ 0x50010) {x : Word × Word × Word}
    (hx : masksOf (m.selOf (.session i sid)) a = some x) :
    m.acceptWrite (.session i sid) a v k w =
      { m.setSession i sid fun t =>
          { t with sel := if k &&& x.2.1 = 0 then t.sel
              else t.sel.put a (m.withWrites.written (m.selOf (.session i sid)) a x.2.1 v k) } with
        deferred := m.deferred ++ [{ eff := .nothing, reply := w, pkt := none }] } := by
  unfold Mod.acceptWrite
  dsimp only
  rw [hx, hs, if_pos rfl, if_neg hl]
  by_cases hz : k &&& x.2.1 = 0
  · simp only [hz, if_true]
    rw [setSession_same m i sid fun _ => rfl]
  · simp only [hz, if_false]
    rfl

/-- LOOP_SELECT forgets the words latched of the loop group too. -/
theorem acceptWrite_loopSelect :
    m.acceptWrite (.session i sid) 0x50010 v k w =
      { m.setSession i sid fun t =>
          { t with
            sel := if k &&& 0x3FFF = 0 then t.sel else
              { t.sel with loop := (m.withWrites.written (m.selOf (.session i sid)) 0x50010 0x3FFF v k).toNat }
            latch := { words := t.latch.words.filter fun q => !(laterWords 0x50014).contains q.1 } } with
        deferred := m.deferred ++ [{ eff := .nothing, reply := w, pkt := none }] } := by
  have masks : masksOf (m.selOf (.session i sid)) 0x50010 = some (0x3FFF, 0x3FFF, 0) := rfl
  unfold Mod.acceptWrite
  dsimp only
  rw [masks, show isSelect 0x50010 = true from rfl, if_pos rfl, if_pos rfl]
  by_cases hz : k &&& 0x3FFF = 0
  · simp only [hz, if_true]
    rfl
  · simp only [hz, if_false, Mod.setSel, Mod.setLatch]
    rw [setSession_setSession]
    · rfl
    · exact fun _ => ⟨rfl, rfl⟩
end

/-- A write that its register takes is journaled and accepted. -/
theorem runRegWrite_accepts {r : Req} {m : Mod} (h : sized r.payload 12 = true)
    (hg : m.writeBad (m.selOf (.session r.w.link r.w.session)) (field r.payload 0 4) (wordAt r.payload 4) (wordAt r.payload 8) =
      none) :
    runRegWrite r m = (m.journalReq r stOK).acceptWrite (.session r.w.link r.w.session) (field r.payload 0 4)
      (wordAt r.payload 4) (wordAt r.payload 8) (some r.w) := by
  simp [runRegWrite, h, hg]

/-- Settles O28: an admitted write is accepted, and `acceptWrite` tells the four kinds of register apart. -/
theorem registerWritesComplete : Obligations.RegisterWritesComplete := by
  unfold Obligations.RegisterWritesComplete
  intro c p s hp a value mask acc m0 sel ha hsz hgood
  have accepts (g : Req → Mod → Mod) (he : (m0.journalReq (packetReq p (opRow 0xA1)) stOK).acceptWrite acc a value mask
      (some (packetReq p (opRow 0xA1)).w) = g (packetReq p (opRow 0xA1)) m0) : exec c s = .next (s.ran 0xA1 p g) := by
    rw [exec_regWrite s hp]
    exact commandM_runs 0xA1 p _ _ s ha ((runRegWrite_accepts hsz hgood).trans he)
  obtain ⟨x, hj⟩ := journalReq_changes m0 (packetReq p (opRow 0xA1)) stOK
  have sels : (m0.journalReq (packetReq p (opRow 0xA1)) stOK).selOf acc = sel := by rw [hj]; rfl
  have waits : (m0.journalReq (packetReq p (opRow 0xA1)) stOK).deferred = m0.deferred := by rw [hj]
  refine ⟨fun hs hf => accepts _ ?later, fun hf => accepts _ ?fabricId, fun x hs hl hx => accepts _ ?select,
    fun hl => accepts _ ?loopSelect⟩
  case later =>
    rw [acceptWrite_later _ _ _ _ _ _ hs hf, sels, waits]
  case fabricId =>
    rw [hf, acceptWrite_fabricId, sels, waits]
  case select =>
    rw [acceptWrite_select _ _ _ _ _ _ _ hs hl (sels ▸ hx), sels, waits]
    rfl
  case loopSelect =>
    rw [hl, acceptWrite_loopSelect, sels, waits]
    rfl

/-! ### REG_READ -/

/-- The registers that a REG_READ names. -/
def Req.regs (r : Req) : List Nat := (List.range (field r.payload 4 2)).map fun k => field r.payload 0 4 + 4 * k

section
variable {r : Req} {s : State} (h : sized r.payload 6 = true) (ha : field r.payload 0 4 % 4 = 0)
  (h1 : 1 ≤ field r.payload 4 2) (h2 : field r.payload 4 2 ≤ 256)
include h ha h1 h2

/-- Past the checks of its fields, a REG_READ reads its registers, unless one of them is none. -/
theorem runRegRead_checked :
    runRegRead r s =
      match r.regs.find? fun b => (s.regValue r.w.link (s.cur.selOf (.session r.w.link r.w.session)) b).isNone with
      | some b => onCur (refuse r ePARAM (detail 4 noField b)) s
      | none =>
        onCur (answer r stOK ((s.readRegs (.session r.w.link r.w.session) r.w.link r.regs).1.flatMap fun w => le 4 w.toNat))
          (s.readRegs (.session r.w.link r.w.session) r.w.link r.regs).2 := by
  have count : ¬ (field r.payload 4 2 < 1 ∨ 256 < field r.payload 4 2) := by omega
  unfold runRegRead
  dsimp only
  rw [if_neg (by simp [h]), if_neg (not_not.mpr ha), if_neg count]
  rfl
end

/-- Settles O30: the first register that is none, or else all of them. -/
theorem registerReadsComplete : Obligations.RegisterReadsComplete := by
  unfold Obligations.RegisterReadsComplete
  intro s p ha hp a n acc s0 regs missing h4 h1 h2
  have run : exec (.regRead p) s = .next (runRegRead (packetReq p (opRow 0xA0)) s0) :=
    congrArg Host.Outcome.next (accept_admitted (opRow 0xA0) p runRegRead s ha)
  have reads := runRegRead_checked (r := packetReq p (opRow 0xA0)) (s := s0) hp h4 h1 h2
  refine ⟨fun hm => ?all, fun b hm => ?missing⟩
  case all =>
    rw [run, reads]
    split
    next b e => cases hm.symm.trans e
    · rfl
  case missing =>
    rw [run, reads]
    split
    next c e =>
      obtain rfl : b = c := Option.some.inj (hm.symm.trans e)
      rfl
    next e => cases hm.symm.trans e

end Sys2Proof.Machine
end

section
/-! PROOFS. The Zudin links (R138 – R140, R149, R151, R160, R163, R164): what a frame does to its link, and the rows. -/

namespace Sys2Proof.Machine

/-! ### What a frame does to its link (R138 – R140) -/

section
variable (l : LinkSt) (now : Nat)

/-- `n` is the link `l` gone DOWN once more: its credit, what was not acknowledged and what was partly received are gone. -/
def LinkSt.WentDown (l n : LinkSt) : Prop :=
  n.state = 1 ∧ n.downs = l.downs + 1 ∧ n.unacked = [] ∧ n.partialRx = [] ∧ n.pktCredit = 0 ∧ n.byteCredit = 0

theorem goDown_wentDown : l.WentDown (l.goDown now) := ⟨rfl, rfl, rfl, rfl, rfl, rfl⟩

theorem retrain_wentDown : l.WentDown (l.retrain now) := ⟨rfl, rfl, rfl, rfl, rfl, rfl⟩

/-- What is acknowledged changes what is not acknowledged and the replays counted for its first frame. -/
theorem takeAck_changes (ack : BitVec 12) : ∃ u k, l.takeAck ack = { l with unacked := u, failReplay := k } := by
  unfold LinkSt.takeAck
  split
  · exact ⟨_, _, rfl⟩
  · exact ⟨l.unacked, l.failReplay, rfl⟩

theorem takeAck_unknown {ack : BitVec 12} (h : ∀ x ∈ l.unacked, x.seq ≠ ack) : l.takeAck ack = l := by
  have none : l.unacked.findIdx? (fun f => f.seq == ack) = .none :=
    List.findIdx?_eq_none_iff.mpr fun x hx => beq_eq_false_iff_ne.mpr (h x hx)
  rw [LinkSt.takeAck, none]

variable {l now} {f : LinkFrame}

theorem frame_bad (h : f.fcrcOk = false) :
    l.frame now f = { l with nakDue := true, wire := l.wire ++ [frameBytes 2 4 0 l.rxAck.toNat 0 0 []] } := by
  rw [LinkSt.frame, h]
  rfl

variable (l now f) in
/-- The link with what a valid frame acknowledges and the credit it returns. -/
def LinkSt.heard (l : LinkSt) (f : LinkFrame) : LinkSt :=
  ({ l with idleTicks := 0 }.takeAck f.ack).takeCredit f.pktCredit f.byteCredit

/-- A valid frame acknowledges and returns credit, then its type and its NAK decide. -/
theorem frame_valid (h : f.fcrcOk = true) (ht : f.ftype < 4) :
    l.frame now f =
      if f.ftype = 3 then (l.heard f).goDown now
      else
        let n := if f.nak then (l.heard f).replay now else l.heard f
        if n.state = 2 ∧ f.ftype = 1 then n.takeData now f else n := by
  rw [LinkSt.frame, h, if_neg (by simp), if_neg (Nat.not_le.mpr ht)]
  rfl

theorem heard_changes : ∃ u k, l.heard f = { l with
    idleTicks := 0, unacked := u, failReplay := k, pktCredit := min 64 (l.pktCredit + f.pktCredit)
    byteCredit := min 262144 (l.byteCredit + 8 * f.byteCredit) } := by
  obtain ⟨u, k, e⟩ := takeAck_changes { l with idleTicks := 0 } f.ack
  exact ⟨u, k, by rw [LinkSt.heard, e]; rfl⟩

/-- A packet in one data frame that is next in order is received and acknowledged. -/
theorem frame_data (hu : l.state = 2) (h : f.fcrcOk = true) (ht : f.ftype = 1) (hn : f.nak = false) (hs : f.sop = true)
    (he : f.eop = true) (hq : f.seq = l.rxAck + 1) :
    (l.frame now f).rxAck = f.seq ∧ (l.frame now f).received = l.received ++ [wholePacket f.data] ∧
      (l.frame now f).wire = l.wire ++ [frameBytes 2 0 0 f.seq.toNat 0 0 []] := by
  obtain ⟨u, k, e⟩ := heard_changes (l := l) (f := f)
  have up : (l.heard f).state = 2 := by rw [e]; exact hu
  have next : f.seq = (l.heard f).rxAck + 1 := by rw [e]; exact hq
  have data : l.frame now f = (l.heard f).takeData now f := by
    rw [frame_valid h (by omega), if_neg (by omega), hn]
    exact if_pos ⟨up, ht⟩
  rw [data, LinkSt.takeData, if_pos next, hs, he, e]
  exact ⟨rfl, rfl, rfl⟩

/-- A frame that acknowledges none of those waiting leaves them. -/
theorem heard_unknown (ha : ∀ x ∈ l.unacked, x.seq ≠ f.ack) : l.heard f = { l with
    idleTicks := 0, pktCredit := min 64 (l.pktCredit + f.pktCredit)
    byteCredit := min 262144 (l.byteCredit + 8 * f.byteCredit) } := by
  rw [LinkSt.heard, takeAck_unknown { l with idleTicks := 0 } ha]
  rfl

/-- A NAK that acknowledges none of them has them all sent again, or finds that the first has failed too often. -/
theorem frame_nak (h : f.fcrcOk = true) (ht : f.ftype = 2) (hn : f.nak = true) : l.frame now f = (l.heard f).replay now := by
  rw [frame_valid h (by omega), if_neg (by omega), hn]
  exact if_neg (by omega)

theorem frame_nak_ninth (h : f.fcrcOk = true) (ht : f.ftype = 2) (hn : f.nak = true) (hu : l.unacked ≠ [])
    (ha : ∀ x ∈ l.unacked, x.seq ≠ f.ack) (h8 : 8 ≤ l.failReplay) : l.WentDown (l.frame now f) := by
  rw [frame_nak h ht hn, heard_unknown ha, LinkSt.replay]
  dsimp only
  rw [if_neg (mt List.length_eq_zero_iff.mp hu), if_pos h8]
  exact retrain_wentDown _ now

theorem frame_nak_again (hl : l.state = 2) (h : f.fcrcOk = true) (ht : f.ftype = 2) (hn : f.nak = true) (hu : l.unacked ≠ [])
    (ha : ∀ x ∈ l.unacked, x.seq ≠ f.ack) (h8 : l.failReplay < 8) :
    (l.frame now f).state = 2 ∧ (l.frame now f).replays = l.replays + l.unacked.length ∧
      (l.frame now f).wire = l.wire ++ l.unacked.map fun x => x.bytes l.rxAck := by
  rw [frame_nak h ht hn, heard_unknown ha, LinkSt.replay]
  dsimp only
  rw [if_neg (mt List.length_eq_zero_iff.mp hu), if_neg (Nat.not_le.mpr h8)]
  exact ⟨hl, rfl, rfl⟩

/-- A retrain request takes the link DOWN. -/
theorem frame_retrain (h : f.fcrcOk = true) (ht : f.ftype = 3) : l.WentDown (l.frame now f) := by
  obtain ⟨u, k, e⟩ := heard_changes (l := l) (f := f)
  rw [frame_valid h (by omega), if_pos ht, e]
  exact goDown_wentDown _ now

/-- An idle frame returns credit, up to what the module grants. -/
theorem frame_idle (hl : l.state = 2) (h : f.fcrcOk = true) (ht : f.ftype = 0) (hn : f.nak = false) :
    (l.frame now f).state = 2 ∧ (l.frame now f).idleTicks = 0 ∧
      (l.frame now f).pktCredit = min 64 (l.pktCredit + f.pktCredit) ∧
      (l.frame now f).byteCredit = min 262144 (l.byteCredit + 8 * f.byteCredit) := by
  obtain ⟨u, k, e⟩ := heard_changes (l := l) (f := f)
  have heard : l.frame now f = l.heard f := by
    rw [frame_valid h (by omega), if_neg (by omega), hn]
    exact if_neg (by omega)
  rw [heard, e]
  exact ⟨hl, rfl, rfl, rfl⟩
end

/-! ### The rows -/

section
variable {s : State} {i : Side}

/-- LINK_FRAME_RX on a link that is UP: its link takes the frame, and the replays it made are counted. -/
theorem linkFrameRx_runs (f : LinkFrame) (hu : s.cur.linkUp i = true) :
    ∃ t, exec (.linkFrameRx i f) s = .next { s with cur := t } ∧ t.link i = (s.cur.link i).frame s.cur.tick.now f ∧
      t.link i.other = s.cur.link i.other ∧
      t.leaves = { s.cur.leaves with
        retries := s.cur.leaves.retries + (((s.cur.link i).frame s.cur.tick.now f).replays - (s.cur.link i).replays) } :=
  ⟨_, happens_holds (fun m => m.linkUp i) _ s hu, link_setLink_same s.cur i _, link_setLink_other s.cur i _, rfl⟩

/-- Command credit that goes back is a control frame on the wire. -/
theorem giveBack_changes (l : LinkSt) : ∃ w a b, l.giveBack = { l with wire := w, owedPkts := a, owedBytes := b } := by
  unfold LinkSt.giveBack
  split
  · exact ⟨l.wire, l.owedPkts, l.owedBytes, rfl⟩
  · exact ⟨_, _, _, rfl⟩

/-- The link of a packet that leaves has sent it, stamped. -/
theorem link_sendNow (m : Mod) (i : Side) (p : OutPkt) :
    (m.sendNow i p).link i = (m.link i).send m.tick.now (m.stamp i p) := by
  rw [Mod.sendNow]
  split <;> exact link_setLink_same m i _

/-- What waits first leaves once it can, and the command credit withheld may go back. -/
theorem sendWaiting_link (m : Mod) {p : OutPkt} {rest : List OutPkt} (hw : (m.link i).waiting = p :: rest) :
    ((m.sendWaiting i).link i).waiting = rest ∧ ((m.sendWaiting i).link i).pktCredit = (m.link i).pktCredit - 1 ∧
      ((m.sendWaiting i).link i).byteCredit = (m.link i).byteCredit - (m.stamp i p).payload.length ∧
      ((m.sendWaiting i).link i).sent = (m.link i).sent ++ [m.stamp i p] := by
  have sent : ((m.setLink i fun l => { l with waiting := rest }).sendNow i p).link i =
      ({ m.link i with waiting := rest } : LinkSt).send m.tick.now (m.stamp i p) := by
    rw [link_sendNow, link_setLink_same]
    rfl
  rw [Mod.sendWaiting, hw]
  dsimp only
  rw [link_setLink_same, sent]
  split
  · obtain ⟨w, a, b, e⟩ := giveBack_changes (({ m.link i with waiting := rest } : LinkSt).send m.tick.now (m.stamp i p))
    rw [e]
    exact ⟨rfl, rfl, rfl, rfl⟩
  · exact ⟨rfl, rfl, rfl, rfl⟩

/-- A session that is closed is no longer open, and every other stays. -/
theorem closeSession_closes (m : Mod) (i : Side) (sid : Word) :
    (m.closeSessions fun t => t.link == i && t.id == sid).isOpen i sid = false ∧
      ∀ x ∈ m.sessions, x.link ≠ i ∨ x.id ≠ sid → x ∈ (m.closeSessions fun t => t.link == i && t.id == sid).sessions := by
  refine ⟨?_, fun x hx hne => List.mem_filter.mpr ⟨hx, ?_⟩⟩
  · refine List.any_eq_false.mpr fun x hx => ?_
    have open_ := (List.mem_filter.mp hx).2
    rwa [Bool.not_eq_true', ← Bool.not_eq_true] at open_
  · rcases hne with h | h
    · simp [h]
    · simp [show (x.id == sid) = false from beq_eq_false_iff_ne.mpr h]

theorem sessionLinkTimeout_closes {sid : Word} {b : Nat} (ho : s.cur.isOpen i sid = true) (hl : (s.cur.link i).state ≠ 2)
    (hd : (s.cur.link i).downTick = some b) (hb : b + 100000 ≤ s.cur.tick.now) :
    ∃ t, exec (.sessionLinkTimeout i sid) s = .next { s with cur := t } ∧ t.isOpen i sid = false ∧ t.held = s.cur.held ∧
      ∀ x ∈ s.cur.sessions, x.link ≠ i ∨ x.id ≠ sid → x ∈ t.sessions := by
  obtain ⟨closed, others⟩ := closeSession_closes s.cur i sid
  dsimp only [exec, execSessionLinkTimeout]
  exact ⟨_, happens_holds _ _ s (by simp [ho, hl, hd, hb]), closed, rfl, others⟩

theorem authBackoffEnd_ends {b : Nat} (hb : (s.cur.link i).backoff = some b) (hn : b ≤ s.cur.tick.now) :
    exec (.authBackoffEnd i) s = .next { s with cur := s.cur.setLink i fun l => { l with backoff := none } } := by
  dsimp only [exec, execAuthBackoffEnd]
  exact happens_holds _ _ s (by simp [hb, hn])

theorem resultExpiry_drops {sid : Word} {tag : BitVec 16} (hh : ∃ h ∈ s.cur.held, h.link = i ∧ h.session = sid ∧ h.tag = tag ∧
      h.final.isSome = true ∧ h.ready + 1000000 ≤ s.cur.tick.now) :
    ∃ t, exec (.resultExpiry i sid tag) s = .next { s with cur := t } ∧
      ∀ h, h ∈ t.held ↔ h ∈ s.cur.held ∧ ¬ (h.link = i ∧ h.session = sid ∧ h.tag = tag) := by
  obtain ⟨h, hm, hl, hs, ht, hf, hr⟩ := hh
  dsimp only [exec, execResultExpiry]
  refine ⟨_, happens_holds _ _ s (List.any_eq_true.mpr ⟨h, hm, by simp [hl, hs, ht, hf, hr]⟩), fun g => ?_⟩
  rw [Mod.forget, List.mem_filter]
  simp only [Bool.not_eq_true', ← Bool.not_eq_true, Bool.and_eq_true, beq_iff_eq, and_assoc]
end

/-- Settles O42: each kind of frame by its effect on its link, the other rows as events of one condition. -/
theorem linkRowsComplete : Obligations.LinkRowsComplete := by
  unfold Obligations.LinkRowsComplete
  intro s i f sid tag m l down
  have up (hu : m.linkUp i = true) : l.state = 2 := by
    simp only [Mod.linkUp, Bool.and_eq_true, decide_eq_true_eq] at hu
    exact hu.2
  have fell {t : Mod} (h : l.WentDown (t.link i)) (ho : t.link i.other = m.link i.other) : down t := by
    obtain ⟨state, downs, unacked, part, pkts, bytes⟩ := h
    exact ⟨state, downs, unacked, part, pkts, bytes, ho⟩
  refine ⟨fun hu => ⟨fun h => ?bad, fun h ht hn hs he hq => ?data, fun h ht hn hl ha => ?nak, fun h ht => ?request,
    fun h ht hn => ?idle, fun hi => ?silent⟩, fun hs hl => ?retrained, fun b ho hl hd hb => ?session, fun b hb hn => ?backoff,
    fun p rest hs hq hw hc => ?credit, fun hh => ?result⟩
  case bad =>
    obtain ⟨t, e, link, other, leaves⟩ := linkFrameRx_runs f hu
    rw [frame_bad h] at link leaves
    refine ⟨t, e, link, other, leaves.trans ?_⟩
    rw [Nat.sub_self]
    rfl
  case data =>
    obtain ⟨t, e, link, other, -⟩ := linkFrameRx_runs f hu
    obtain ⟨ack, received, wire⟩ := frame_data (now := m.tick.now) (up hu) h ht hn hs he hq
    exact ⟨t, e, link ▸ ack, link ▸ received, link ▸ wire, other⟩
  case nak =>
    obtain ⟨t, e, link, other, -⟩ := linkFrameRx_runs f hu
    refine ⟨t, e, fun h8 => fell (link ▸ frame_nak_ninth h ht hn hl ha h8) other, fun h8 => ?_⟩
    rw [link]
    exact frame_nak_again (up hu) h ht hn hl ha h8
  case request =>
    obtain ⟨t, e, link, other, -⟩ := linkFrameRx_runs f hu
    exact ⟨t, e, fell (link ▸ frame_retrain h ht) other⟩
  case idle =>
    obtain ⟨t, e, link, -, -⟩ := linkFrameRx_runs f hu
    refine ⟨t, e, ?_⟩
    rw [link]
    exact frame_idle (up hu) h ht hn
  case silent =>
    refine ⟨_, happens_holds (fun m => m.linkUp i && decide (10 ≤ (m.link i).idleTicks)) _ s ?_, fell ?_ (link_setLink_other m i _)⟩
    · exact Bool.and_eq_true_iff.mpr ⟨hu, decide_eq_true hi⟩
    · rw [link_setLink_same]
      exact retrain_wentDown l _
  case retrained =>
    refine ⟨_, happens_holds (fun m => m.serving i && decide ((m.link i).state = 1)) _ s ?_, ?_⟩
    · exact Bool.and_eq_true_iff.mpr ⟨hs, decide_eq_true hl⟩
    · rw [link_setLink_same]
      exact ⟨rfl, rfl, rfl, rfl, rfl, link_setLink_other m i _⟩
  case session => exact sessionLinkTimeout_closes ho hl hd hb
  case backoff => exact authBackoffEnd_ends hb hn
  case credit =>
    refine ⟨_, happens_holds (fun m => m.creditWaits i) _ s ?_, sendWaiting_link m hw⟩
    simp only [Mod.creditWaits, show s.cur.serving i = true from hs, show s.cur.settling = false from hq,
      show (s.cur.link i).waiting = p :: rest from hw]
    exact hc
  case result => exact resultExpiry_drops hh

end Sys2Proof.Machine
end

section
/-! PROOFS. TRACE_ARM, KEYHOLE_CLEAR, ATTEST and the firmware commands (R217, R505, R483, R488 – R492): the equation of each command past
its own checks, and what a KEYHOLE_CLEAR leaves at its boundary. -/

namespace Sys2Proof.Machine

section
variable {r : Req} {m : Mod}

/-! ### Traces and the Keyhole -/

/-- The trace that a TRACE_ARM payload arms. -/
def armedTrace (pl : List Byte) : Trace :=
  { state := .armed, interrupted := false, nodes := traceNodes pl (field pl 0 1), trigKind := field pl 1 1
    trigNode := field pl 2 1, decim := field pl 3 1, pre := field pl 4 2, level := fieldS pl 8 4
    flagMask := wordAt pl 12, samples := [], after := 0, trigTick := 0, prev := none, flags := none }

/-- Node `j` of a TRACE_ARM payload names a value of a fitted loop. -/
def Variant.nodeOk (v : Variant) (pl : List Byte) (j : Nat) : Prop :=
  field pl (20 + 8 * j) 1 ≤ 7 ∧ zeros pl (21 + 8 * j) 3 = true ∧
    (loopClass (field pl (16 + 8 * j) 4)).isSome = true ∧ v.loop (field pl (16 + 8 * j) 4) = true

theorem runTraceArm_arms (hl : 16 ≤ r.payload.length) (h1 : 1 ≤ field r.payload 0 1) (h64 : field r.payload 0 1 ≤ 64)
    (hs : sized r.payload (16 + 8 * field r.payload 0 1) = true) (hk : field r.payload 1 1 ≤ 5)
    (ht : field r.payload 2 1 < field r.payload 0 1) (hd : field r.payload 3 1 ≤ 10) (hp : field r.payload 4 2 ≤ 4095)
    (hz : zeros r.payload 6 2 = true) (hm : field r.payload 12 4 < 32)
    (hn : ∀ j < field r.payload 0 1, m.variant.nodeOk r.payload j) :
    runTraceArm r m = answer r stOK []
      { m with trowel := { m.trowel with trace := m.trowel.trace.set r.w.link (armedTrace r.payload) } } := by
  have count : ¬ (field r.payload 0 1 < 1 ∨ 64 < field r.payload 0 1) := by omega
  have named : ((List.range (field r.payload 0 1)).find? fun j => decide (7 < field r.payload (20 + 8 * j) 1) ||
      !zeros r.payload (21 + 8 * j) 3 || (loopClass (field r.payload (16 + 8 * j) 4)).isNone) = none :=
    List.find?_range_eq_none.mpr fun j hj => by
      obtain ⟨value, reserved, cls, -⟩ := hn j hj
      simp [Nat.not_lt.mpr value, reserved, cls]
  have fitted : ((List.range (field r.payload 0 1)).find? fun j => !m.variant.loop (field r.payload (16 + 8 * j) 4)) = none :=
    List.find?_range_eq_none.mpr fun j hj => by
      obtain ⟨-, -, -, loop⟩ := hn j hj
      simp [loop]
  simp only [runTraceArm, if_neg (Nat.not_lt.mpr hl), if_neg count, hs, if_neg (Nat.not_lt.mpr hk),
    if_neg (Nat.not_le.mpr ht), if_neg (Nat.not_lt.mpr hd), if_neg (Nat.not_lt.mpr hp), hz, if_neg (Nat.not_le.mpr hm),
    named, fitted, Bool.not_true, Bool.false_eq_true, if_false]
  rfl

theorem runKeyholeClear_later (h : r.payload = []) :
    runKeyholeClear r m = later r (.keyholeClear r.w.link r.w.session) m := if_neg (not_not.mpr h)

/-- KEYHOLE_CLEAR at its boundary empties the ring and MISSED, and queues its record; nothing else changes. -/
theorem applyClear_clears (m : Mod) (i : Side) (sid : Word) :
    m.applyClear i sid = { m with
      keyhole := { m.keyhole with ring := [], missed := 0 }
      recs := (m.record 0x82 (i.num + 1)
        (le 4 (m.keyOf i sid) ++ le 4 sid.toNat ++ le 1 i.num ++ le 3 0 ++ le 2 m.keyhole.ring.length)).recs } := by
  unfold Mod.applyClear
  dsimp only
  obtain ⟨x, e⟩ := record_changes m 0x82 (i.num + 1)
    (le 4 (m.keyOf i sid) ++ le 4 sid.toNat ++ le 1 i.num ++ le 3 0 ++ le 2 m.keyhole.ring.length)
  rw [e]

/-! ### Attestation -/

theorem runAttest_answers (h : sized r.payload 32 = true) (hk : m.sec.keysLeft ≠ 0) :
    runAttest r m =
      answer r stOK (attestReport m r.w.link (slice r.payload 0 32)) { m with sec := m.sec.useKey } := by
  simp [runAttest, h, hk]

/-! ### Firmware -/

theorem runFwStageBegin_opens {hdr : List Byte} (hh : hdr = slice r.payload 8 8112) (h : sized r.payload 8120 = true)
    (hl : field r.payload 0 4 = 8128 + field hdr 12 4) (hv : field r.payload 4 4 = field hdr 8 4)
    (hm : slice hdr 0 4 = [0x4B, 0x57, 0x46, 0x57]) (h1 : field hdr 4 2 = 1) (h2 : field hdr 6 2 = 256)
    (hc : field r.payload 0 4 ≤ 67108864) (hb : m.sec.buffers.length < 2) (ho : m.ownedByOther r.w = none)
    (hn : m.bufferOf r.w = none) :
    runFwStageBegin r m = answer r stOK [] { m with sec := { m.sec with buffers := m.sec.buffers ++
      [{ link := r.w.link, session := r.w.session, header := hdr, len := field r.payload 0 4, got := 0, data := [] }] } } := by
  subst hh
  have room : ¬ (67108864 < field r.payload 0 4 ∨ 2 ≤ m.sec.buffers.length) := by omega
  simp only [runFwStageBegin, h, if_neg (not_not.mpr hl), if_neg (not_not.mpr hv), if_neg (not_not.mpr hm),
    if_neg (not_not.mpr h1), if_neg (not_not.mpr h2), if_neg room, ho, hn, Option.isSome_none, Bool.not_true,
    Bool.false_eq_true, if_false]

theorem runFwStageData_takes {b : Buffer} (h : 8 ≤ r.payload.length) (hz : zeros r.payload 4 4 = true)
    (hb : m.bufferOf r.w = some b) (hg : field r.payload 0 4 = b.got)
    (hp : ((r.payload.drop 8).drop (b.len - 8112 - b.got)).all (· == 0) = true) :
    runFwStageData r m = answer r stOK []
      (let n := min (r.payload.drop 8).length (b.len - 8112 - b.got)
      { m with sec := { m.sec with buffers := m.sec.buffers.map fun x =>
        if x = b then { x with got := x.got + n, data := x.data ++ (r.payload.drop 8).take n } else x } }) := by
  simp only [runFwStageData, if_neg (Nat.not_lt.mpr h), hz, hb, if_neg (not_not.mpr hg), hp, Bool.not_true,
    Bool.false_eq_true, if_false]

/-- With no image being written, no END gives way to another (R490). -/
theorem yieldSlot_of_idle {w : Waiter} (h : m.sec.writing = none) : m.yieldSlot w = m := by
  unfold Mod.yieldSlot
  rw [h]
  split
  next e => cases e
  next => rfl

theorem runFwStageEnd_writes {b : Buffer} {proof : Option Proven} (h : r.payload = []) (hb : m.bufferOf r.w = some b)
    (hl : b.got + 8112 = b.len) (hs : steppingListed b.header = true) (hc : m.sec.counter.toNat ≤ field b.header 8 4)
    (hk : isKwefold (field b.header 32 4) = true)
    (hp : m.signed proof (field b.header 32 4) (slice b.header 0 256) (slice b.header 256 7856) = true)
    (ho : m.ownedByOther r.w = none) (hw : m.sec.writing = none) :
    runFwStageEnd proof r m =
      (let m := pend r (m.dropBuffer r.w)
      { m with sec := { m.sec with
          owner := some (r.w.link, r.w.session), writing := some (b, r.w), staged := { Slot.empty with sstate := 5 }
          ownTick := if m.sec.owner.isSome then m.sec.ownTick else m.tick.now } }) := by
  have version : ¬ ((!steppingListed b.header) = true ∨ field b.header 8 4 < m.sec.counter.toNat) := by
    simp [hs, hc]
  have signature : ¬ ((!isKwefold (field b.header 32 4)) = true ∨
      (!m.signed proof (field b.header 32 4) (slice b.header 0 256) (slice b.header 256 7856)) = true) := by
    simp [hk, hp]
  simp only [runFwStageEnd, if_neg (not_not.mpr h), hb, if_neg (not_not.mpr hl), if_neg version, if_neg signature,
    yieldSlot_of_idle hw, ho, hw, Option.isSome_none, Bool.false_eq_true, if_false]

theorem runFwConfirm_confirms (h : r.payload = []) (ht : m.onTrial = true) (hh : m.sec.health = true) :
    runFwConfirm r m = answer r stOK [] (m.confirm r.w.link.num) := by
  simp [runFwConfirm, h, ht, hh]

end

/-- Settles O24: the equations of the commands, and the boundary of KEYHOLE_CLEAR. -/
theorem recordAndImageCommandsComplete : Obligations.RecordAndImageCommandsComplete := by
  unfold Obligations.RecordAndImageCommandsComplete
  intro s p proof pl m0 w
  refine ⟨?traceArm, ?keyholeClear, ?cleared, ?attest, ?stageBegin, ?stageData, ?stageEnd, ?confirm⟩
  case traceArm =>
    intro ha hl h1 h64 hs hk ht hd hp hz hm hn t
    exact commandM_runs 0x42 p _ _ s ha (runTraceArm_arms hl h1 h64 hs hk ht hd hp hz hm hn)
  case keyholeClear =>
    intro ha h
    exact commandM_runs 0x74 p _ _ s ha (runKeyholeClear_later h)
  case cleared =>
    intro m i sid t
    have e : t = _ := applyClear_clears m i sid
    rw [e]
    exact ⟨rfl, rfl, rfl⟩
  case attest =>
    intro ha h hk
    exact commandM_runs 0x05 p _ _ s ha (runAttest_answers h hk)
  case stageBegin =>
    intro hdr ha h hl hv hm h1 h2 hc hb ho hn
    exact commandM_runs 0x80 p _ _ s ha (runFwStageBegin_opens rfl h hl hv hm h1 h2 hc hb ho hn)
  case stageData =>
    intro b ha h hz hb hg hp
    exact commandM_runs 0x81 p _ _ s ha (runFwStageData_takes h hz hb hg hp)
  case stageEnd =>
    intro b ha h hb hl hs hc hk hp ho hw
    have signed := (signed_iff (m0 0x82) proof _ _ _).mpr hp
    exact commandM_runs 0x82 p _ _ s ha (runFwStageEnd_writes h hb hl hs hc hk signed ho hw)
  case confirm =>
    intro ha h ht hh
    exact commandM_runs 0x83 p _ _ s ha (runFwConfirm_confirms h ht hh)

end Sys2Proof.Machine
end

section
/-! PROOFS. The rows of the loops, the traces and the calibration (R214, R215, R218, R301 – R330): what each leaves of its loop, of the
classes, of the flagged windows and of their members. -/

namespace Sys2Proof.Machine

/-! ### Loops and traces (R214, R215, R218) -/

@[simp] theorem aget_amod_same {α : Type} (d : α) (l : List (Nat × α)) (k : Nat) (f : α → α) :
    aget d (amod d l k f) k = f (aget d l k) :=
  (aget_aput d _ l k k).trans (if_pos rfl)

theorem get_modify_same {α : Type} (p : Pair α) (i : Side) (f : α → α) : (p.modify i f).get i = f (p.get i) := by
  cases i <;> rfl

section
variable {m : Mod}

@[simp] theorem loop_setLoop_same (k : Nat) (f : Loop → Loop) : (m.setLoop k f).loop k = f (m.loop k) := aget_amod_same _ _ k f

@[simp] theorem traceFlag_loop (k : Nat) : m.traceFlag.loop k = m.loop k := by
  unfold Mod.traceFlag
  split <;> rfl

theorem beginStart_loop (s : Start) : (m.beginStart s).loop s.window = (m.loop s.window).begin s :=
  loop_setLoop_same (m := m) s.window fun l => l.begin s

/-- A start begins on its window, or waits with the window's loop as it was (R210). -/
theorem requestStart_loop (s : Start) :
    (m.requestStart s).loop s.window = (m.loop s.window).begin s ∨ (m.requestStart s).loop s.window = m.loop s.window := by
  unfold Mod.requestStart
  dsimp only
  split
  · exact .inl (beginStart_loop s)
  · exact .inr rfl

/-- A loop that IMPLAUSIBLE_RELEASE has let go: out of the implausible hold, to be preset, its releases of the last hour `l` (R215). -/
def Loop.Released (x : Loop) (l : List Nat) : Prop := x.causes.getLsbD 1 = false ∧ x.preset = true ∧ x.releases = l

theorem Loop.Released.begin {x : Loop} {l : List Nat} (h : x.Released l) (s : Start) : (x.begin s).Released l := by
  obtain ⟨causes, preset, releases⟩ := h
  exact ⟨causes, by simp [Loop.begin, preset], releases⟩

/-- The start that its window then takes leaves it released. -/
theorem requestStart_released {k : Nat} {l : List Nat} {s : Start} (hs : s.window = k) (h : (m.loop k).Released l) :
    ((m.requestStart s).loop k).Released l := by
  subst hs
  obtain e | e := requestStart_loop (m := m) s
  · rw [e]
    exact h.begin s
  · rwa [e]

end

section
variable {s : State}

theorem implausibleHold_holds {k : Nat} (hr : s.cur.running = true) (hc : s.cur.inPhase .compute = true)
    (hv : s.cur.variant.loop k = true) (hn : loopClass k ≠ some .monitor) (h8 : 8 ≤ (s.cur.loop k).mism)
    (hh : s.cur.inHold k = false) :
    ∃ t, execImplausibleHold k s = .next { s with cur := t } ∧ (t.loop k).mism = 0 ∧
      ((s.cur.loop k).mode = .auto → (t.loop k).causes = (s.cur.loop k).causes ||| 2 ∧ (t.loop k).u = (s.cur.loop k).uPrev) ∧
      ((s.cur.loop k).mode = .manual → (t.loop k).causes = (s.cur.loop k).causes ∧ (t.loop k).u = (s.cur.loop k).u) := by
  refine ⟨_, happens_holds _ _ s (by simp [hr, hc, hv, hn, h8, hh]), ?_⟩
  rw [traceFlag_loop, loop_setLoop_same]
  dsimp -proj only
  split
  next hm => exact ⟨rfl, fun ha => absurd (ha.symm.trans hm) (by decide), fun _ => ⟨rfl, rfl⟩⟩
  next hm => exact ⟨rfl, fun _ => ⟨rfl, rfl⟩, fun h => absurd h hm⟩

theorem implausibleRelease_releases {k : Nat} (hr : s.cur.running = true) (hi : (s.cur.loop k).causes.getLsbD 1 = true)
    (hc : 1000 ≤ (s.cur.loop k).calm) (h3 : ((s.cur.loop k).releasesAt s.cur.tick.now).length < 3) :
    ∃ t, execImplausibleRelease k s = .next { s with cur := t } ∧
      (t.loop k).Released ((s.cur.loop k).releasesAt s.cur.tick.now ++ [s.cur.tick.now]) := by
  refine ⟨_, happens_holds _ _ s (by simp [hr, hi, hc, h3]), ?_⟩
  dsimp only
  split
  · refine requestStart_released rfl ?_
    rw [loop_setLoop_same]
    exact ⟨by simp, rfl, rfl⟩
  · rw [loop_setLoop_same]
    exact ⟨by simp, rfl, rfl⟩

theorem traceDone_done (hr : s.cur.running = true) (ht : (s.cur.trowel.trace.get s.cur.worker).state = .triggered)
    (hp : 4096 - (s.cur.trowel.trace.get s.cur.worker).pre ≤ (s.cur.trowel.trace.get s.cur.worker).after) :
    ∃ t, execTraceDone s = .next { s with cur := t } ∧ (t.trowel.trace.get s.cur.worker).state = .done ∧
      (t.trowel.trace.get s.cur.worker).samples = (s.cur.trowel.trace.get s.cur.worker).samples ∧
      t.trowel.loops = s.cur.trowel.loops := by
  refine ⟨_, happens_holds _ _ s ?_, ?_, ?_, rfl⟩
  · simpa [hr, ht] using hp
  · rw [get_modify_same]
  · rw [get_modify_same]

end

/-! ### References (R301) -/

/-- Bit `k` of the word that has bit `i` alone. -/
theorem getLsbD_ofNat_two_pow {n i k : Nat} (hk : k < n) : (BitVec.ofNat n (2 ^ i)).getLsbD k = decide (i = k) := by
  rw [BitVec.getLsbD_ofNat, Nat.testBit_two_pow, decide_eq_true hk, Bool.true_and]

section
variable {med2 k : Nat} {p : BitVec 10 × List (Nat × Nat)} {x : Nat × Nat}

/-- A reference beyond 0.20 % is suspect. -/
theorem refCheckOne_suspects (hk : x.1 < 10) (h : med2 < refOff med2 x.2 * 500) :
    (refCheckOne med2 p x).1.getLsbD x.1 = true := by
  simp only [refCheckOne, if_pos h, BitVec.getLsbD_or, getLsbD_ofNat_two_pow hk, decide_true, Bool.or_true]

/-- The check of one reference leaves the others. -/
theorem refCheckOne_other (hk : k < 10) (h : x.1 ≠ k) : (refCheckOne med2 p x).1.getLsbD k = p.1.getLsbD k := by
  have bit : (BitVec.ofNat 10 (2 ^ x.1)).getLsbD k = false := (getLsbD_ofNat_two_pow hk).trans (decide_eq_false h)
  unfold refCheckOne
  dsimp only
  split
  · rw [BitVec.getLsbD_or, bit, Bool.or_false]
  · generalize (if refOff med2 x.2 * 1000 ≤ med2 then aget 0 p.2 x.1 + 1 else 0) = n
    split
    · rw [BitVec.getLsbD_and, BitVec.getLsbD_not, bit, decide_eq_true hk, Bool.not_false, Bool.true_and, Bool.and_true]
    · rfl

/-- Once checked as beyond 0.20 %, a reference is suspect at the end of the check. -/
theorem foldl_refCheckOne_suspects {l : List (Nat × Nat)} (hk : k < 10) (h : ∀ x ∈ l, x.1 = k → med2 < refOff med2 x.2 * 500)
    (hp : p.1.getLsbD k = true ∨ ∃ x ∈ l, x.1 = k) : (l.foldl (refCheckOne med2) p).1.getLsbD k = true := by
  induction l generalizing p with
  | nil => simpa using hp
  | cons x l ih =>
    refine ih (fun y hy => h y (.tail _ hy)) ?_
    by_cases hx : x.1 = k
    · subst hx
      exact .inl (refCheckOne_suspects hk (h x (.head _) rfl))
    · rw [refCheckOne_other hk hx]
      simpa [hx] using hp

end

theorem zip_range_lget {n : Nat} {l : List Nat} {x : Nat × Nat} (h : x ∈ (List.range n).zip l) : x.2 = lget 0 l x.1 := by
  obtain ⟨i, hi, rfl⟩ := List.mem_iff_getElem.mp h
  have hl : i < l.length := by simp at hi; omega
  simp [lget, hl]

theorem refCheck_suspects {m : Mod} {refs : List Nat} {k : Nat} (hl : refs.length = 10) (hk : k < 10)
    (h : median2 refs < refOff (median2 refs) (lget 0 refs k) * 500) : (refCheck refs m).cal.suspect.getLsbD k = true := by
  refine foldl_refCheckOne_suspects hk (fun x hx e => ?_) (.inr ?_)
  · rwa [zip_range_lget hx, e]
  · refine ⟨((List.range 10).zip refs)[k]'(by simp [hl, hk]), List.getElem_mem _, by simp⟩

/-! ### Runs (R306) -/

section
variable {m n : Mod}

theorem cal_of_butWindows (h : m.butWindows = n.butWindows) : m.cal = n.cal := congrArg (fun f => (f m.trowel).cal) h

theorem fabric_of_butWindows (h : m.butWindows = n.butWindows) : m.fabric = n.fabric :=
  congrArg (fun f => (f m.trowel).fabric) h

end

/-- What the taps of a run leave: the engine, the fabric, and the classes that they belong to. -/
def Mod.calFrame (m : Mod) : Engine × Fabric × List CalClass := (m.engine, m.fabric, m.cal.classes)

section
variable (m : Mod)

theorem passProbes_calFrame : m.passProbes.calFrame = m.calFrame := by
  refine foldl_keeps Mod.calFrame _ (fun m s => ?_) _ m
  split
  · rfl
  · split <;> rfl

theorem calTap_calFrame (c u : Nat) (p : Mod × CalCount) (t : CalTap) : (calTap c u p t).1.calFrame = p.1.calFrame := by
  unfold calTap
  dsimp only
  split
  · rfl
  · split <;> rfl

/-- Once measured, a run changes nothing that its taps leave but its own class, where its unit waits no more and is one that ran (R315). -/
theorem calRunUnit_changes (c u : Nat) (taps : List CalTap) : ∃ (n : Mod) (f : CalClass → CalClass),
    calRunUnit c u taps m = n.setCalClass c f ∧ n.calFrame = m.calFrame ∧
      ∀ x, (f x).pending = x.pending.filter (fun q => q.1 != u) ∧ (f x).ran = insertNew u x.ran := by
  refine ⟨_, _, rfl, ?_, fun x => ?_⟩
  · refine (foldl_keeps (fun p : Mod × CalCount => p.1.calFrame) _ (calTap_calFrame c u) taps _).trans ?_
    dsimp only
    split
    · exact passProbes_calFrame m
    · rfl
  · exact ⟨(apply_ite CalClass.pending _ _ _).trans (ite_self _), (apply_ite CalClass.ran _ _ _).trans (ite_self _)⟩

/-- A run that is over takes its unit out of those that wait, and moves no circuit. -/
theorem calRunUnit_over {c u : Nat} (taps : List CalTap) (hc : c < m.cal.classes.length) :
    (calRunUnit c u taps m).engine = m.engine ∧ (calRunUnit c u taps m).fabric = m.fabric ∧
      (∀ q ∈ ((calRunUnit c u taps m).calClass c).pending, q.1 ≠ u) ∧ u ∈ ((calRunUnit c u taps m).calClass c).ran := by
  obtain ⟨n, f, e, frame, done⟩ := calRunUnit_changes m c u taps
  simp only [Mod.calFrame, Prod.mk.injEq] at frame
  obtain ⟨engine, fabric, classes⟩ := frame
  have cls : (n.setCalClass c f).calClass c = f (n.calClass c) := lget_lmod_same _ _ c f (by rwa [classes])
  obtain ⟨pending, ran⟩ := done (n.calClass c)
  rw [e, cls, pending, ran]
  refine ⟨engine, fabric, fun q hq => ?_, mem_insertNew u _⟩
  simpa using (List.mem_filter.mp hq).2

/-- A run is over at once, or joins those under way with its window starts asked for. -/
theorem startRun_cases (c u : Nat) (taps : List CalTap) : (∃ l, startRun c u taps m = calRunUnit c u l m) ∨
    ∃ t ws, t.cls = c ∧ t.unit = u ∧ startRun c u taps m =
      List.foldl (fun m w => m.driveTo lockTarget w) { m with cal := { m.cal with tests := m.cal.tests ++ [t] } } ws :=
  (ite_eq_or_eq _ _ _).imp (fun e => ⟨_, e⟩) fun e => ⟨_, _, rfl, rfl, e⟩

theorem startRun_begins {c u : Nat} (taps : List CalTap) (hc : c < m.cal.classes.length) :
    (startRun c u taps m).engine = m.engine ∧ (startRun c u taps m).fabric = m.fabric ∧
      ((∃ r ∈ (startRun c u taps m).cal.tests, r.cls = c ∧ r.unit = u) ∨
        ((∀ q ∈ ((startRun c u taps m).calClass c).pending, q.1 ≠ u) ∧ u ∈ ((startRun c u taps m).calClass c).ran)) := by
  obtain ⟨l, e⟩ | ⟨t, ws, cls, unit, e⟩ := startRun_cases m c u taps
  · obtain ⟨engine, fabric, done⟩ := calRunUnit_over m l hc
    rw [e]
    exact ⟨engine, fabric, .inr done⟩
  · have windows := foldl_driveTo_butWindows { m with cal := { m.cal with tests := m.cal.tests ++ [t] } } lockTarget ws
    rw [e, engine_of_butWindows windows, fabric_of_butWindows windows, cal_of_butWindows windows]
    exact ⟨rfl, rfl, .inl ⟨t, List.mem_append_right _ (List.mem_singleton_self t), cls, unit⟩⟩

/-! ### The final of CAL_RUN (R322, R323) -/

theorem calDone_final {x : Waiter} {cs : BitVec 6} {b : Nat} (h : m.cal.waiter = some (x, cs, b)) :
    calDone m = ({ m with cal := { m.cal with waiter := none } }).final x
      (if (bitsSet 6 cs.toNat).all m.calClean then stOK else eDEGRADED)
      ((if (bitsSet 6 cs.toNat).all m.calClean then [] else plain) ++ (bitsSet 6 cs.toNat).flatMap m.calEntry) := by
  unfold calDone
  rw [h]
  dsimp only
  split <;> rfl

/-! ### Members of a flagged window (R327, R330) -/

/-- An impairment to `st` leaves the member's state. -/
def Context.keepsFrom (x : Context) (st : CState) : Prop :=
  x.state = st ∨ x.state = .lost ∨ x.state = .making ∨ x.state = .breaking

variable {st : CState} {x : Context}

theorem impair_of_keeps (cause loop : Nat) (h : x.keepsFrom st) : m.impair x st cause loop = m := if_pos h

/-- Else every context of its circuit takes the state. -/
theorem impair_members (cause loop : Nat) (h : ¬ x.keepsFrom st) : (m.impair x st cause loop).engine.members =
    m.engine.members.map fun y => if y.circ = x.circ then { y with state := st } else y :=
  (congrArg (fun m : Mod => m.engine.members) (if_neg h)).trans (congrArg Engine.members (event_engine ..))

theorem impair_cal (cause loop : Nat) : (m.impair x st cause loop).cal = m.cal := by
  unfold Mod.impair
  split
  · rfl
  · obtain ⟨l, h, t, e⟩ := event_changes (m.setMember x.circ fun y => { y with state := st }) 2 (memberBody x st cause loop)
    rw [e]
    rfl

/-- After an impairment of each of `l`, a member of the window keeps its state from another one, if at first it did or one of `l` is
of its circuit and did not. -/
theorem foldl_impair_keeps {w : Nat} (cause loop : Nat) {l : List Context}
    (h : ∀ y ∈ m.engine.members, w ∈ y.circ.windows → y.keepsFrom st ∨ ∃ x ∈ l, x.circ = y.circ ∧ ¬ x.keepsFrom st) :
    ∀ y ∈ (l.foldl (fun m x => m.impair x st cause loop) m).engine.members, w ∈ y.circ.windows → y.keepsFrom st := by
  induction l generalizing m with
  | nil => simpa using h
  | cons x l ih =>
    refine ih (m.impair x st cause loop) ?_
    by_cases hx : x.keepsFrom st
    · rw [impair_of_keeps m cause loop hx]
      intro y hy hw
      obtain keeps | ⟨z, hz, hc, hn⟩ := h y hy hw
      · exact .inl keeps
      · obtain rfl | hz := List.mem_cons.mp hz
        · exact absurd hx hn
        · exact .inr ⟨z, hz, hc, hn⟩
    · rw [impair_members m cause loop hx]
      intro y' hy' hw
      obtain ⟨y, hy, rfl⟩ := List.mem_map.mp hy'
      by_cases hc : y.circ = x.circ
      · rw [if_pos hc]
        exact .inl (.inl rfl)
      · rw [if_neg hc] at hw ⊢
        obtain keeps | ⟨z, hz, he, hn⟩ := h y hy hw
        · exact .inl keeps
        · obtain rfl | hz := List.mem_cons.mp hz
          · exact absurd he.symm hc
          · exact .inr ⟨z, hz, he, hn⟩

/-- The members of a window after all of them are impaired. -/
theorem membersOf_impaired (w cause loop : Nat) :
    ∀ y ∈ ((m.membersOf w).foldl (fun m x => m.impair x st cause loop) m).engine.members, w ∈ y.circ.windows → y.keepsFrom st := by
  refine foldl_impair_keeps m cause loop fun y hy hw => ?_
  by_cases keeps : y.keepsFrom st
  · exact .inl keeps
  · exact .inr ⟨y, List.mem_filter.mpr ⟨hy, by simpa using hw⟩, rfl, keeps⟩

theorem Context.keepsFrom.ne {s : CState} (h : x.keepsFrom st) (h1 : s ≠ st) (h2 : s = .active ∨ s = .atRisk) : x.state ≠ s := by
  rintro rfl
  obtain h | h | h | h := h <;> simp_all

theorem flagWindow_cal (w : Nat) : (flagWindow w m).cal =
    { m.cal with flagged := m.cal.flagged ++ [(w, m.tick.now, roundNE (m.laneD w / hUnit))], wlLast := w } :=
  foldl_keeps Mod.cal _ (fun m _ => impair_cal m 2 w) _ _

theorem loseFlagged_cal (w : Nat) : (loseFlagged w m).cal = { m.cal with lostFlag := m.cal.lostFlag ++ [w] } :=
  foldl_keeps Mod.cal _ (fun m _ => impair_cal m 5 w) _ _

/-! ### Sweeps (R328, R329) -/

theorem driveTo_cal (t : Int) (w : Nat) : (m.driveTo t w).cal = m.cal := cal_of_butWindows (foldl_driveTo_butWindows m t [w])

theorem record_cal (ty origin : Nat) (data : List Byte) : (m.record ty origin data).cal = m.cal := by
  obtain ⟨r, e⟩ := record_changes m ty origin data
  rw [e]

/-- Calibration's part of the module after a sweep. -/
theorem sweepEnd_cal (w : Nat) (lit peak : Bool) : (sweepEnd w lit peak m).cal =
    (let c := { m.cal with
      flagged := m.cal.flagged.filter fun f => f.1 != w, lostFlag := m.cal.lostFlag.filter fun x => x != w
      relock := insertNew w m.cal.relock }
    if confirmed w lit peak then
      { c with laneShift := aput c.laneShift w (aget 0 c.laneShift w + 1), confirmed := c.confirmed + 1 }
    else { c with falses := c.falses + 1 }) := by
  unfold sweepEnd
  dsimp only
  split
  · rw [driveTo_cal, record_cal]
  · rw [driveTo_cal]

end

/-- Settles O46: the guard of each row holds, and its lemma says what the row leaves. -/
theorem loopAndCalibrationRowsComplete : Obligations.LoopAndCalibrationRowsComplete := by
  unfold Obligations.LoopAndCalibrationRowsComplete
  refine ⟨fun s k hr => ?loops, fun s w c u refs taps lit peak => ?calibration⟩
  case loops =>
    intro m l
    exact ⟨fun hc hv hn h8 hh => implausibleHold_holds hr hc hv hn h8 hh,
      fun hi hc h3 => implausibleRelease_releases hr hi hc h3, fun ht hp => traceDone_done hr ht hp⟩
  case calibration =>
    dsimp only [exec, execRefCheck, execCalibrationRun, execCalRunDone, execWrongLaneCheck, execSignatureSweep,
      execWrongLaneTimeout]
    refine ⟨fun hs hr hl ht => ⟨_, happens_holds _ _ s ?reference, rfl, rfl, fun k hk h => refCheck_suspects hl hk h⟩,
      fun hg hi hc => ⟨_, happens_holds _ _ s ?gap, startRun_begins s.cur taps hc⟩, fun x cs b hr hw hd => ?final,
      fun hr hw hl ha hn hwl => ⟨_, happens_holds _ _ s ?lane, ?flagged⟩,
      fun hb hd hf hi hfl hs hc hh => ⟨_, _, happens_holds _ _ s ?sweep, rfl, rfl, rfl, rfl, ?starts⟩,
      ?swept, fun hr hn hs hf => ⟨_, happens_holds _ _ s ?timeout, ?lost⟩⟩
    case reference =>
      simp only [hs, hr, hl, decide_true, Bool.true_and]
      split
      next b e => exact decide_eq_true (ht b e)
      next => rfl
    case gap => simp [hg, hi]
    case final =>
      refine (happens_holds _ _ s ?_).trans (congrArg (fun m => Host.Outcome.next { s with cur := m }) (calDone_final s.cur hw))
      simpa [hr, hw] using hd
    case lane =>
      have clear : (s.cur.cal.flagged.any fun f => f.1 == w) = false :=
        List.any_eq_false.mpr fun f hf e => hn ⟨f, hf, eq_of_beq e⟩
      simp [hr, hw, hl, ha, hwl, clear]
    case flagged =>
      rw [flagWindow_cal]
      refine ⟨⟨_, List.mem_append_right _ (List.mem_singleton_self _), rfl⟩, rfl, fun x hx hxw => ?_⟩
      exact (membersOf_impaired _ w 2 w x hx hxw).ne (by decide) (.inl rfl)
    case sweep => simpa [hb, hd, hf, hi, hs, hc, hh] using hfl
    case starts => exact aget_amod_same ..
    case swept =>
      have unflagged : ∀ f ∈ s.cur.cal.flagged.filter fun f => f.1 != w, f.1 ≠ w := fun f hf => by
        simpa using (List.mem_filter.mp hf).2
      rw [sweepEnd_cal]
      cases confirmed w lit peak
      · exact ⟨unflagged, mem_insertNew w _, rfl, rfl, nofun⟩
      · exact ⟨unflagged, mem_insertNew w _, rfl, rfl, fun _ => (aget_aput ..).trans (if_pos rfl)⟩
    case timeout => simpa [hr, hn, hs] using hf
    case lost =>
      rw [loseFlagged_cal]
      refine ⟨List.mem_append_right _ (List.mem_singleton_self _), fun x hx hxw => ?_⟩
      have keeps := membersOf_impaired _ w 5 w x hx hxw
      exact ⟨keeps.ne (by decide) (.inl rfl), keeps.ne (by decide) (.inr rfl)⟩

end Sys2Proof.Machine
end

section
/-! PROOFS. Control, guard and system instructions of Mortar (R249, R280, R285): where each sends its course, what it writes, and the
end of a job. -/

namespace Sys2Proof.Machine

section
variable (m : Mod) (c : Nat) (w : MWord)

/-! ### Courses -/

theorem lmod_id {α : Type} (l : List α) (k : Nat) : lmod l k id = l := by
  induction l generalizing k with
  | nil => rfl
  | cons x l ih =>
    cases k with
    | zero => rfl
    | succ k => exact congrArg (x :: ·) (ih k)

@[simp] theorem length_lmod {α : Type} (l : List α) (k : Nat) (f : α → α) : (lmod l k f).length = l.length := by
  induction l generalizing k with
  | nil => rfl
  | cons x l ih =>
    cases k with
    | zero => rfl
    | succ k => exact congrArg (· + 1) (ih k)

@[simp] theorem setCourse_id : m.setCourse c id = m := by
  rw [Mod.setCourse, lmod_id]

@[simp] theorem setCourse_courses_length (k : Nat) (f : Course → Course) :
    (m.setCourse k f).mortar.courses.length = m.mortar.courses.length := length_lmod ..

/-- A fitted course after an update of it. -/
theorem course_setCourse_same (f : Course → Course) (h : c < m.mortar.courses.length) :
    (m.setCourse c f).course c = f (m.course c) := lget_lmod_same _ _ _ _ h

/-- A scalar register of a fitted course after a write to it. -/
theorem reg_setReg_same (n : BitVec 8) (v : BitVec 64) (h : c < m.mortar.courses.length) (hn : n.toNat < 32) :
    (m.setReg c n v).reg c n.toNat = v := by
  rw [Mod.reg, if_pos hn, Mod.setReg, course_setCourse_same m c _ h, aget_aput, if_pos rfl]

/-! ### Branches, calls and loops -/

/-- A target inside the code is the offset from the instruction itself. -/
theorem target_inside (n : Nat) (j : Job) (imm : BitVec 16) (hj : m.jobOf c = some (n, j))
    (h0 : 0 ≤ ((m.course c).pc : Int) + imm.toInt) (h1 : ((m.course c).pc : Int) + imm.toInt < j.codeWords) :
    (m.target c imm : Int) = (m.course c).pc + imm.toInt := by
  simp only [Mod.target, hj]
  rw [if_pos ⟨h0, h1⟩]
  exact Int.toNat_of_nonneg h0

/-- An instruction that changes its course and places the pc. -/
theorem control_jumps (cls op : Nat) (run : Mod → Ran) (s : State) (f : Course → Course) (pc : Nat)
    (hr : run s.cur = (s.cur.setCourse c f).goto c pc) (h : s.cur.executes cls op c w = true) :
    Machine.control cls op c w run s =
      .next (s.placed c ((s.cur.setCourse c f).setCourse c fun x => { x with pc := pc })) :=
  control_ends cls op c w run s _ h hr

theorem runBr_jumps : runBr c w m = (m.setCourse c id).goto c (m.target c w.imm) := by
  rw [setCourse_id, runBr]

theorem runBrc_taken (h : compares w.mod.toNat ((m.reg c w.srcA.toNat).toInt : Rat) 0 = true) :
    runBrc c w m = (m.setCourse c id).goto c (m.target c w.imm) := by
  rw [setCourse_id, runBrc, if_pos h]

theorem runBrc_passed (h : compares w.mod.toNat ((m.reg c w.srcA.toNat).toInt : Rat) 0 = false) :
    runBrc c w m = (m.setCourse c id).goto c ((m.course c).pc + 1) := by
  rw [setCourse_id, runBrc, if_neg (Bool.eq_false_iff.mp h)]

theorem runCall_pushes (h : (m.course c).calls.length < 16) :
    runCall c w m = (m.setCourse c fun x => { x with calls := ((m.course c).pc + 1) :: (m.course c).calls }).goto c
      (m.target c w.imm) := by
  simp only [runCall, h, ↓reduceIte]

theorem runRet_pops (r : Nat) (t : List Nat) (h : (m.course c).calls = r :: t) :
    runRet c m = (m.setCourse c fun x => { x with calls := t }).goto c r := by
  simp only [runRet, h]

theorem runLoop_passes (h : (m.reg c w.srcA.toNat).toInt < 1) :
    runLoop c w m = (m.setCourse c id).goto c (m.target c w.imm + 1) := by
  simp only [runLoop, h, setCourse_id, ↓reduceIte]

theorem runLoop_begins (h : 1 ≤ (m.reg c w.srcA.toNat).toInt) :
    runLoop c w m = (m.setCourse c fun x => { x with
      loopStack := ((m.course c).pc + 1, m.target c w.imm, (m.reg c w.srcA.toNat).toInt.toNat) :: x.loopStack }).goto c
        ((m.course c).pc + 1) := by
  simp only [runLoop, Int.not_lt.mpr h, ↓reduceIte]

theorem runEndl_repeats (b e q : Nat) (t : List (Nat × Nat × Nat)) (h : (m.course c).loopStack = (b, e, q) :: t) (hq : 1 < q) :
    runEndl c m = (m.setCourse c fun x => { x with loopStack := (b, e, q - 1) :: t }).goto c b := by
  simp only [runEndl, h, hq, ↓reduceIte]

theorem runEndl_leaves (b e q : Nat) (t : List (Nat × Nat × Nat)) (h : (m.course c).loopStack = (b, e, q) :: t) (hq : q ≤ 1) :
    runEndl c m = (m.setCourse c fun x => { x with loopStack := t }).goto c ((m.course c).pc + 1) := by
  simp only [runEndl, h, Nat.not_lt.mpr hq, ↓reduceIte]

/-! ### The job of the course -/

variable (n : Nat) (j : Job) (hj : m.jobOf c = some (n, j))
include hj

theorem runEnd_ends (reason : Nat) : runEnd c reason w m = (m.endJob n reason w.imm.toNat, none) := by
  simp only [runEnd, hj]

theorem stopJob_ends (e : Stop) : m.stopJob c e = m.endJob n e.reason 0 := by
  simp only [Mod.stopJob, hj]

/-- FFIN and FFOUT stop the client whatever their encoding. -/
theorem perform_reservedOp (cls op : Nat) : m.perform cls op c w reservedOp = m.endJob n 4 0 := by
  rw [Mod.perform]
  split <;> exact stopJob_ends m c n j hj .illegal

theorem runGstat_reads : runGstat c w m = (m.setReg c w.dst (j.flags.setWidth 64), none) := by
  simp only [runGstat, hj]

theorem runFlagclr_clears :
    runFlagclr c w m = (m.setJob n fun j => { j with flags := j.flags &&& ~~~(w.imm.setWidth 3) }, none) := by
  simp only [runFlagclr, hj]

omit hj

/-! ### PROP (R280) -/

theorem setJob_courses (k : Nat) (f : Job → Job) : (m.setJob k f).mortar.courses = m.mortar.courses := rfl

theorem journalInternal_mortar (kind st : Nat) (ref : Word) (l : Option LaunchRec) :
    (m.journalInternal kind st ref l).mortar = m.mortar := by
  unfold Mod.journalInternal
  obtain ⟨r, e⟩ := journal_changes m _
  rw [e]

theorem propose_mortar (slot course : Nat) (id : Word) (buf : List Byte) :
    (m.propose slot course id buf).1.mortar = m.mortar := by
  unfold Mod.propose
  dsimp only
  repeat' split
  all_goals rfl

include hj in
/-- PROP leaves the status in register 0 and the PLAN_ID of the proposal in register 1. -/
theorem runProp_registers (hfit : (m.reg c w.srcA.toNat).toNat + (m.reg c w.srcB.toNat).toNat ≤ j.region) :
    ∃ (x : Mod) (st : BitVec 64), runProp c w m = ((x.setReg c 0 st).setReg c 1 ((propId n j.props).setWidth 64), none) ∧
      x.mortar.courses = m.mortar.courses := by
  simp only [runProp, hj, if_neg (Nat.not_lt.mpr hfit)]
  exact ⟨_, _, rfl, by rw [setJob_courses, journalInternal_mortar, propose_mortar]⟩

end

/-- An instruction that the client may not hold stops it, whatever its encoding. -/
theorem control_reservedOp (cls op c : Nat) (w : MWord) (s : State) (n : Nat) (j : Job) (hj : s.cur.jobOf c = some (n, j))
    (h : s.cur.issues cls op c w = true) : Machine.control cls op c w reservedOp s = .next (s.placed c (s.cur.endJob n 4 0)) := by
  rw [Machine.control, happens_holds _ _ s h, perform_reservedOp s.cur c w n j hj, State.placed]

/-- Settles O54: each instruction ends as its equation says, placing the pc itself or going on. -/
theorem controlInstructionsComplete : Obligations.ControlInstructionsComplete := by
  unfold Obligations.ControlInstructionsComplete
  intro s c w n j hj m k ends jumps tgt ra rb scalar inside
  have goes (cls op : Nat) (run : Mod → Ran) (r : Mod) (hr : run m = (r, none)) (h : m.executes cls op c w = true) :
      instruct cls op c w run s = .next (s.after cls c r) := instruct_ends cls op c w run s r h hr
  have places (cls op : Nat) (run : Mod → Ran) (r : Mod) (hr : run m = (r, none)) (h : m.executes cls op c w = true) :
      Machine.control cls op c w run s = .next (s.placed c r) := control_ends cls op c w run s r h hr
  refine ⟨fun h => target_inside m c n j w.imm hj h.1 h.2,
    control_jumps c w 5 0 _ s id _ (runBr_jumps m c w),
    fun h => control_jumps c w 5 1 _ s id _ (runBrc_taken m c w h),
    fun h => control_jumps c w 5 1 _ s id _ (runBrc_passed m c w h),
    fun h => control_jumps c w 5 2 _ s _ _ (runCall_pushes m c w h),
    fun r t h => control_jumps c w 5 3 _ s _ _ (runRet_pops m c r t h),
    fun h => control_jumps c w 5 4 _ s id _ (runLoop_passes m c w h),
    fun h => control_jumps c w 5 4 _ s _ _ (runLoop_begins m c w h),
    fun b e q t h => ⟨fun hq => control_jumps c w 5 5 _ s _ _ (runEndl_repeats m c b e q t h hq),
      fun hq => control_jumps c w 5 5 _ s _ _ (runEndl_leaves m c b e q t h hq)⟩,
    goes 5 6 _ _ rfl,
    goes 5 7 _ _ rfl,
    goes 5 8 _ _ rfl,
    goes 5 9 _ _ rfl,
    fun h => ⟨_, goes 5 10 _ _ rfl h⟩,
    goes 5 11 _ _ rfl,
    goes 5 12 _ _ rfl,
    goes 6 8 _ _ rfl,
    places 5 13 _ _ (runEnd_ends m c w n j hj 0),
    places 6 7 _ _ (runEnd_ends m c w n j hj 2),
    control_reservedOp 6 9 c w s n j hj,
    control_reservedOp 6 10 c w s n j hj,
    goes 6 0 _ _ rfl,
    goes 6 1 _ _ (runGstat_reads m c w n j hj),
    goes 6 2 _ _ (runFlagclr_clears m c w n j hj),
    goes 6 3 _ _ rfl,
    fun h => ⟨_, goes 6 4 _ _ rfl h⟩,
    fun h => ⟨_, goes 6 5 _ _ rfl h⟩,
    fun h hfit hc => ?prop⟩
  case prop =>
    obtain ⟨x, st, run, hx⟩ := runProp_registers m c w n j hj hfit
    have fitted : c < (x.setReg c 0 st).mortar.courses.length := by
      rw [Mod.setReg, setCourse_courses_length, hx]
      exact hc
    exact ⟨_, goes 6 6 _ _ run h, reg_setReg_same _ c 1 _ fitted (by decide)⟩

end Sys2Proof.Machine
end

section
/-! PROOFS. Matrix and elementwise instructions of Mortar (R242, R247 – R249, R252, R253): a product with its residue check, and what
an instruction over tensors makes. -/

namespace Sys2Proof.Machine

/-! ### Instructions over tensors -/

/-- Steps that change the SRAM alone change it as one fold. -/
theorem foldl_mem (g : Memory → Nat → Memory) (l : List Nat) (k : Made) :
    l.foldl (fun k n => { k with mem := g k.mem n }) k = { k with mem := l.foldl g k.mem } := by
  induction l generalizing k with
  | nil => rfl
  | cons n l ih => exact ih _

/-- An instruction over tensors inside the allocation, issued with a legal encoding, leaves what it makes. -/
theorem instruct_tensorOp (cls op c : Nat) (w : MWord) (run : Mod → Ran) (s : State) (srcs dsts : List Desc) (f : Made → Made)
    (hr : run s.cur = tensorOp c srcs dsts f s.cur) (h : s.cur.executes cls op c w = true)
    (ht : s.cur.tensorStop c srcs dsts = none) :
    instruct cls op c w run s = .next (s.after cls c (s.cur.made c (f (s.cur.start c)))) :=
  instruct_ends cls op c w run s _ h (hr.trans (tensorOp_ends c srcs dsts f s.cur ht))

/-- As `instruct_tensorOp`, where each element made changes the SRAM alone. -/
theorem instruct_tensorOp_mem (cls op c : Nat) (w : MWord) (run : Mod → Ran) (s : State) (srcs dsts : List Desc)
    (g : Memory → Memory → Nat → Memory) (l : List Nat)
    (hr : run s.cur = tensorOp c srcs dsts (fun k => l.foldl (fun x n => { x with mem := g k.mem x.mem n }) k) s.cur)
    (h : s.cur.executes cls op c w = true) (ht : s.cur.tensorStop c srcs dsts = none) :
    instruct cls op c w run s = .next (s.after cls c (s.cur.made c
      { s.cur.start c with mem := l.foldl (g (s.cur.course c).sram) (s.cur.course c).sram })) := by
  rw [instruct_tensorOp cls op c w run s srcs dsts _ hr h ht, foldl_mem (g (s.cur.start c).mem)]
  rfl

/-! ### Products and their residue check (R252, R253) -/

section
variable (m : Mod) (c : Nat) (w : MWord)

/-- The shadow tensor that IMM[7:0] names. -/
def Mod.shadowTensor : Desc := { m.desc c (w.imm.setWidth 8) with fmt := 0 }

/-- Checked rows in which the product from the shadow tensor mismatches. -/
def Mod.shadowBad (d : Desc) (main shadow : Memory) : Nat :=
  ((checkedRows (m.course c).count0 d).filter (rowBad (bits m.mortar.guardCfg.toNat 3 0) main shadow d)).length

theorem rowDiffers_self (x : Memory) (d : Desc) (r : Nat) : rowDiffers x x d r = false := by
  simp [rowDiffers]

variable (srcs : List Desc) (a d : Desc) (f : Desc → Made → Made)

theorem matrix_unchecked (hc : w.chk = false) (ht : m.tensorStop c (a :: srcs) [d] = none) :
    matrix c w srcs a d f m = (m.made c (f a (m.start c)), none) := by
  simp only [matrix, hc, Bool.false_and, Bool.false_eq_true, ↓reduceIte, List.append_nil, ht, Bool.not_false]
  rfl

/-- Recomputed from its own operands a product mismatches nowhere. -/
theorem matrix_exact (hc : w.chk = true) (hs : (m.course c).shadowChk = false) (ht : m.tensorStop c (a :: srcs) [d] = none) :
    matrix c w srcs a d f m = ((m.made c (f a (m.start c))).courseErrors c 0 0, none) := by
  have agree (x : Memory) (l : List Nat) : l.filter (rowDiffers x x d) = [] :=
    List.filter_eq_nil_iff.mpr fun r _ => Bool.eq_false_iff.mp (rowDiffers_self x d r)
  simp only [matrix, hc, hs, Bool.and_false, Bool.false_eq_true, ↓reduceIte, List.append_nil, ht, Bool.not_true, agree]
  rfl

/-- Recomputed from the shadow tensor, mismatches are counted; the client goes on where there are none or its policy says so. -/
theorem matrix_shadow (hc : w.chk = true) (hs : (m.course c).shadowChk = true)
    (hg : m.shadowBad c d (f a (m.start c)).mem (f (m.shadowTensor c w) (m.start c)).mem = 0 ∨
      ∀ p, m.jobOf c = some p → p.2.stopsOnGuard = false)
    (ht : m.tensorStop c (a :: (srcs ++ [m.shadowTensor c w])) [d] = none) :
    matrix c w srcs a d f m = ((m.made c (f a (m.start c))).mismatched c
      (m.shadowBad c d (f a (m.start c)).mem (f (m.shadowTensor c w) (m.start c)).mem), none) := by
  simp only [matrix, hc, hs, Bool.and_true, ↓reduceIte, List.cons_append, Bool.not_true, Bool.false_or]
  unfold Mod.shadowTensor at ht hg ⊢
  rw [ht]
  refine Prod.ext rfl (if_neg fun stops => ?_)
  obtain ⟨some_bad, guards⟩ := (Bool.and_eq_true _ _).mp stops
  obtain none_bad | lenient := hg
  · have empty := List.isEmpty_iff.mpr (List.length_eq_zero_iff.mp none_bad)
    exact Bool.false_ne_true (((Bool.not_eq_true' _).mp some_bad).symm.trans empty)
  · cases hj : m.jobOf c with
    | none => rw [hj] at guards; cases guards
    | some p => rw [hj] at guards; cases guards.symm.trans (lenient p hj)

end

/-- A product as `matrix` forms it: what it leaves without a check, with the EXACT check, and with the SHADOW check where the client
goes on. -/
theorem instruct_matrix (op c : Nat) (w : MWord) (run : Mod → Ran) (s : State) (srcs : List Desc) (a d : Desc)
    (f : Desc → Made → Made) (hr : run s.cur = matrix c w srcs a d f s.cur) :
    let m := s.cur
    let main := f a (m.start c)
    let bad := m.shadowBad c d main.mem (f (m.shadowTensor c w) (m.start c)).mem
    let ends (l : List Desc) (r : Mod) : Prop :=
      m.executes 0 op c w = true → m.tensorStop c l [d] = none → instruct 0 op c w run s = .next (s.after 0 c r)
    (w.chk = false → ends (a :: srcs) (m.made c main)) ∧
      (w.chk = true → (m.course c).shadowChk = false → ends (a :: srcs) ((m.made c main).courseErrors c 0 0)) ∧
      (w.chk = true → (m.course c).shadowChk = true → (bad = 0 ∨ ∀ p, m.jobOf c = some p → p.2.stopsOnGuard = false) →
        ends (a :: (srcs ++ [m.shadowTensor c w])) ((m.made c main).mismatched c bad)) := by
  intro m main bad ends
  refine ⟨fun hc h ht => ?unchecked, fun hc hs h ht => ?exact, fun hc hs hg h ht => ?shadow⟩
  case unchecked => exact instruct_ends 0 op c w run s _ h (hr.trans (matrix_unchecked m c w srcs a d f hc ht))
  case exact => exact instruct_ends 0 op c w run s _ h (hr.trans (matrix_exact m c w srcs a d f hc hs ht))
  case shadow => exact instruct_ends 0 op c w run s _ h (hr.trans (matrix_shadow m c w srcs a d f hc hs hg ht))

theorem runMmaw_loads (c : Nat) (w : MWord) (m : Mod) (h : m.tensorStop c [m.tensor c w.srcB w.fmt.toNat] [] = none) :
    runMmaw c w m = (m.setCourse c fun k => { k with weights := some (m.tensor c w.srcB w.fmt.toNat, k.sram) }, none) := by
  simp only [runMmaw, h]

/-! ### Elementwise instructions (R243) -/

section
variable (op c : Nat) (w : MWord) (s : State)

/-- An elementwise instruction of two sources. -/
theorem instruct_vec_two (f : Rat → Rat → Rat → Rat) (h : s.cur.executes 1 op c w = true) :
    let m := s.cur
    let mem := (m.course c).sram
    let a := m.tensor c w.srcA w.fmt.toNat
    let b := m.tensor c w.srcB w.fmt.toNat
    let d := m.tensor c w.dst w.fmt.toNat
    m.tensorStop c [a, b] [d] = none → instruct 1 op c w (runVec c w true f) s = .next (s.after 1 c (m.made c
      ((m.start c).fill d fun n => f (valNth mem a n) (valNth mem b n) (valNth mem d n)))) :=
  fun ht => instruct_ends 1 op c w (runVec c w true f) s _ h (by
    simp only [runVec, ↓reduceIte]
    exact tensorOp_ends c _ _ _ s.cur ht)

/-- An elementwise instruction of one source. -/
theorem instruct_vec_one (run : Mod → Ran) (f : Rat → Rat → Rat → Rat) (hr : run s.cur = runVec c w false f s.cur)
    (h : s.cur.executes 1 op c w = true) :
    let m := s.cur
    let mem := (m.course c).sram
    let a := m.tensor c w.srcA w.fmt.toNat
    let d := m.tensor c w.dst w.fmt.toNat
    m.tensorStop c [a] [d] = none → instruct 1 op c w run s = .next (s.after 1 c (m.made c
      ((m.start c).fill d fun n => f (valNth mem a n) 0 (valNth mem d n)))) :=
  fun ht => instruct_ends 1 op c w run s _ h (hr.trans (by
    simp only [runVec, Bool.false_eq_true, ↓reduceIte]
    exact tensorOp_ends c _ _ _ s.cur ht))

/-- An elementwise instruction on the raw bits of two sources. -/
theorem instruct_raw (f : Nat → Nat → Nat) (h : s.cur.executes 1 op c w = true) :
    let m := s.cur
    let mem := (m.course c).sram
    let a := m.tensor c w.srcA w.fmt.toNat
    let b := m.tensor c w.srcB w.fmt.toNat
    let d := m.tensor c w.dst w.fmt.toNat
    m.tensorStop c [a, b] [d] = none → instruct 1 op c w (runRaw c w true f) s = .next (s.after 1 c (m.made c
      { m.start c with mem := (List.range d.count).foldl (fun x n => putRaw x d n (f (rawNth mem a n) (rawNth mem b n))) mem })) := by
  intro m mem a b d ht
  exact instruct_tensorOp_mem 1 op c w (runRaw c w true f) s [a, b] [d]
    (fun old x n => putRaw x d n (f (rawNth old a n) (rawNth old b n))) _ rfl h ht

end

/-- Settles O51: a product is `matrix` of its operands, an elementwise instruction `tensorOp` of its own. -/
theorem matrixAndVectorInstructionsComplete : Obligations.MatrixAndVectorInstructionsComplete := by
  unfold Obligations.MatrixAndVectorInstructionsComplete
  intro s c w m t a b d4 d st mem ends sh bad goesOn product0 each1 va vb vd raw block table
  refine ⟨⟨?mma, ?mmat, ?mmas, ?mmad, ?mmax, ?outer, ?conv1, ?mmaw, ?accz, ?accset⟩,
    ?vadd, ?vsub, ?vmul, ?vfma, ?vmax, ?vmin, ?vabs, ?vneg, ?vclamp, ?vsel, ?vcmp, ?vand, ?vor, ?vxor, ?vshl, ?vshr, ?tables⟩
  case mma => exact (instruct_matrix 0 c w (runMma c w fun _ => everyRow) s [b] a d4 _ (by dsimp only [runMma]) :)
  case mmat => exact (instruct_matrix 1 c w (runMmat c w) s [b] a d4 _ (by dsimp only [runMmat]) :)
  case mmas => exact (instruct_matrix 3 c w (runMmas c w) s [] a d4 _ (by dsimp only [runMmas]) :)
  case mmad => exact (instruct_matrix 4 c w (runMmad c w) s [b] a d4 _ (by dsimp only [runMmad]) :)
  case mmax => exact (instruct_matrix 5 c w (runMma c w (rowMask c w)) s [b] a d4 _ (by dsimp only [runMma]) :)
  case outer => exact (instruct_matrix 6 c w (runOuter c w) s [b] a d4 _ (by dsimp only [runOuter]) :)
  case conv1 => exact (instruct_matrix 7 c w (runConv1 c w) s [b] a d4 _ (by dsimp only [runConv1]) :)
  case mmaw => exact fun h ht => instruct_ends 0 2 c w _ s _ h (runMmaw_loads c w m ht)
  case accz =>
    exact (instruct_tensorOp 0 8 c w (runAccz c w) s [] [d4] _ (by dsimp only [runAccz]) :)
  case accset => exact fun h => instruct_ends 0 9 c w _ s _ h rfl
  case vadd => exact instruct_vec_two 0 c w s (fun x y z => if w.acc then x + y + z else x + y)
  case vsub => exact instruct_vec_two 1 c w s (fun x y _ => x - y)
  case vmul => exact instruct_vec_two 2 c w s (fun x y _ => x * y)
  case vfma => exact instruct_vec_two 3 c w s (fun x y z => x * y + z)
  case vmax => exact instruct_vec_two 4 c w s (fun x y _ => if x < y then y else x)
  case vmin => exact instruct_vec_two 5 c w s (fun x y _ => if y < x then y else x)
  case vabs => exact instruct_vec_one 6 c w s _ (fun x _ _ => if x < 0 then -x else x) rfl
  case vneg => exact instruct_vec_one 7 c w s _ (fun x _ _ => -x) rfl
  case vclamp => exact instruct_vec_one 8 c w s _ (fun x _ _ =>
      clampVal (boundVal d (m.reg c (w.mod.toNat % 32))) (boundVal d (m.reg c (w.mod.toNat % 32 + 1))) x) rfl
  case vsel =>
    exact (instruct_tensorOp 1 14 c w (runVsel c w) s [a, b, t (w.imm.setWidth 8)] [d] _ (by dsimp only [runVsel]) :)
  case vcmp => exact instruct_tensorOp_mem 1 13 c w _ s [a, b] [d] (fun old x n =>
      putRaw x d n (if compares w.mod.toNat (valNth old a n) (valNth old b n) then maskOne w.fmt.toNat else 0)) _ rfl
  case vand => exact instruct_raw 15 c w s (· &&& ·)
  case vor => exact instruct_raw 16 c w s (· ||| ·)
  case vxor => exact instruct_raw 17 c w s (· ^^^ ·)
  case vshl =>
    exact (instruct_tensorOp 1 18 c w (runShift c w fun v => v * 2 ^ w.mod.toNat) s [m.tensor c w.srcA 4] [d4] _
      (by dsimp only [runShift]) :)
  case vshr =>
    exact (instruct_tensorOp 1 19 c w (runShift c w fun v => v / 2 ^ w.mod.toNat) s [m.tensor c w.srcA 4] [d4] _
      (by dsimp only [runShift]) :)
  case tables =>
    intro t op k hk
    simp only [List.mem_cons, Prod.mk.injEq, List.not_mem_nil, or_false] at hk
    obtain ⟨rfl, rfl, rfl⟩ | ⟨rfl, rfl, rfl⟩ | ⟨rfl, rfl, rfl⟩ | ⟨rfl, rfl, rfl⟩ := hk
    · exact (instruct_tensorOp 1 9 c w (runTable 0 c w) s [a] [d] _ (by dsimp only [runTable]) :)
    · exact (instruct_tensorOp 1 10 c w (runTable 1 c w) s [a] [d] _ (by dsimp only [runTable]) :)
    · exact (instruct_tensorOp 1 11 c w (runTable 2 c w) s [a] [d] _ (by dsimp only [runTable]) :)
    · exact (instruct_tensorOp 1 12 c w (runTable 3 c w) s [a] [d] _ (by dsimp only [runTable]) :)

end Sys2Proof.Machine
end

section
/-! PROOFS. Format, reduction and exchange instructions of Mortar (R238 – R241, R245, R249, R256). -/

namespace Sys2Proof.Machine

section
variable (m : Mod) (c : Nat) (w : MWord)

/-! ### What an instruction makes leaves the engine -/

@[simp] theorem jobFlag_engine (b : BitVec 3) : (m.jobFlag c b).engine = m.engine := by
  unfold Mod.jobFlag
  split <;> rfl

@[simp] theorem saturated_engine : (m.saturated c).engine = m.engine := jobFlag_engine ..

@[simp] theorem outOfRange_engine (n : Nat) : (m.outOfRange c n).engine = m.engine := by
  unfold Mod.outOfRange
  split
  · rfl
  · exact jobFlag_engine ..

@[simp] theorem made_engine (k : Made) : (m.made c k).engine = m.engine := by
  rw [Mod.made, outOfRange_engine]
  cases k.sat
  · rfl
  · exact saturated_engine ..

/-! ### Formats (R238 – R241, R243) -/

/-- A conversion leaves every element of SRCA in DST's format, and uses as many free values as it rounds at random. -/
theorem runConvert_ends (src dst : Nat) (ht : m.tensorStop c [m.tensor c w.srcA src] [m.tensor c w.dst dst] = none) :
    runConvert c w src dst m = ((m.made c ((m.start c).values (m.tensor c w.dst dst) (m.ups w)
      ((List.range (m.tensor c w.dst dst).count).map (valNth (m.course c).sram (m.tensor c w.srcA src))))).useFree
        (if w.rnd = 1 then (m.tensor c w.dst dst).count else 0), none) := by
  simp only [runConvert, tensorOp_ends c _ _ _ m ht]
  rfl

/-- What EXPAL makes: every block of DST at the exponent IMM[7:0]. -/
def Mod.realigned (m : Mod) (c : Nat) (w : MWord) : Made :=
  let d := m.tensor c w.dst w.fmt.toNat
  (List.range d.blocks).foldl (fun k j =>
    k.block d j (w.imm.toNat % 256) (fun i => m.ups w (32 * j + i))
      ((List.range (min 32 (d.count - 32 * j))).map fun i =>
        valNth (m.course c).sram (m.desc c w.srcA) (32 * j + i))) (m.start c)

theorem runExpal_ends (he : w.imm.toNat % 256 ≠ 255)
    (ht : m.tensorStop c [m.desc c w.srcA] [m.tensor c w.dst w.fmt.toNat] = none) :
    runExpal c w m = ((m.made c (m.realigned c w)).useFree
      (if w.rnd = 1 then (m.tensor c w.dst w.fmt.toNat).count else 0), none) := by
  simp only [runExpal, if_neg he, tensorOp_ends c _ _ _ m ht]
  rfl

/-- What EXPWR makes: the exponent of each block of DST from an element of SRCA. -/
def Mod.exponentsWritten (m : Mod) (c : Nat) (w : MWord) : Made :=
  let d := m.kbTensor c w.dst
  (List.range d.blocks).foldl (fun k n =>
    let e := exponentOf (intNth (m.course c).sram (m.tensor c w.srcA 4) n)
    { k with mem := memPut k.mem (d.expAddr + n) (BitVec.ofNat 8 e), exps := k.exps ++ [e] }) (m.start c)

theorem runExpwr_ends (ht : m.tensorStop c [m.tensor c w.srcA 4] [m.kbTensor c w.dst] = none) :
    runExpwr c w m = (m.made c (m.exponentsWritten c w), none) := by
  simp only [runExpwr, tensorOp_ends c _ _ _ m ht]
  rfl

/-- What PACK and UNPACK make: each mantissa of SRCA in DST's packing, a free one where it does not fit. -/
def Mod.packed (m : Mod) (c : Nat) (w : MWord) (src dst : Nat) : Made :=
  let d := m.tensor c w.dst dst
  (List.range d.count).foldl (fun k n =>
    let v := intNth (m.course c).sram (m.tensor c w.srcA src) n
    let v := if kbMin dst ≤ v ∧ v ≤ kbMax dst then v else Config.mortarOpen 9 [v, dst]
    { k with mem := putRaw k.mem d n (wrapInt 1 v) }) (m.start c)

theorem runPack_ends (src dst : Nat) (ht : m.tensorStop c [m.tensor c w.srcA src] [m.tensor c w.dst dst] = none) :
    runPack c w src dst m = (m.made c (m.packed c w src dst), none) := by
  simp only [runPack, tensorOp_ends c _ _ _ m ht]
  rfl

/-! ### Exchanges (R249, R256) -/

/-- The module once the course has come to an exchange. -/
def Mod.come (m : Mod) (c : Nat) : Mod :=
  m.setCourse c fun x => { x with wait := .exchange (m.arrivals (m.team c)).length }

theorem runExchange_ends (sends : Mod → Bool)
    (ht : m.tensorStop c (if sends m then [m.tensor c w.srcA w.fmt.toNat] else []) [m.desc c w.dst] = none) :
    runExchange c w sends m = (if ((m.come c).arrivals (m.team c)).length = (m.team c).length then (m.come c).exchanged (m.team c)
      else m.come c, none) := by
  simp only [runExchange, ht]
  rfl

/-- The module once the course has come to a barrier. -/
def Mod.atBarrier (m : Mod) (c : Nat) : Mod := m.setCourse c fun x => { x with wait := .barrier }

theorem runXbar_waits (h : ∃ x ∈ m.team c, ((m.atBarrier c).course x).wait ≠ .barrier) :
    runXbar c m = (m.atBarrier c, none) := by
  refine Prod.ext (if_neg fun all => ?_) rfl
  obtain ⟨x, hx, hw⟩ := h
  exact hw (eq_of_beq (List.all_eq_true.mp all x hx))

theorem runXbar_passes (h : ∀ x ∈ m.team c, ((m.atBarrier c).course x).wait = .barrier) :
    runXbar c m = ((m.team c).foldl (fun m x => (m.setCourse x fun y => { y with wait := .none }).passed 3 x)
      (m.atBarrier c), none) :=
  Prod.ext (if_pos (List.all_eq_true.mpr fun x hx => beq_iff_eq.mpr (h x hx))) rfl

end

/-- An exchange, issued with a legal encoding: its course waits, or every course of the client goes on. -/
theorem control_exchange (op c : Nat) (w : MWord) (sends : Mod → Bool) (s : State) (h : s.cur.executes 3 op c w = true)
    (ht : s.cur.tensorStop c (if sends s.cur then [s.cur.tensor c w.srcA w.fmt.toNat] else []) [s.cur.desc c w.dst] = none) :
    let m := s.cur.come c
    let team := s.cur.team c
    ((m.arrivals team).length ≠ team.length → Machine.control 3 op c w (runExchange c w sends) s = .next (s.placed c m)) ∧
      ((m.arrivals team).length = team.length →
        Machine.control 3 op c w (runExchange c w sends) s = .next (s.placed c (m.exchanged team))) := by
  intro m team
  have ends := control_ends 3 op c w _ s _ h (runExchange_ends s.cur c w sends ht)
  exact ⟨fun waits => by rw [ends, if_neg waits], fun goes => by rw [ends, if_pos goes]⟩

/-- A reduction leaves in DST what its function gives each element. -/
theorem instruct_reduce (op c : Nat) (w : MWord) (s : State) (f : Memory → Desc → Desc → Nat → Rat × Bool)
    (h : s.cur.executes 3 op c w = true) :
    let m := s.cur
    let a := m.tensor c w.srcA w.fmt.toNat
    let d := m.desc c w.dst
    m.tensorStop c (if w.acc then [a, d] else [a]) [d] = none →
      instruct 3 op c w (runReduce c w f) s =
        .next (s.after 3 c (m.made c ((m.start c).pairs d (f (m.course c).sram a d)))) := by
  intro m a d ht
  exact instruct_ends 3 op c w _ s _ h (tensorOp_ends c _ [d] (fun k => k.pairs d (f k.mem a d)) m ht)

/-- Settles O52: conversions and reductions write DST, an exchange waits for the last course of its client. -/
theorem formatAndReductionInstructionsComplete : Obligations.FormatAndReductionInstructionsComplete := by
  unfold Obligations.FormatAndReductionInstructionsComplete
  intro s c w m mem st a converts reduces own
  have convert (op : Nat) (run : Mod → Ran) (src dst : Nat) (hr : run m = runConvert c w src dst m)
      (h : m.executes 2 op c w = true) (ht : m.tensorStop c [m.tensor c w.srcA src] [m.tensor c w.dst dst] = none) :=
    instruct_ends 2 op c w run s _ h (hr.trans (runConvert_ends m c w src dst ht))
  refine ⟨⟨?qnt, ?reqnt, ?dqnt, ?cvtfi, ?cvtif, ?expal, ?exprd, ?expwr, ?pack, ?unpack⟩,
    ⟨?rsumr, ?rsumc, ?rmaxr, ?rminr, ?rargmax, ?rargmin, ?pscan⟩, ?xred, ?xredo, ?xbcast, ?xgath, ?xbar⟩
  case qnt => exact convert 0 _ own w.fmt.toNat rfl
  case reqnt => exact convert 1 _ own w.fmt.toNat rfl
  case dqnt => exact convert 3 _ own w.fmt.toNat rfl
  case cvtfi => exact convert 4 _ 3 4 rfl
  case cvtif => exact convert 5 _ 4 3 rfl
  case expal => exact fun h he ht => ⟨_, instruct_ends 2 2 c w _ s _ h (runExpal_ends m c w he ht), made_engine ..⟩
  case exprd =>
    exact (instruct_tensorOp 2 6 c w (runExprd c w) s [m.kbTensor c w.srcA] [m.tensor c w.dst 4] _ (by dsimp only [runExprd]) :)
  case expwr => exact fun h ht => ⟨_, instruct_ends 2 7 c w _ s _ h (runExpwr_ends m c w ht), made_engine ..⟩
  case pack => exact fun h ht => ⟨_, instruct_ends 2 8 c w _ s _ h (runPack_ends m c w _ _ ht), made_engine ..⟩
  case unpack => exact fun h ht => ⟨_, instruct_ends 2 9 c w _ s _ h (runPack_ends m c w _ _ ht), made_engine ..⟩
  case rsumr => exact instruct_reduce 0 c w s (rowSum w.acc)
  case rsumc => exact instruct_reduce 1 c w s (colSum w.acc)
  case rmaxr => exact instruct_reduce 2 c w s (rowBest above)
  case rminr => exact instruct_reduce 3 c w s (rowBest below)
  case rargmax => exact instruct_reduce 4 c w s (rowArg above)
  case rargmin => exact instruct_reduce 5 c w s (rowArg below)
  case pscan => exact instruct_reduce 6 c w s prefixSum
  case xred => exact control_exchange 7 c w always s
  case xredo => exact control_exchange 8 c w always s
  case xbcast =>
    intro h ht
    refine control_exchange 9 c w (isSource c w) s h ?_
    simpa only [isSource, beq_iff_eq] using ht
  case xgath => exact control_exchange 10 c w always s
  case xbar =>
    intro h
    exact ⟨fun waits => control_ends 3 11 c w _ s _ h (runXbar_waits m c waits),
      fun passes => control_ends 3 11 c w _ s _ h (runXbar_passes m c passes)⟩

end Sys2Proof.Machine
end

section
/-! PROOFS. The job commands (R34, R274, R276, R283, R284): each one's own checks passed, and what the boundary does of those that wait
for it. -/

namespace Sys2Proof.Machine

/-! ### JOB_LOAD (R274) -/

section
variable (r : Req) (m : Mod)

/-- The payload of a JOB_LOAD is well formed, and the pool has room for its segment. -/
structure LoadFits : Prop where
  header : 16 ≤ r.payload.length
  flags : field r.payload 6 2 ≤ 1
  length : field r.payload 8 4 ≤ 65520
  reserved : zeros r.payload 12 4 = true
  size : sized r.payload (16 + field r.payload 8 4) = true
  room : field r.payload 8 4 ≤ m.poolFree

/-- The state of a package after a segment: the last one sends it to its verification. -/
def segmentState (payload : List Byte) : JState := if field payload 6 2 = 1 then .verifying else .loading

variable {r m}

/-- The first segment of a package takes the lowest free slot. -/
theorem runJobLoad_first (h : LoadFits r m) (slot : Nat) (hid : wordAt r.payload 0 = 0) (hseg : field r.payload 4 2 = 0)
    (hs : ((List.range 8).find? fun k => (m.job k).isNone) = some slot) :
    let id : Word := BitVec.ofNat 32 ((m.mortar.loadCount + 1) * 16 + slot)
    runJobLoad r m = answer r stOK (le 4 id.toNat) { m with mortar := { m.mortar with
      loadCount := m.mortar.loadCount + 1
      jobs := m.mortar.jobs ++ [(slot, { newJob id (slice r.payload 16 (field r.payload 8 4)) with
        state := segmentState r.payload })] } } := by
  simp only [runJobLoad, if_neg (Nat.not_lt.mpr h.header), if_neg (Nat.not_le.mpr (Nat.lt_succ_of_le h.flags)),
    if_neg (Nat.not_lt.mpr h.length), h.reserved, h.size, hid, hseg, hs, if_neg (Nat.not_lt.mpr h.room), Bool.not_true,
    Bool.false_eq_true, ne_eq, not_true_eq_false, ↓reduceIte]
  rfl

/-- A later segment is added to its package. -/
theorem runJobLoad_next (h : LoadFits r m) (slot : Nat) (j : Job) (hid : wordAt r.payload 0 ≠ 0)
    (hj : m.slotOf (wordAt r.payload 0) = some (slot, j)) (hs : j.state = .loading) (hseg : field r.payload 4 2 = j.nextSeg)
    (hlen : j.package.length + field r.payload 8 4 ≤ 268435456) :
    runJobLoad r m = answer r stOK (le 4 (wordAt r.payload 0).toNat) (m.setJob slot fun j => { j with
      package := j.package ++ slice r.payload 16 (field r.payload 8 4), nextSeg := j.nextSeg + 1
      state := segmentState r.payload }) := by
  have room : ¬ (268435456 < j.package.length + field r.payload 8 4 ∨ m.poolFree < field r.payload 8 4) :=
    not_or.mpr ⟨Nat.not_lt.mpr hlen, Nat.not_lt.mpr h.room⟩
  simp only [runJobLoad, if_neg (Nat.not_lt.mpr h.header), if_neg (Nat.not_le.mpr (Nat.lt_succ_of_le h.flags)),
    if_neg (Nat.not_lt.mpr h.length), h.reserved, h.size, if_neg hid, hj, hs, hseg, if_neg room, Bool.not_true,
    Bool.false_eq_true, ne_eq, not_true_eq_false, or_self, ↓reduceIte]
  rfl

end

section
variable (r : Req) (m : Mod) (slot : Nat) (j : Job)

/-! ### JOB_START (R276) -/

theorem runJobStart_waits (h : sized r.payload 12 = true) (hz : zeros r.payload 6 2 = true)
    (hj : m.jobsNext.slotOf (wordAt r.payload 0) = some (slot, j)) (hs : j.state = .loaded ∨ j.state = .ended)
    (hlo : field j.package 20 1 ≤ (bitsSet 16 (field r.payload 4 2)).length)
    (hhi : (bitsSet 16 (field r.payload 4 2)).length ≤ field j.package 21 1)
    (hmib : field j.package 32 4 ≤ field r.payload 8 4)
    (hc : ∀ c ∈ bitsSet 16 (field r.payload 4 2), m.variant.courses.getLsbD c = true ∧ m.jobsNext.grantable c = true)
    (hord : ¬ (field j.package 22 1 = 1 ∧ m.mortar.open_ = true))
    (hopen : ¬ (m.mortar.open_ = false ∧ bits (field j.package 24 2) 5 3 ≠ 0))
    (hpl : m.jobsNext.leavesPlanner (bitsSet 16 (field r.payload 4 2)) = true)
    (hroom : field r.payload 8 4 * 1048576 ≤ m.jobsNext.poolFree) :
    runJobStart r m = pend r { m with deferred := m.deferred ++
      [{ eff := .jobStart slot r.w (bitsSet 16 (field r.payload 4 2)) (field r.payload 8 4), reply := none, pkt := none }] } := by
  have startable : j.state ≠ .verifying ∧ j.state ≠ .rejected ∧ ¬ (j.state ≠ .loaded ∧ j.state ≠ .ended) := by
    obtain hs | hs := hs <;> simp [hs]
  obtain ⟨verified, passed, idle⟩ := startable
  have count : ¬ ((bitsSet 16 (field r.payload 4 2)).length < field j.package 20 1 ∨
      field j.package 21 1 < (bitsSet 16 (field r.payload 4 2)).length) := not_or.mpr ⟨Nat.not_lt.mpr hlo, Nat.not_lt.mpr hhi⟩
  have fitted : ((bitsSet 16 (field r.payload 4 2)).all fun c => m.variant.courses.getLsbD c) = true :=
    List.all_eq_true.mpr fun c hm => (hc c hm).1
  have granted : (bitsSet 16 (field r.payload 4 2)).all m.jobsNext.grantable = true :=
    List.all_eq_true.mpr fun c hm => (hc c hm).2
  have profile : ¬ ((field j.package 22 1 = 1 ∧ m.mortar.open_ = true) ∨
      ((!m.mortar.open_) = true ∧ bits (field j.package 24 2) 5 3 ≠ 0)) := by
    rw [Bool.not_eq_true']
    exact not_or.mpr ⟨hord, hopen⟩
  simp only [runJobStart, h, hz, hj, if_neg verified, if_neg passed, if_neg idle, if_neg count, if_neg (Nat.not_lt.mpr hmib),
    fitted, granted, if_neg profile, hpl, decide_eq_false (Nat.not_lt.mpr hroom), Bool.not_true, Bool.or_self,
    Bool.false_eq_true, ↓reduceIte]

/-- At the boundary a start grants its courses and its region. -/
theorem applyStart_grants (w : Waiter) (cs : List Nat) (mib : Nat) (hj : m.job slot = some j)
    (hc : ∀ c ∈ cs, m.grantable c = true) :
    m.applyStart slot w cs mib =
      (cs.foldl (fun m c => (m.setCourse c fun k => { k.clean with pc := field j.package 44 4 }).wake c) m).setJob slot
        fun x => { x with
          state := .running, courses := cs, lpddrMib := mib, ticks := 0, mismatches := 0, flags := 0, seen := 0
          mem := memWrite [] 0 (slice j.package (256 + 8 * j.codeWords) (min (field j.package 12 4) (mib * 1048576)))
          waiter := some w, reclaimed := false, stopped := false } := by
  simp only [Mod.applyStart, hj, List.all_eq_true.mpr hc, Bool.not_true, Bool.false_eq_true, ↓reduceIte]

/-! ### JOB_PAUSE and JOB_RESUME (R283) -/

theorem runJobPause_begins (h : sized r.payload 4 = true) (hj : m.slotOf (wordAt r.payload 0) = some (slot, j))
    (hs : j.state = .running) (hroom : j.courses.length * saveBytes ≤ m.poolFree + j.saved.length * saveBytes) :
    runJobPause r m = answer r stOK (le 4 (j.saveId + 1).toNat) (m.beginPause slot) := by
  simp only [runJobPause, h, hj, hs, if_neg (Nat.not_lt.mpr hroom), Bool.not_true, Bool.false_eq_true, ne_eq,
    not_true_eq_false, ↓reduceIte]

theorem runJobResume_later (h : sized r.payload 8 = true) (hj : m.jobsNext.slotOf (wordAt r.payload 0) = some (slot, j))
    (hs : j.state = .paused) (hid : wordAt r.payload 4 = j.saveId) (hp : j.savedProf = m.mortar.open_)
    (hmc : j.savedMc = m.sec.ucode) (hc : (m.jobsNext.resumeCourses j).isSome = true) :
    runJobResume r m = later r (.jobResume slot) m := by
  have free : (m.jobsNext.resumeCourses j).isNone = false := by rw [← Option.not_isSome, hc]; rfl
  simp only [runJobResume, h, hj, hs, hid, hp, hmc, free, Bool.not_true, Bool.false_eq_true, ne_eq, not_true_eq_false,
    or_self, ↓reduceIte]

/-- At the boundary a resume restores what was saved. -/
theorem applyResume_restores (cs : List Nat) (hj : m.job slot = some j) (hc : m.resumeCourses j = some cs) :
    m.applyResume slot = (m.restore cs j.saved).setJob slot fun x =>
      { x with state := .running, courses := cs, reclaimed := false, stopped := false } := by
  simp only [Mod.applyResume, hj, hc]

/-! ### JOB_STOP (R284) -/

theorem runJobStop_later (h : sized r.payload 4 = true) (hj : m.jobsNext.slotOf (wordAt r.payload 0) = some (slot, j))
    (hl : j.state ≠ .loading) (hv : j.state ≠ .verifying) : runJobStop r m = later r (.jobStop slot) m := by
  simp only [runJobStop, h, hj, hl, hv, Bool.not_true, Bool.false_eq_true, or_self, ↓reduceIte]

theorem applyStop_ends (hj : m.job slot = some j) (hg : j.granted = true) : m.applyStop slot = m.endJob slot 1 0 := by
  simp only [Mod.applyStop, hj, hg, ↓reduceIte]

theorem applyStop_unloads (hj : m.job slot = some j) (hg : j.granted = false) :
    m.applyStop slot = { m with mortar := { m.mortar with jobs := m.mortar.jobs.filter fun q => q.1 != slot } } := by
  simp only [Mod.applyStop, hj, hg, Bool.false_eq_true, ↓reduceIte]

end

/-- Settles O26: an admitted packet runs its command's own step, whose checks the hypotheses pass; the effects that wait are those of
the boundary. -/
theorem jobCommandsComplete : Obligations.JobCommandsComplete := by
  unfold Obligations.JobCommandsComplete
  intro s p pl m0 id
  refine ⟨?load, ?start, ?starts, ?pause, ?resume, ?resumes, ?stop, ?stops⟩
  case load =>
    intro len bs ha hl hf hn hz h hroom
    have fits : LoadFits (packetReq p (opRow 0x50)) (m0 0x50) := ⟨hl, hf, hn, hz, h, hroom⟩
    exact ⟨fun slot hid hseg hs => commandM_runs 0x50 p _ _ s ha (runJobLoad_first fits slot hid hseg hs),
      fun slot j hid hj hs hseg hlen => commandM_runs 0x50 p _ _ s ha (runJobLoad_next fits slot j hid hj hs hseg hlen)⟩
  case start =>
    intro slot j ha h hz v hj hs cs mib hlo hhi hmib hc hord hopen hpl hroom
    exact commandM_runs 0x51 p _ _ s ha
      (runJobStart_waits _ _ slot j h hz hj hs hlo hhi hmib hc hord hopen hpl hroom)
  case starts => exact fun m slot j w cs mib hj hc => applyStart_grants m slot j w cs mib hj hc
  case pause =>
    intro slot j ha h hj hs hroom
    exact commandM_runs 0x52 p _ _ s ha (runJobPause_begins _ _ slot j h hj hs hroom)
  case resume =>
    intro slot j ha h hj hs hid hp hmc hc
    exact commandM_runs 0x53 p _ _ s ha (runJobResume_later _ _ slot j h hj hs hid hp hmc hc)
  case resumes => exact fun m slot j cs hj hc => applyResume_restores m slot j cs hj hc
  case stop =>
    intro slot j ha h hj hl hv
    exact commandM_runs 0x54 p _ _ s ha (runJobStop_later _ _ slot j h hj hl hv)
  case stops => exact fun m slot j hj => ⟨applyStop_ends m slot j hj, applyStop_unloads m slot j hj⟩

end Sys2Proof.Machine
end

section
/-! PROOFS. Solves and the determinism profile (R257, R264, R268, R270); feed-forward, the thermal model and the errors of courses
(R188, R254, R261 – R263). -/

namespace Sys2Proof.Machine

section
variable (m : Mod)

/-! ### Solves (R264, R268, R270) -/

theorem solveDone_unmet (prefer : List Nat) (v : Solve) (d : Nat) :
    solveDone (.unmet d) prefer v m = (m.solveOver v).final v.waiter eCAPACITY (detail 0 noField d) := rfl

theorem solveDone_again (prefer : List Nat) (v : Solve) (h : v.rerun = false) : solveDone .checkFail prefer v m =
    { m with mortar := { m.mortar with solving := some { v with rerun := true } } } := by
  simp only [solveDone, Mod.solveFailed, h, Bool.false_eq_true, ↓reduceIte]

theorem solveDone_failed (prefer : List Nat) (v : Solve) (h : v.rerun = true) :
    solveDone .checkFail prefer v m = (m.solveOver v).final v.waiter eINTEGRITY plain := by
  simp only [solveDone, Mod.solveFailed, h, ↓reduceIte]

theorem solveDone_runs (s : State) (result : SolveResult) (prefer : List Nat) (v : Solve) (hup : s.cur.engineUp = true)
    (hv : s.cur.mortar.solving = some v) :
    execSolveDone result prefer s = .next { s with cur := solveDone result prefer v s.cur } := by
  rw [execSolveDone, happens_holds _ _ s (by rw [hup, hv]; rfl), hv]

/-! ### The determinism profile (R257) -/

theorem detMay_of (hp : m.mortar.detPend = true) (hj : ∀ p ∈ m.mortar.jobs, p.2.state ≠ .running ∧ p.2.state ≠ .pausing) :
    m.detMay = true := by
  simpa [Mod.detMay, hp] using hj

/-! ### The thermal model (R261 – R263) -/

theorem kfVal_clamps : kfVal (kfOf 4).1 = 4 ∧ kfVal (kfOf (-4)).1 = -4 := by decide +kernel

/-- A correction is within ±4 mW (R261). -/
theorem clampCorrection_within (w : BitVec 16) : -4 ≤ kfVal (clampCorrection w).1 ∧ kfVal (clampCorrection w).1 ≤ 4 := by
  unfold clampCorrection
  split
  · rw [kfVal_clamps.1]; norm_num
  · next above =>
    split
    · rw [kfVal_clamps.2]; norm_num
    · next below => exact ⟨not_lt.mp below, not_lt.mp above⟩

variable (x y : List (Nat × BitVec 16))

theorem thermalSlice_disagrees (h0 : m.mortar.mode = 0) (h : x ≠ y) : thermalSlice x y m =
    ({ m with mortar := { m.mortar with compareFails := m.mortar.compareFails + 1 } }).ffMiss := if_pos ⟨h0, h⟩

/-- What Trowel has after a slice that counts. -/
theorem thermalSlice_agrees (h : m.mortar.mode = 1 ∨ x = y) : (thermalSlice x y m).trowel = { m.trowel with
    pred := x.map fun p => (p.1, (clampCorrection p.2).1), ffFor := m.ffTick, ffMisses := 0, ffGood := m.trowel.ffGood + 1
    ffState := if m.trowel.ffState = 1 then 0 else m.trowel.ffState } := by
  have counts : ¬ (m.mortar.mode = 0 ∧ x ≠ y) := by
    rintro ⟨h0, hne⟩
    obtain h1 | he := h
    · omega
    · exact hne he
  rw [thermalSlice, if_neg counts]
  dsimp only
  split <;> (simp only [List.map_map]; rfl)

theorem fromCold_mortar (ws : List Nat) : (m.fromCold ws).mortar = m.mortar := by
  have cold := foldl_keeps Mod.mortar _ (fun m w => setLoop_mortar m w fun l => { l with wstate := .cold }) ws m
  refine Eq.trans (foldl_keeps Mod.mortar _ (fun m w => ?_) ws _) cold
  exact congrArg (fun f : Trowel → Mod => (f m.trowel).mortar) (foldl_driveTo_butWindows m (m.returnTarget w) [w])

theorem wake_mortar (code : Nat) : (m.wake code).mortar = m.mortar := by
  unfold Mod.wake
  split
  · rfl
  · split
    · rfl
    · rfl
    · rfl
    · dsimp only
      split
      · exact fromCold_mortar ..
      · rfl

theorem mem_insertSorted (c : Nat) (l : List Nat) : c ∈ insertSorted c l := by
  induction l with
  | nil => exact List.mem_singleton_self c
  | cons x l ih =>
    unfold insertSorted
    split
    · exact List.mem_cons_self
    · exact List.mem_cons_of_mem x ih

/-- A partner that no job holds is reserved again. -/
theorem partnerReturn_reserves (k : Nat) (hk : m.partner = some k) (hj : ∀ p ∈ m.mortar.jobs, k ∉ p.2.courses) :
    k ∈ (partnerReturn m).mortar.reserved ∧ (partnerReturn m).mortar.reclaim = none := by
  have free : (m.mortar.jobs.find? fun p => p.2.courses.contains k) = none :=
    List.find?_eq_none.mpr fun p hp hc => hj p hp (List.contains_iff_mem.mp hc)
  simp only [partnerReturn, hk, free, wake_mortar, and_true]
  exact mem_insertSorted k _

/-! ### Errors of a course (R254) -/

/-- What the errors of a course are reckoned from: the counts of the module, the courses fitted, the time, and the course's own. -/
def Mod.errorView (m : Mod) (c : Nat) : Nat × Nat × Nat × Nat × List (Nat × Nat) × Option Nat :=
  (m.mortar.mismatches, m.mortar.sramUnc, m.mortar.courses.length, m.tick.now, (m.course c).errors, (m.course c).failing)

/-- An update that keeps `g` of an element keeps `g` of every element. -/
theorem lget_lmod_keeps {α β : Type} (g : α → β) (d : α) (l : List α) (k j : Nat) (f : α → α) (h : ∀ x, g (f x) = g x) :
    g (lget d (lmod l k f) j) = g (lget d l j) := by
  induction l generalizing k j with
  | nil => rfl
  | cons x l ih =>
    cases k with
    | zero =>
      cases j with
      | zero => exact h x
      | succ j => rfl
    | succ k =>
      cases j with
      | zero => rfl
      | succ j => exact ih k j

variable (c : Nat)

theorem errorView_of {n : Mod} (hm : n.mortar = m.mortar) (ht : n.tick = m.tick) : n.errorView c = m.errorView c := by
  simp only [Mod.errorView, Mod.course, hm, ht]

theorem setCourse_errorView (x : Nat) (f : Course → Course)
    (h : ∀ k, ((f k).errors, (f k).failing) = (k.errors, k.failing)) : (m.setCourse x f).errorView c = m.errorView c := by
  have own := lget_lmod_keeps (fun k : Course => (k.errors, k.failing)) .init m.mortar.courses x c f h
  obtain ⟨errors, failing⟩ := Prod.mk.inj own
  simp only [Mod.errorView, Mod.course, setCourse_tick, setCourse_courses_length]
  simp only [Mod.setCourse, errors, failing]

theorem setJob_errorView (k : Nat) (f : Job → Job) : (m.setJob k f).errorView c = m.errorView c := rfl

theorem cleanCourses_errorView (l : List Nat) : (m.cleanCourses l).errorView c = m.errorView c :=
  foldl_keeps (fun m : Mod => m.errorView c) _ (fun m x => setCourse_errorView m c x Course.clean fun _ => rfl) l m

theorem jobFlag_errorView (x : Nat) (b : BitVec 3) : (m.jobFlag x b).errorView c = m.errorView c := by
  unfold Mod.jobFlag
  split <;> rfl

/-- The end of a job leaves what its courses' errors are reckoned from. -/
theorem endJob_errorView (k reason code : Nat) : (m.endJob k reason code).errorView c = m.errorView c := by
  cases hj : m.job k with
  | none => rw [Mod.endJob, hj]
  | some j =>
    have tick : (m.endJob k reason code).tick = m.tick := congrArg (·.2.1) (endJob_bootCore m k reason code)
    have ended : ((m.cleanCourses j.courses).setJob k (·.ends reason code)).tick = m.tick :=
      foldl_keeps Mod.tick _ (fun m x => setCourse_tick m x Course.clean) j.courses m
    rw [errorView_of _ c (endJob_keeps m k reason code j hj).1 (tick.trans ended.symm), setJob_errorView,
      cleanCourses_errorView]

theorem solveFailed_errorView (v : Solve) : (m.solveFailed v).errorView c = m.errorView c := by
  unfold Mod.solveFailed
  split
  · obtain ⟨l, h, t, d, e⟩ := final_changes (m.solveOver v) v.waiter eINTEGRITY plain
    rw [e]
    rfl
  · rfl

theorem clientErrs_errorView (x kind : Nat) : (m.clientErrs x kind).errorView c = m.errorView c := by
  unfold Mod.clientErrs
  split
  · exact endJob_errorView ..
  · exact solveFailed_errorView ..
  · rfl

/-- The third error of a kind within a second marks its course. -/
theorem courseErrors_failing (kind : Nat) (hc : c < m.mortar.courses.length)
    (h : 2 ≤ ((m.course c).errors.filter fun x => x.1 == kind && decide (m.tick.now < x.2 + 100000)).length) :
    (((m.courseErrors c kind 1).course c).failing).isSome = true := by
  rw [Mod.courseErrors, course_setCourse_same m c _ hc]
  dsimp only
  split
  · assumption
  · rw [if_pos]
    · rfl
    · simp only [List.filter_append, List.filter_filter, List.length_append, List.replicate_one]
      have counted : ([(kind, m.tick.now)].filter fun x => x.1 == kind).length = 1 := by simp
      omega

/-- The module once an error of a course is counted. -/
def Mod.errorCounted (kind : Nat) : Mod :=
  if kind = 0 then m.mismatched c 1 else { m with mortar := { m.mortar with sramUnc := m.mortar.sramUnc + 1 } }

theorem errorCounted_errorView (kind : Nat) : (m.errorCounted c kind).errorView c =
    (m.mortar.mismatches + (if kind = 0 then 1 else 0), m.mortar.sramUnc + (if kind = 0 then 0 else 1), (m.errorView c).2.2) := by
  unfold Mod.errorCounted
  split
  · rw [Mod.mismatched, if_neg Nat.one_ne_zero]
    dsimp only
    split <;> exact jobFlag_errorView ..
  · rfl

/-- Before the error is added to its course's own. -/
theorem clientErrs_counted_errorView (kind : Nat) : ((m.errorCounted c kind).clientErrs c kind).errorView c =
    (m.mortar.mismatches + (if kind = 0 then 1 else 0), m.mortar.sramUnc + (if kind = 0 then 0 else 1), (m.errorView c).2.2) :=
  (clientErrs_errorView ..).trans (errorCounted_errorView ..)

theorem courseFail_eq (kind : Nat) :
    courseFail c kind m = ((m.errorCounted c kind).clientErrs c kind).courseErrors c kind 1 := rfl

/-- An EXACT mismatch is counted. -/
theorem courseFail_mismatches : (courseFail c 0 m).mortar.mismatches = m.mortar.mismatches + 1 := by
  obtain ⟨mismatches, -⟩ := Prod.mk.inj (clientErrs_counted_errorView m c 0)
  exact mismatches

/-- An uncorrectable SRAM error is counted. -/
theorem courseFail_sramUnc : (courseFail c 1 m).mortar.sramUnc = m.mortar.sramUnc + 1 := by
  obtain ⟨-, rest⟩ := Prod.mk.inj (clientErrs_counted_errorView m c 1)
  obtain ⟨sramUnc, -⟩ := Prod.mk.inj rest
  exact sramUnc

theorem courseFail_failing (kind : Nat) (hc : c < m.mortar.courses.length)
    (h : 2 ≤ ((m.course c).errors.filter fun x => x.1 == kind && decide (m.tick.now < x.2 + 100000)).length) :
    (((courseFail c kind m).course c).failing).isSome = true := by
  have view := clientErrs_counted_errorView m c kind
  simp only [Mod.errorView, Prod.mk.injEq] at view
  obtain ⟨-, -, fitted, now, errors, -⟩ := view
  rw [courseFail_eq]
  exact courseErrors_failing _ c kind (by rwa [fitted]) (by rwa [now, errors])

/-! ### A course leaves the enabled set (R254) -/

/-- The module once the job on a course has ended. -/
def Mod.jobEnded : Mod :=
  match m.courseJob c with
  | some slot => m.endJob slot 8 0
  | none => m

theorem jobEnded_errorView : (m.jobEnded c).errorView c = m.errorView c := by
  unfold Mod.jobEnded
  split
  · exact endJob_errorView ..
  · rfl

/-- A course that has left the enabled set. -/
def Course.out (k : Course) : Course := { k.clean with failed := true, errors := [], failing := none }

theorem leavesSet_mortar (reason : Nat) : (leavesSet c reason m).mortar = (((m.jobEnded c).setCourse c Course.out).setReserved
    ((m.jobEnded c).mortar.reserved.filter fun x => x != c)).mortar := record_mortar ..

theorem leavesSet_failed (reason : Nat) (hc : c < m.mortar.courses.length) :
    ((leavesSet c reason m).course c).failed = true := by
  have view := jobEnded_errorView m c
  simp only [Mod.errorView, Prod.mk.injEq] at view
  obtain ⟨-, -, fitted, -⟩ := view
  have own := course_setCourse_same (m.jobEnded c) c Course.out (by rwa [fitted])
  rw [Mod.course, leavesSet_mortar]
  exact congrArg Course.failed own

theorem leavesSet_notReserved (reason : Nat) : c ∉ (leavesSet c reason m).mortar.reserved := by
  rw [leavesSet_mortar]
  intro h
  simpa using (List.mem_filter.mp h).2

end

/-- Settles O44: each row is an event whose condition the hypotheses decide; its lemma says what it leaves. -/
theorem solverAndThermalRowsComplete : Obligations.SolverAndThermalRowsComplete := by
  unfold Obligations.SolverAndThermalRowsComplete
  dsimp only [exec, execSolveStart, execDetProfileChange, execThermalModelSlice, execFfMiss, execFfLost, execFfRestore,
    execCourseFail, execThermalPartnerReturn]
  refine ⟨fun s prefer result v rest => ⟨fun hn hv hr => ?start, fun hup hv => ⟨?done, fun d => ?unmet, fun h => ?again,
      fun h => ?failed⟩, fun hb hp hj => ?profile⟩,
    fun s x y c reason => ⟨fun ho hw hm hr hd => ⟨fun h0 hne => ?disagree, fun h => ?agree⟩, clampCorrection_within,
      fun hr hw => ⟨fun hs hf => ?miss, fun h4 hst => ?lost, fun h10 hst => ?restore⟩, fun ht he hr hc => ?error,
      fun r hc => ⟨leavesSet_failed s.cur c r hc, leavesSet_notReserved s.cur c r⟩, fun k hm hk hj => ?partner⟩⟩
  case start =>
    rw [happens_holds _ _ s (by simp [hn, hv, hr])]
    simp only [hv]
  case done => exact solveDone_runs s result prefer v hup hv
  case unmet => rw [solveDone_runs s _ prefer v hup hv, solveDone_unmet]
  case again => rw [solveDone_runs s _ prefer v hup hv, solveDone_again s.cur prefer v h]
  case failed => rw [solveDone_runs s _ prefer v hup hv, solveDone_failed s.cur prefer v h]
  case profile => exact atEdge_holds _ _ s hb (detMay_of s.cur hp hj)
  case disagree =>
    refine ⟨_, happens_holds _ _ s ?_, ?_⟩
    · simp [ho, hw, hm, hr, hd]
    · rw [thermalSlice_disagrees s.cur x y h0 hne]
      exact ⟨rfl, rfl, rfl⟩
  case agree =>
    refine ⟨_, happens_holds _ _ s ?_, ?_⟩
    · simp [ho, hw, hm, hr, hd]
    · rw [thermalSlice_agrees s.cur x y h]
      exact ⟨rfl, rfl, rfl⟩
  case miss =>
    have late : s.cur.ffDue = true := by simp [Mod.ffDue, hr, hw, hf]
    exact ⟨_, happens_holds _ _ s (by simp [hs, late]), rfl, rfl, rfl, rfl⟩
  case lost => exact happens_holds _ _ s (by simp [hr, hw, h4, hst])
  case restore => exact happens_holds _ _ s (by simp [hr, hw, h10, hst])
  case error =>
    refine ⟨_, happens_holds _ _ s (by simp [ht, he, hr]), ?_, ?_, courseFail_failing s.cur c reason hc⟩
    · rintro rfl
      exact courseFail_mismatches s.cur c
    · rintro rfl
      exact courseFail_sramUnc s.cur c
  case partner => exact ⟨_, happens_holds _ _ s hm, partnerReturn_reserves s.cur k hk hj⟩

end Sys2Proof.Machine
end

section
/-! PROOFS. Lasers (R334 – R338), loss of signal, shutters and probing pulses (R341 – R345): what each row leaves of the lasers, of
its port's shutter and of its neighbour record. -/

namespace Sys2Proof.Machine

section
variable (m : Mod)

/-! ### Reads of a laser -/

theorem laser_setLaser (k j : Nat) (f : Laser → Laser) :
    (m.setLaser k f).laser j = if k = j then f (m.laser k) else m.laser j := aget_aput ..

@[simp] theorem laser_setLaser_same (k : Nat) (f : Laser → Laser) : (m.setLaser k f).laser k = f (m.laser k) :=
  aget_amod_same ..

theorem laser_setLaser_other {k j : Nat} (f : Laser → Laser) (h : k ≠ j) : (m.setLaser k f).laser j = m.laser j :=
  (laser_setLaser m k j f).trans (if_neg h)

/-- What an update keeps of a laser, it keeps of every laser. -/
theorem setLaser_keeps {α : Type} (g : Laser → α) (k j : Nat) (f : Laser → Laser) (h : ∀ l, g (f l) = g l) :
    g ((m.setLaser k f).laser j) = g (m.laser j) := by
  rw [laser_setLaser]
  split
  next e => rw [h, e]
  next => rfl

theorem laserRecord_changes (k partner event : Nat) : ∃ r, m.laserRecord k partner event = { m with recs := r } :=
  record_changes ..

@[simp] theorem laserRecord_laser (k partner event j : Nat) : (m.laserRecord k partner event).laser j = m.laser j := by
  obtain ⟨r, e⟩ := laserRecord_changes m k partner event
  rw [e]
  rfl

@[simp] theorem laserRecord_trowel (k partner event : Nat) : (m.laserRecord k partner event).trowel = m.trowel := by
  obtain ⟨r, e⟩ := laserRecord_changes m k partner event
  rw [e]

@[simp] theorem laserRecord_engine (k partner event : Nat) : (m.laserRecord k partner event).engine = m.engine :=
  record_engine ..

/-! ### Spares -/

/-- A READY spare is another laser than the one that it stands by for. -/
theorem readySpare_ne {k x : Nat} (h : m.readySpare k = some x) : x ≠ k := by
  obtain ⟨s, -, hs⟩ := Option.bind_eq_some_iff.mp h
  split at hs
  next ready => exact Option.some.inj hs ▸ ready.2
  next => cases hs

section
variable {m} {f : Laser → Laser} (hr : ∀ l, (f l).role = l.role) (hp : ∀ l, (f l).partner = l.partner) (k j : Nat)

include hp in
theorem setLaser_laserHome : (m.setLaser k f).laserHome j = m.laserHome j := by
  simp only [Mod.laserHome, setLaser_keeps m Laser.partner k _ f hp]

include hr hp in
/-- Which spare is READY depends on the roles and partners of the lasers. -/
theorem setLaser_readySpare : (m.setLaser k f).readySpare j = m.readySpare j := by
  simp only [Mod.readySpare, Mod.spareOf, setLaser_variant, setLaser_keeps m Laser.role k _ f hr,
    setLaser_keeps m Laser.partner k _ f hp]

end

/-! ### Handover (R334, R338) -/

theorem handOver_osc {k x : Nat} (h : m.readySpare k = some x) (hk : k < 20) :
    handOver k m = m.setLaser k fun l => { l with switchAt := some (m.tick.now + 1) } := by
  simp only [handOver, h, if_pos hk]

theorem handOver_probe {k x : Nat} (h : m.readySpare k = some x) (hk : 20 ≤ k) :
    handOver k m = ((m.laserRecord k x 3).setLaser k fun l => { l with role := 3 }).setLaser x fun l =>
      { l with role := 0, partner := m.laserHome k } := by
  simp only [handOver, h, if_neg (Nat.not_lt.mpr hk)]

/-- The switch of a working laser's READY spare is set. -/
theorem setSwitch_sets {k x : Nat} (h : m.readySpare k = some x) (h0 : (m.laser k).role = 0) : m.setSwitch k =
    ((m.setLaser k fun l => { l with switchAt := none }).setLaser k fun l =>
      { l with role := 2, inPlace := m.tick.now + 2 }).setLaser x fun l =>
        { l with role := 2, partner := m.laserHome k, inPlace := m.tick.now + 2 } := by
  simp only [Mod.setSwitch, setLaser_readySpare, setLaser_laserHome, implies_true, setLaser_tick, laser_setLaser_same, h, h0]

/-- The switch set, the laser and its spare are both HANDOVER. -/
theorem setSwitch_handover {k x : Nat} (h : m.readySpare k = some x) (h0 : (m.laser k).role = 0) :
    ((m.setSwitch k).laser k).role = 2 ∧ ((m.setSwitch k).laser x).role = 2 ∧
      ((m.setSwitch k).laser x).partner = m.laserHome k := by
  rw [setSwitch_sets m h h0, laser_setLaser_other _ _ (readySpare_ne m h)]
  simp only [laser_setLaser_same, and_self]

/-! ### Failure (R335, R336, R338) -/

/-- A laser that fails is FAILED. A spare that was taking over gives its place back; else another laser takes the place of the one
that failed, or none does. -/
theorem failOver_cases (k : Nat) :
    (16 ≤ k ∧ failOver k m = ((m.laserRecord k (m.laserHome k) 1).setLaser k fun l =>
      { l with role := 4, partner := 0 }).setLaser (m.laserHome k) fun l => { l with role := 0 }) ∨
    (∃ s, s ≠ k ∧ failOver k m = ((m.laserRecord k s 1).setLaser k fun l => { l with role := 4 }).setLaser s fun l =>
      { l with role := 0, partner := m.laserHome k }) ∨
    failOver k m = (m.laserRecord k 0xFF 2).setLaser k fun l => { l with role := 4 } := by
  unfold failOver
  dsimp only
  split
  next back =>
    split at back
    next spare =>
      obtain rfl := Option.some.inj back
      exact .inl ⟨spare.1, rfl⟩
    next => cases back
  next s _ taker =>
    refine .inr (.inl ⟨s, ?_, rfl⟩)
    split at taker
    next y found =>
      obtain ⟨p, hp, rfl⟩ := Option.map_eq_some_iff.mp found
      have other := List.find?_some hp
      simp only [Bool.and_eq_true, bne_iff_ne] at other
      exact Option.some.inj taker ▸ other.1.1.1
    next => exact readySpare_ne m taker
  next => exact .inr (.inr rfl)

/-- A failover leaves the loops and the commit engine. -/
theorem failOver_keeps (k : Nat) : (failOver k m).trowel = m.trowel ∧ (failOver k m).engine = m.engine := by
  obtain ⟨-, e⟩ | ⟨s, -, e⟩ | e := failOver_cases m k <;> simp [e]

theorem failOver_failed {k : Nat} (hk : k < 20) (h : k < 16 ∨ (m.laser k).partner ≠ k) :
    ((failOver k m).laser k).role = 4 := by
  obtain ⟨h16, e⟩ | ⟨s, hs, e⟩ | e := failOver_cases m k
  · have home : m.laserHome k = (m.laser k).partner := if_pos (.inr ⟨h16, hk⟩)
    have other : m.laserHome k ≠ k := home ▸ h.resolve_left (Nat.not_lt.mpr h16)
    rw [e, laser_setLaser_other _ _ other, laser_setLaser_same]
  · rw [e, laser_setLaser_other _ _ hs, laser_setLaser_same]
  · rw [e, laser_setLaser_same]

/-- With no handover under way, the READY spare of a working laser takes its place. -/
theorem failOver_spare {k x : Nat} (hk : k < 16) (hn : ∀ p ∈ m.osc.lasers, p.2.role ≠ 2) (hx : m.readySpare k = some x) :
    ((failOver k m).laser x).role = 0 ∧ ((failOver k m).laser x).partner = m.laserHome k := by
  have noTaker : (m.osc.lasers.find? fun p => p.1 != k && p.2.role == 2 && (16 ≤ p.1) && p.2.partner == m.laserHome k) = none :=
    List.find?_eq_none.mpr fun p hp => by simp [hn p hp]
  have notBack : ¬ (16 ≤ k ∧ (m.laser k).role = 2) := fun h => absurd h.1 (Nat.not_le.mpr hk)
  have e : failOver k m = ((m.laserRecord k x 1).setLaser k fun l => { l with role := 4 }).setLaser x fun l =>
      { l with role := 0, partner := m.laserHome k } := by
    simp only [failOver, noTaker, Option.map_none, if_neg notBack, hx]
  rw [e, laser_setLaser_same]
  exact ⟨rfl, rfl⟩

theorem failSpare_keeps (k : Nat) : (failSpare k m).trowel = m.trowel ∧ (failSpare k m).engine = m.engine := by
  simp [failSpare]

theorem failSpare_failed (k : Nat) : ((failSpare k m).laser k).role = 4 := by
  rw [failSpare, laser_setLaser_same]

/-- A probe laser that fails is FAILED, and every other laser stays. -/
theorem failProbe_failed (k : Nat) :
    ((failProbe k m).laser k).role = 4 ∧ ∀ j, j ≠ k → (failProbe k m).laser j = m.laser j := by
  unfold failProbe
  refine ⟨by rw [laser_setLaser_same], fun j hj => ?_⟩
  rw [laser_setLaser_other _ _ hj.symm, laserRecord_laser]

/-- LASER_EOL is a degraded cause. -/
theorem causes_of_eol (h : m.osc.eol = true) : m.causes.getLsbD 15 = true := by
  unfold Mod.causes
  simp [h, wbit]

/-! ### Ports -/

@[simp] theorem shutter_setShutter_same (p : Nat) (f : Shutter → Shutter) : (m.setShutter p f).shutter p = f (m.shutter p) :=
  aget_amod_same ..

@[simp] theorem setNeigh_shutter (p q : Nat) (f : Neigh → Neigh) : (m.setNeigh p f).shutter q = m.shutter q := rfl

@[simp] theorem neigh_setNeigh_same (p : Nat) (f : Neigh → Neigh) : (m.setNeigh p f).neigh p = f (m.neigh p) :=
  aget_amod_same ..

@[simp] theorem event3_osc (p cause : Nat) (data : List Byte) : (m.event3 p cause data).osc = m.osc := by
  obtain ⟨l, h, t, e⟩ := event3_changes m p cause data
  rw [e]

@[simp] theorem event3_neigh (p cause : Nat) (data : List Byte) (q : Nat) : (m.event3 p cause data).neigh q = m.neigh q := by
  rw [Mod.neigh, event3_osc]
  rfl

/-- The loss of signal of a port leaves its shutter, and its neighbour state is NONE. -/
theorem loseSignal_none (p : Nat) :
    (m.loseSignal p).shutter p = m.shutter p ∧ ((m.loseSignal p).neigh p).nstate = .none := by
  unfold Mod.loseSignal
  dsimp only
  split <;> simp

/-- A shutter closed in tick `t`, dark, and no longer opening or in a probing pulse. -/
def Shutter.closedIn (t : Nat) (s : Shutter) : Shutter :=
  { s with opening := false, isOpen := false, emitting := false, pulse := none, closedAt := t }

theorem closeShutter_closed {p : Nat} (h : (m.shutter p).isOpen = true) :
    (m.closeShutter p).shutter p = (m.shutter p).closedIn m.tick.now := by
  simp only [Mod.closeShutter, h, Bool.not_true, Bool.false_and, Bool.false_eq_true, ↓reduceIte, event3_shutter]
  exact shutter_setShutter_same m p (Shutter.closedIn m.tick.now)

end

/-- Settles O47: the guard of each row holds, and its lemma says what the row leaves of its laser or port. -/
theorem laserAndSignalRowsComplete : Obligations.LaserAndSignalRowsComplete := by
  unfold Obligations.LaserAndSignalRowsComplete
  dsimp only [exec, execLaserHandover, execLaserFailover, execLaserEol, execProbeLaserFailure, execLosEntry, execLosExit,
    execShutterOpened, execProbingPulse, execProbingPulseEnd]
  refine ⟨fun s k => ⟨fun x hd hl hv ha hx hsw ht => ⟨_, happens_holds _ _ s ?due, ?osc, ?probe⟩,
      fun x hx h0 => setSwitch_handover s.cur hx h0, fun hr hk hin => ⟨_, happens_holds _ _ s ?fails, ?failed⟩,
      fun hr hl hv h0 hx hb => ⟨_, happens_holds _ _ s ?worn, rfl, causes_of_eol _ rfl⟩,
      fun hr hl hv hk hin => ⟨_, happens_holds _ _ s ?probeFails, failProbe_failed s.cur k⟩⟩,
    fun s p => ⟨fun hr hp hn h20 => ⟨_, happens_holds _ _ s ?dark, ?lost⟩,
      fun hr hp hl h100 => ⟨_, happens_holds _ _ s ?bright, ?found⟩,
      fun hp ho hk => ⟨_, happens_holds _ _ s ?reports, ?emits⟩,
      fun hl hp hm hlos ho hop hc => ⟨_, happens_holds _ _ s ?pulseDue, ?pulse⟩,
      fun b ho hb hn => ⟨_, happens_holds _ _ s ?pulseOver, ?closed⟩⟩⟩
  case due =>
    have free : k < 20 ∨ ∀ r ∈ s.cur.cal.tests, r.cls ≠ 4 := (Nat.lt_or_ge k 20).imp_right ht
    simpa [hd, hl, hv, ha, hx, hsw] using free
  case osc =>
    intro hk
    have working : (s.cur.laser k).role = 0 := by
      simp only [Mod.aged, Bool.and_eq_true, beq_iff_eq] at ha
      exact ha.1
    rw [handOver_osc s.cur hx hk, laser_setLaser_same, laser_setLaser_other _ _ (readySpare_ne _ hx).symm]
    exact ⟨rfl, working, rfl⟩
  case probe =>
    intro hk
    rw [handOver_probe s.cur hx hk, laser_setLaser_other _ _ (readySpare_ne _ hx), laser_setLaser_same, laser_setLaser_same]
    exact ⟨rfl, rfl, rfl⟩
  case fails => simp [hr, hk, hin]
  case failed =>
    split
    next =>
      obtain ⟨trowel, engine⟩ := failOver_keeps s.cur k
      exact ⟨trowel, engine, failOver_failed s.cur hk, fun x _ h16 hn hx => failOver_spare s.cur h16 hn hx⟩
    next notIn =>
      obtain ⟨trowel, engine⟩ := failSpare_keeps s.cur k
      exact ⟨trowel, engine, fun _ => failSpare_failed s.cur k, fun x hs => absurd hs notIn⟩
  case worn => simp [hr, hl, hv, h0, hx, hb]
  case probeFails => simp [hr, hl, hv, hk, hin]
  case dark => simp [hr, hp, hn, h20]
  case lost =>
    obtain ⟨shutter, nstate⟩ := loseSignal_none (s.cur.setShutter p fun s => { s with los := true, highRun := 0 }) p
    exact ⟨by rw [shutter, shutter_setShutter_same], nstate⟩
  case bright => simp [hr, hp, hl, h100]
  case found =>
    rw [event3_shutter, setNeigh_shutter, shutter_setShutter_same]
    exact ⟨rfl, rfl⟩
  case reports => simp [hp, ho, hk]
  case emits =>
    rw [event3_shutter, shutter_setShutter_same]
    exact ⟨rfl, rfl, rfl⟩
  case pulseDue => simp [hl, hp, hm, hlos, ho, hop, hc]
  case pulse =>
    rw [shutter_setShutter_same]
    exact ⟨rfl, rfl, rfl⟩
  case pulseOver => simp [ho, hb, hn]
  case closed =>
    rw [closeShutter_closed s.cur ho]
    exact ⟨rfl, rfl, rfl, rfl⟩

end Sys2Proof.Machine
end

section
/-! PROOFS. Commands with work to wait for (R264, R322, R376, R392, R393, R415, R424): each one's own checks passed, where its work
waits. -/

namespace Sys2Proof.Machine

section
variable (r : Req) (m : Mod)

/-! ### BLINK_OPEN (R376) and CAL_RUN (R322) -/

theorem runBlinkOpen_waits (h : sized r.payload 68 = true) (hne : maskAt r.payload 0 ≠ 0)
    (hfree : ∀ k < 512, (maskAt r.payload 0).getLsbD k = true → m.isTrunk k = false)
    (hlo : 100 ≤ field r.payload 64 4) (hhi : field r.payload 64 4 ≤ 1000000) (hb : m.blinking = false) :
    runBlinkOpen r m = { pend r m with deferred := (pend r m).deferred ++
      [{ eff := .blinkOpen r.w (maskAt r.payload 0) (field r.payload 64 4), reply := none, pkt := none }] } := by
  have noTrunk : ((List.range 512).any fun p => (maskAt r.payload 0).getLsbD p && m.isTrunk p) = false := by
    simpa only [List.any_eq_false, List.mem_range, Bool.and_eq_true, not_and, Bool.not_eq_true] using hfree
  have scope : ¬ (maskAt r.payload 0 = 0 ∨
      ((List.range 512).any fun p => (maskAt r.payload 0).getLsbD p && m.isTrunk p) = true) := by
    rw [noTrunk]
    exact not_or.mpr ⟨hne, Bool.false_ne_true⟩
  have ticks : ¬ (field r.payload 64 4 < 100 ∨ 1000000 < field r.payload 64 4) := by omega
  simp only [runBlinkOpen, h, if_neg scope, if_neg ticks, hb, Bool.not_true, Bool.false_eq_true, ↓reduceIte]

theorem runCalRun_waits (h : sized r.payload 4 = true) (hc : field r.payload 0 4 < 64)
    (hw : m.variant.windows = false → (field r.payload 0 4).testBit 2 = false ∧ (field r.payload 0 4).testBit 3 = false)
    (hfree : m.cal.waiter = none) :
    runCalRun r m =
      (let m := (bitsSet 6 (field r.payload 0 4)).foldl (fun m k => m.setCalClass k fun x =>
        { x with
          pending := (m.variant.calUnits k).map fun u => (u, 2), ran := [], runApplied := 0, runRejected := 0
          runSkipped := 0 }) m
      pend r { m with cal := { m.cal with
        waiter := some (r.w, BitVec.ofNat 6 (field r.payload 0 4), m.tick.now) } }) := by
  have fitted : (!m.variant.windows && ((field r.payload 0 4).testBit 2 || (field r.payload 0 4).testBit 3)) = false := by
    cases hv : m.variant.windows with
    | true => rfl
    | false =>
      obtain ⟨class2, class3⟩ := hw hv
      rw [class2, class3]
      rfl
  simp only [runCalRun, h, if_neg (Nat.not_le.mpr hc), fitted, hfree, Option.isSome_none, Bool.not_true, Bool.false_eq_true,
    ↓reduceIte]

/-! ### PLAN_SOLVE (R264) -/

/-- The solve that a PLAN_SOLVE asks for. -/
def askedSolve : Solve :=
  { waiter := r.w, planId := wordAt r.payload 0, base := wordAt r.payload 4, flags := wordAt r.payload 8
    desc := r.payload.drop 16, accepted := m.tick.now, rerun := false }

section
variable {r m} (hl : 88 ≤ r.payload.length) (hid : m.solveIdFree (wordAt r.payload 0) = true)
  (hok : m.solveBad r.payload = none)

include hl hid hok

/-- An idle planner takes the solve at once. -/
theorem runPlanSolve_begins (hn : m.mortar.solving = none) (hq : m.mortar.solves = []) :
    runPlanSolve r m = pend r { m with mortar := { m.mortar with solving := some (askedSolve r m) } } := by
  simp only [runPlanSolve, if_neg (Nat.not_lt.mpr hl), hid, hok, hn, hq, Option.isNone_none, List.isEmpty_nil, and_self,
    Bool.not_true, Bool.false_eq_true, ↓reduceIte, askedSolve]

/-- A busy planner queues it. -/
theorem runPlanSolve_queues (hn : m.mortar.solving ≠ none) (hroom : m.mortar.solves.length < 8) :
    runPlanSolve r m = pend r { m with mortar := { m.mortar with solves := m.mortar.solves ++ [askedSolve r m] } } := by
  have busy : ¬ (m.mortar.solving.isNone = true ∧ m.mortar.solves.isEmpty = true) := fun idle =>
    hn (Option.isNone_iff_eq_none.mp idle.1)
  simp only [runPlanSolve, if_neg (Nat.not_lt.mpr hl), hid, hok, if_neg busy, if_neg (Nat.not_le.mpr hroom), Bool.not_true,
    Bool.false_eq_true, ↓reduceIte, askedSolve]

end

/-! ### LAUNCH_SCHEDULE (R392, R393) -/

theorem runLaunchSchedule_waits (h : sized r.payload 48 = true) (hk : field r.payload 0 1 ≤ 1)
    (hz : zeros r.payload 1 1 = true)
    (hport : field r.payload 0 1 = 0 → field r.payload 2 2 < 512 ∧ m.isTrunk (field r.payload 2 2) = true)
    (hns : timeNsOk r.payload 4 = true) (hat : m.badInstant (timeAt r.payload 4) = false)
    (hroom : m.time.sched.length < 64) :
    runLaunchSchedule r m = pend r { m with time := { m.time with sched := m.time.sched ++
      [{ waiter := r.w, kind := field r.payload 0 1, port := field r.payload 2 2, instant := timeAt r.payload 4
         accepted := m.tick.now, late := decide (timeAt r.payload 4 < m.fabricNow), body := slice r.payload 16 32
         delayed := false }] } } := by
  have port : ¬ (field r.payload 0 1 = 0 ∧
      (512 ≤ field r.payload 2 2 ∨ (!m.isTrunk (field r.payload 2 2)) = true)) := by
    rintro ⟨h0, bad⟩
    obtain ⟨range, trunk⟩ := hport h0
    simp [Nat.not_le.mpr range, trunk] at bad
  simp only [runLaunchSchedule, h, if_neg (Nat.not_lt.mpr hk), hz, if_neg port, hns, hat, if_neg (Nat.not_le.mpr hroom),
    Bool.not_true, Bool.false_eq_true, or_self, ↓reduceIte]

/-! ### FUNCTION_REINIT (R424) and LEAF_SWITCH (R415) -/

theorem runFunctionReinit_waits (h : sized r.payload 1 = true) (hf : field r.payload 0 1 ≤ 5)
    (hw : field r.payload 0 1 = 4 → m.variant.windows = true) (hon : m.reinitOn (field r.payload 0 1) = false)
    (hdue : m.reinitDue (field r.payload 0 1) = false) :
    runFunctionReinit r m = { pend r m with deferred := (pend r m).deferred ++
      [{ eff := .reinit (field r.payload 0 1) r.w, reply := none, pkt := none }] } := by
  have fitted : ¬ (field r.payload 0 1 = 4 ∧ (!m.variant.windows) = true) := by
    rintro ⟨h4, hno⟩
    simp [hw h4] at hno
  simp only [runFunctionReinit, h, if_neg (Nat.not_lt.mpr hf), if_neg fitted, hon, hdue, Bool.not_true, Bool.false_eq_true,
    or_self, ↓reduceIte]

/-- TARGET 0 names Leaf A and TARGET 1 Leaf B. -/
theorem target_side (j : Side) : ¬ 1 < j.num ∧ (if j.num = 0 then Side.a else Side.b) = j := by
  cases j with
  | a => decide
  | b => decide

section
variable {r m} {j : Side} (h : sized r.payload 1 = true) (hj : field r.payload 0 1 = j.num)

include h hj

theorem runLeafSwitch_already (hact : m.leaves.active = some j) : runLeafSwitch r m = answer r stOK [] m := by
  obtain ⟨range, side⟩ := target_side j
  simp only [runLeafSwitch, h, hj, if_neg range, side, hact, Bool.not_true, Bool.false_eq_true, ↓reduceIte]

/-- With the cross-link up, the leaf that is eligible becomes active at the boundary. -/
theorem runLeafSwitch_waits (hact : m.leaves.active ≠ some j) (hsw : m.leaves.switchTo = none)
    (hun : m.sec.unlocking = none) (hx : m.xlinkDown = false) (hel : m.eligible j = true) :
    runLeafSwitch r m = { pend r m with
      leaves := { (pend r m).leaves with switchTo := some (j, r.w, false) }
      deferred := (pend r m).deferred ++ [{ eff := .leafSwitch j r.w false, reply := none, pkt := none }] } := by
  obtain ⟨range, side⟩ := target_side j
  simp only [runLeafSwitch, h, hj, if_neg range, side, if_neg hact, hsw, hun, hx, hel, Option.isSome_none, Bool.not_true,
    Bool.false_eq_true, or_self, ↓reduceIte]

end

end

/-- Settles O23: an admitted packet runs its opcode's own step, and each step that its checks let pass leaves its work waiting. -/
theorem pendingCommandsComplete : Obligations.PendingCommandsComplete := by
  unfold Obligations.PendingCommandsComplete
  intro s p
  refine ⟨?blinkOpen, ?calRun, ?planSolve, ?launchSchedule, ?functionReinit, ?leafSwitch⟩
  case blinkOpen =>
    intro ha h hne hfree hlo hhi hb
    exact commandM_runs 0x32 p _ _ s ha (runBlinkOpen_waits _ _ h hne hfree hlo hhi hb)
  case calRun =>
    intro ha h hc hw hfree
    exact commandM_runs 0x44 p _ _ s ha (runCalRun_waits _ _ h hc hw hfree)
  case planSolve =>
    intro ha hl hid hok
    exact ⟨fun hn hq => commandM_runs 0x16 p _ _ s ha (runPlanSolve_begins hl hid hok hn hq),
      fun hn hroom => commandM_runs 0x16 p _ _ s ha (runPlanSolve_queues hl hid hok hn hroom)⟩
  case launchSchedule =>
    intro ha h hk hz hport hns hat hroom
    exact commandM_runs 0x64 p _ _ s ha (runLaunchSchedule_waits _ _ h hk hz hport hns hat hroom)
  case functionReinit =>
    intro ha h hf hw hon hdue
    exact commandM_runs 0xA2 p _ _ s ha (runFunctionReinit_waits _ _ h hf hw hon hdue)
  case leafSwitch =>
    intro j ha h hj
    exact ⟨fun hact => commandM_runs 0xA5 p _ _ s ha (runLeafSwitch_already h hj hact),
      fun hact hsw hun hx hel => commandM_runs 0xA5 p _ _ s ha (runLeafSwitch_waits h hj hact hsw hun hx hel)⟩

end Sys2Proof.Machine
end

section
/-! PROOFS. Neighbours on the supervisory channel (R363, R364, R367, R369, R377), and time (R381, R384, R392, R394, R395): what each
row leaves of its port's record, and of the time bases. -/

namespace Sys2Proof.Machine

section
variable (m : Mod) (p : Nat)

/-! ### What a frame leaves of its port -/

/-- What a port keeps of the last valid frame. -/
def Neigh.received (n : Neigh) : List Byte × Nat × Nat := (n.last, n.sinceValid, n.lastRx)

/-- What a port keeps of the last valid frame, and the count of the frames that failed. -/
def Mod.oscReceived : (List Byte × Nat × Nat) × Nat := ((m.neigh p).received, m.osc.failed)

theorem neigh_setNeigh_twice (f g : Neigh → Neigh) : ((m.setNeigh p f).setNeigh p g).neigh p = g (f (m.neigh p)) := by
  rw [neigh_setNeigh_same, neigh_setNeigh_same]

variable {m} in
theorem oscReceived_of_osc {t : Mod} (h : t.osc = m.osc) : t.oscReceived p = m.oscReceived p := by
  unfold Mod.oscReceived Mod.neigh
  rw [h]

@[simp] theorem event3_oscReceived (q cause : Nat) (data : List Byte) :
    (m.event3 q cause data).oscReceived p = m.oscReceived p := oscReceived_of_osc p (event3_osc m q cause data)

variable {f g : Neigh → Neigh} (hf : ∀ n, (f n).received = n.received) (hg : ∀ n, (g n).received = n.received)

include hf in
theorem setNeigh_oscReceived : (m.setNeigh p f).oscReceived p = m.oscReceived p := by
  unfold Mod.oscReceived
  rw [neigh_setNeigh_same, hf]
  rfl

include hf hg in
/-- A flag of R368 that rises is reported; either way what was received stays. -/
theorem flag_oscReceived (c : Bool) (cause : Nat) (data : List Byte) :
    (if c then (m.setNeigh p f).event3 p cause data else m.setNeigh p g).oscReceived p = m.oscReceived p := by
  cases c with
  | true => exact (event3_oscReceived _ p p cause data).trans (setNeigh_oscReceived m p hf)
  | false => exact setNeigh_oscReceived m p hg

/-- R369 changes CHANGED and PREV of the port at most. -/
theorem checkChanged_neigh : ∃ c q, (m.checkChanged p).neigh p = { m.neigh p with changed := c, prev := q } := by
  unfold Mod.checkChanged
  dsimp only
  split
  next r _ =>
    split
    · exact ⟨true, some r, by rw [event3_neigh, neigh_setNeigh_same]⟩
    · exact ⟨_, _, rfl⟩
  next => exact ⟨_, _, rfl⟩

@[simp] theorem checkChanged_oscReceived : (m.checkChanged p).oscReceived p = m.oscReceived p := by
  unfold Mod.checkChanged
  dsimp only
  split
  · split
    · exact (event3_oscReceived ..).trans (setNeigh_oscReceived m p fun _ => rfl)
    · rfl
  · rfl

@[simp] theorem neighState_oscReceived : (m.neighState p).oscReceived p = m.oscReceived p := by
  unfold Mod.neighState
  dsimp only
  split
  · exact (event3_oscReceived ..).trans (setNeigh_oscReceived m p fun _ => rfl)
  · split
    · exact (event3_oscReceived ..).trans (setNeigh_oscReceived m p fun _ => rfl)
    · exact setNeigh_oscReceived m p fun _ => rfl

@[simp] theorem neighFlags_oscReceived : (m.neighFlags p).oscReceived p = m.oscReceived p := by
  unfold Mod.neighFlags
  dsimp only
  rw [checkChanged_oscReceived, flag_oscReceived, flag_oscReceived, apply_ite (Mod.oscReceived · p), event3_oscReceived,
    ite_self, setNeigh_oscReceived]
  all_goals exact fun _ => rfl

/-! ### Fabric time from a frame (R383) -/

@[simp] theorem stepFabric_osc (source : Nat) (off : Instant) : (m.stepFabric source off).osc = m.osc := by
  unfold Mod.stepFabric Mod.stepRecord
  obtain ⟨r, e⟩ := record_changes _ _ _ _
  rw [e]

@[simp] theorem servo_osc (off : Int) : (m.servo off).osc = m.osc := by
  unfold Mod.servo
  dsimp only
  split
  · exact stepFabric_osc ..
  · split <;> rfl

@[simp] theorem takeTime_osc (x : OscFrame) : (m.takeTime x).osc = m.osc := by
  unfold Mod.takeTime
  dsimp only
  split
  · rfl
  · split
    · exact servo_osc ..
    · rfl

/-! ### OSC_FRAME_RX (R363, R364) -/

/-- An aligned receiver after a good sync. -/
def Neigh.inSync (n : Neigh) : Neigh := { n with badSync := 0 }

/-- A receiver after a frame that does not pass FCHK. -/
def Neigh.afterFailure (n : Neigh) : Neigh := { n with goodRun := 0, fecFail := sat 0xFFFFFFFF (n.fecFail + 1) }

/-- A receiver in alignment decodes a frame with a good sync. -/
theorem align_decodes {n : Neigh} {x : OscFrame} (ha : n.aligned = true) (hs : x.syncOk = true) :
    n.align x = (n.inSync, true) := by
  simp [Neigh.align, Neigh.inSync, ha, hs]

variable {m} {x : OscFrame} (ha : (m.neigh x.port).aligned = true) (hs : x.syncOk = true)

include ha hs

/-- A frame that does not pass FCHK is counted, and breaks the run of valid frames. -/
theorem oscRx_fails (hok : OscFrame_ok x = false) :
    (oscRx x m).osc.failed = m.osc.failed + 1 ∧ ((oscRx x m).neigh x.port).last = (m.neigh x.port).last ∧
      ((oscRx x m).neigh x.port).goodRun = 0 ∧ (oscRx x m).time = m.time := by
  have port : (oscRx x m).neigh x.port = (m.neigh x.port).inSync.afterFailure := by
    simp only [oscRx, align_decodes ha hs, hok, Bool.not_true, Bool.not_false, Bool.false_eq_true, ↓reduceIte]
    exact neigh_setNeigh_twice m x.port (fun _ => (m.neigh x.port).inSync) Neigh.afterFailure
  rw [port]
  simp only [oscRx, align_decodes ha hs, hok, Bool.not_true, Bool.not_false, Bool.false_eq_true, ↓reduceIte]
  exact ⟨rfl, rfl, rfl, rfl⟩

/-- A valid frame is what its port has received last. -/
theorem oscRx_receives (hok : OscFrame_ok x = true) :
    (oscRx x m).oscReceived x.port = (((m.neigh x.port).inSync.take x).received, m.osc.failed) := by
  have taken : ((m.setNeigh x.port fun _ => (m.neigh x.port).inSync).setNeigh x.port fun n => n.take x).oscReceived x.port =
      (((m.neigh x.port).inSync.take x).received, m.osc.failed) := by
    unfold Mod.oscReceived
    rw [neigh_setNeigh_twice]
    rfl
  simp only [oscRx, align_decodes ha hs, hok, Bool.not_true, Bool.false_eq_true, ↓reduceIte]
  rw [apply_ite (Mod.oscReceived · x.port), event3_oscReceived, ite_self, oscReceived_of_osc _ (takeTime_osc _ x),
    neighFlags_oscReceived, neighState_oscReceived, ← taken]
  split <;> rfl

end

/-- With the laser bank reached, a frame is received (R364). -/
theorem execOscFrameRx_runs (f : OscFrame) (s : State) (hr : s.cur.running = true) (hd : s.cur.dieLink 2 = true)
    (hp : f.port < 512) : execOscFrameRx f s = .next { s with cur := oscRx f s.cur } :=
  happens_holds _ _ s (by simp [hr, hd, hp])

section
variable (m : Mod)

/-! ### Blink windows (R377) -/

theorem closeBlink_ends {b : Blink} (status : Nat) (d : List Byte) (h : m.osc.blink = some b) :
    m.closeBlink status d = ({ m with osc := { m.osc with blink := none } }).final b.waiter status
      (d ++ le 64 b.dark.toNat ++ le 8 (b.first.getD 0)) := by
  simp only [Mod.closeBlink, h]

/-! ### Upstream (R381) -/

theorem setUpstream_port (q : Nat) : ∃ t, m.setUpstream (some q) = { m with time := t } ∧ t.upstream = some q ∧
    t.hops = field (m.neigh q).last 26 1 + 1 := ⟨_, rfl, rfl, rfl⟩

/-- A follower in lock that has no upstream left holds fabric time over. -/
theorem setUpstream_lost (h : m.time.fstate = 2) :
    ∃ t, m.setUpstream none = { m with time := t } ∧ t.upstream = none ∧ t.fstate = 3 :=
  ⟨_, if_pos (.inr h), rfl, rfl⟩

/-! ### PPS_IN (R394) -/

/-- The edges that count as in their time after one more. -/
def edgesAfter (edges : List Nat) (e : Nat) : List Nat :=
  match edges with
  | l :: rest => if edgeSpaced l e then (e :: l :: rest).take 4 else [e]
  | [] => [e]

theorem edgesAfter_head (edges : List Nat) (e : Nat) : (edgesAfter edges e).head? = some e := by
  cases edges with
  | nil => rfl
  | cons l rest =>
    unfold edgesAfter
    dsimp only
    split <;> rfl

/-- Where the module is not a root that follows PPS_IN, an edge changes only what is known of the edges. -/
theorem ppsEdge_counts {e : Nat} (h : m.isRoot = false ∨ m.ppsIn = false) :
    ppsEdge e m = { m with time := { m.time with
      ppsEdges := edgesAfter m.time.ppsEdges e, ppsValid := decide (4 ≤ (edgesAfter m.time.ppsEdges e).length) } } := by
  have follows (v : Prop) : ¬ (m.isRoot = true ∧ m.ppsIn = true ∧ v) := by
    rintro ⟨root, pps, -⟩
    simp [root, pps] at h
  unfold ppsEdge
  refine (if_neg (follows _)).trans ?_
  cases m.time.ppsEdges with
  | nil => rfl
  | cons l rest => rfl

/-- The edge is the newest, and PPS_IN is valid from the fourth edge in its time. -/
theorem ppsEdge_valid {e : Nat} (h : m.isRoot = false ∨ m.ppsIn = false) :
    ∃ t, ppsEdge e m = { m with time := t } ∧ t.ppsEdges.head? = some e ∧ (t.ppsValid = true ↔ 4 ≤ t.ppsEdges.length) ∧
      t.fabric = m.time.fabric :=
  ⟨_, ppsEdge_counts m h, edgesAfter_head .., decide_eq_true_iff, rfl⟩

/-! ### Scheduled launches (R392) -/

@[simp] theorem final_time (w : Waiter) (st : Nat) (pl : List Byte) : (m.final w st pl).time = m.time := by
  obtain ⟨l, h, t, d, e⟩ := final_changes m w st pl
  rw [e]

theorem length_ite_map {α : Type} (c : Prop) [Decidable c] (f : α → α) (xs : List α) :
    (if c then xs.map f else xs).length = xs.length := by
  rw [apply_ite List.length, List.length_map, ite_self]

variable {m} {l : Sched}

/-- The launch that goes next is one of the list: the fold keeps its choice or takes another. -/
theorem nextLaunch_mem (h : m.nextLaunch = some l) : l ∈ m.time.sched := by
  unfold Mod.nextLaunch at h
  refine List.foldlRecOn (motive := fun b => ∀ c, b = some c → c ∈ m.time.sched) _ _ ?start ?choice l h
  case start => nofun
  case choice =>
    intro b chosen x hx
    have taken : ∀ c, some x = some c → c ∈ m.time.sched := by
      rintro _ ⟨⟩
      exact List.mem_of_mem_filter hx
    split
    · exact taken
    · split
      · exact taken
      · exact chosen

/-- A launch of the list leaves it. -/
theorem launchBody_leaves (h : l ∈ m.time.sched) : (launchBody l m).time.sched.length < m.time.sched.length := by
  have rest : (launchBody l m).time.sched.length = (m.time.sched.filter fun x => x != l).length := by
    unfold launchBody
    dsimp only
    rw [final_time]
    split
    · exact length_ite_map ..
    · split
      · exact length_ite_map ..
      · exact length_ite_map ..
  rw [rest]
  exact List.length_filter_lt_length_iff_exists.mpr ⟨l, h, by simp⟩

end

/-- Settles O48: each row is an event whose condition the hypotheses decide; its lemma says what it leaves of the port, or of the time
bases. -/
theorem neighbourAndTimeRowsComplete : Obligations.NeighbourAndTimeRowsComplete := by
  unfold Obligations.NeighbourAndTimeRowsComplete
  dsimp only [exec, execNeighbourUp, execNeighbourLost, execNeighbourRecord, execBlinkClose, execUpstreamChange,
    execFabricTimeLock, execFabricTimeUnlock, execPpsInEdge, execPpsInLoss, execPpsOutPulse, execPpsOutEnd, execScheduledLaunch]
  refine ⟨fun s p f => ⟨fun hr hd hp ha hs hok => ⟨_, execOscFrameRx_runs f s hr hd hp, oscRx_fails ha hs hok⟩,
      fun hr hd hp ha hs hok hv => ⟨_, execOscFrameRx_runs f s hr hd hp, ?valid⟩, execOscFrameRx_runs f s,
      fun hr hp hst hn h16 h4 => ⟨_, happens_holds _ _ s ?isUp, ?up⟩, fun hr hu h16 => ⟨_, happens_holds _ _ s ?isLost, ?lost⟩,
      fun hr hu hrun hne => ⟨_, happens_holds _ _ s ?isRecorded, ?recorded⟩, fun b hc hr hb hn => ?blink⟩,
    fun s p e => ⟨fun hr hroot hdue hp => ?upstream, fun hr hroot hdue hst => ?noUpstream, fun hr hroot hst hrun => ?lock,
      fun hr hroot hst hrun => ?unlock, fun hr he hno => ?edge, fun hr he => ?anyEdge, fun l rest hr hv hl hgap => ?loss,
      fun hr hen hdue => ⟨_, happens_holds _ _ s ?isDue, rfl, ?second⟩, fun b hb hn => ?pulseEnd,
      fun l hb hr hl => ?launch⟩⟩
  case valid =>
    have received := oscRx_receives ha hs hok
    simp only [Mod.oscReceived, Neigh.received, Neigh.take, hv, ↓reduceIte, Prod.mk.injEq] at received
    obtain ⟨⟨last, since, rx⟩, failed⟩ := received
    exact ⟨last, since, rx, failed⟩
  case isUp => simp [hr, hp, hst, hn, h16, h4]
  case up =>
    obtain ⟨c, q, e⟩ := checkChanged_neigh ((s.cur.setNeigh p fun n => { n with nstate := .up, sameRun := 0, delays := [] }).event3 p 4
      (slice (s.cur.neigh p).last 8 18)) p
    rw [e, event3_neigh, neigh_setNeigh_same]
    exact ⟨rfl, rfl⟩
  case isLost => simp [hr, hu, h16]
  case lost =>
    rw [event3_neigh, neigh_setNeigh_same]
    exact ⟨rfl, rfl⟩
  case isRecorded => simp [hr, hu, hrun, hne]
  case recorded =>
    rw [neigh_setNeigh_same]
    refine ⟨rfl, fun hc hsome => ?_⟩
    obtain ⟨r, known⟩ := Option.ne_none_iff_exists'.mp hsome
    simp only [hc, known, Bool.false_eq_true, ↓reduceIte]
  case blink =>
    rw [happens_holds _ _ s (by simp [hc, hr, hb, hn]), closeBlink_ends s.cur stOK [] hb, List.nil_append]
  case upstream =>
    obtain ⟨t, et, up, hops⟩ := setUpstream_port s.cur p
    exact ⟨t, (happens_holds _ _ s (by simp [hr, hroot, hdue, hp])).trans (by simp only [if_neg hp, et]), up, hops⟩
  case noUpstream =>
    obtain ⟨t, et, up, held⟩ := setUpstream_lost s.cur hst
    exact ⟨t, (happens_holds _ _ s (by simp [hr, hroot, hdue])).trans (by simp only [↓reduceIte, et]), up, held⟩
  case lock => exact happens_holds _ _ s (by simp [hr, hroot, hst, hrun])
  case unlock => exact ⟨_, happens_holds _ _ s (by simp [hr, hroot, hst, hrun]), rfl, rfl⟩
  case edge =>
    obtain ⟨t, et, newest, valid, fabric⟩ := ppsEdge_valid s.cur hno
    exact ⟨t, (happens_holds _ _ s (by simp [hr, he])).trans (by rw [et]), newest, valid, fabric⟩
  case anyEdge => exact happens_holds _ _ s (by simp [hr, he])
  case loss =>
    rw [happens_holds _ _ s (by simp [hr, hv, hl, hgap])]
    split
    next => exact ⟨_, rfl, rfl, rfl, fun _ _ _ => rfl⟩
    next off => exact ⟨_, rfl, rfl, rfl, fun root pps on => absurd ⟨root, pps, on⟩ off⟩
  case isDue => simp [hr, hen, hdue]
  case second =>
    obtain ⟨t, ht⟩ := Option.isSome_iff_exists.mp hdue
    rw [ht]
    rfl
  case pulseEnd => exact happens_holds _ _ s (by simp [hb, hn])
  case launch =>
    refine ⟨_, (atEdge_holds _ _ s hb (by simp [hr, hl])).trans ?_, rfl, launchBody_leaves (nextLaunch_mem hl)⟩
    simp only [hl]

end Sys2Proof.Machine
end

section
/-! PROOFS. The preferred leaf (R407, R433), lease messages at a sill (R405, R408, R409), and how control moves (R406, R414, R415,
R417). -/

namespace Sys2Proof.Machine

/-! ### PREF_SEL (R407, R433) -/

/-- PREF_SEL as LEAF_CFG's bits, and as the number that `Mod.pref` reads. -/
theorem bits_prefSel (c : Word) : bits c.toNat 9 8 = (c.extractLsb' 8 2).toNat := by
  rw [BitVec.extractLsb'_toNat, Nat.shiftRight_eq_div_pow]
  rfl

/-- Settles O32: the three values of PREF_SEL, one by one. -/
theorem preferredLeaf : Obligations.PreferredLeaf := by
  unfold Obligations.PreferredLeaf Mod.pref
  intro m
  rw [bits_prefSel]
  refine ⟨fun strap => ?_, fun selA => ?_, fun selB => ?_⟩
  · rw [strap]
    rfl
  · rw [selA]
    rfl
  · rw [selB]
    rfl

/-! ### Updates of lists -/

section
variable {α : Type} (d : α) (l : List α) (j k : Nat) (f : α → α)

/-- Two updates that agree on the element updated are one. -/
theorem lmod_congr (g : α → α) (h : f (lget d l k) = g (lget d l k)) : lmod l k f = lmod l k g := by
  induction l generalizing k with
  | nil => rfl
  | cons x l ih =>
    cases k with
    | zero => exact congrArg (· :: l) h
    | succ k => exact congrArg (x :: ·) (ih k h)

/-- An element that the update does not change reads as before, whichever element is updated. -/
theorem lget_lmod_fixed (h : f (lget d l j) = lget d l j) : lget d (lmod l k f) j = lget d l j := by
  induction l generalizing j k with
  | nil => rfl
  | cons x l ih =>
    cases k with
    | zero =>
      cases j with
      | zero => exact h
      | succ j => rfl
    | succ k =>
      cases j with
      | zero => rfl
      | succ j => exact ih j k h

theorem lget_lmod_other (h : j ≠ k) : lget d (lmod l k f) j = lget d l j := by
  induction l generalizing j k with
  | nil => rfl
  | cons x l ih =>
    cases k with
    | zero =>
      cases j with
      | zero => exact absurd rfl h
      | succ j => rfl
    | succ k =>
      cases j with
      | zero => rfl
      | succ j => exact ih j k (ne_of_apply_ne Nat.succ h)

/-- One update of each element that `ks` lists. -/
def lmodAll (f : α → α) (l : List α) (ks : List Nat) : List α := ks.foldl (fun l k => lmod l k f) l

variable (ks : List Nat)

theorem lget_lmodAll_fixed (h : f (lget d l j) = lget d l j) : lget d (lmodAll f l ks) j = lget d l j := by
  induction ks generalizing l with
  | nil => rfl
  | cons k ks ih =>
    have step := lget_lmod_fixed d l j k f h
    exact (ih _ (by rw [step, h])).trans step

theorem lget_lmodAll_notMem (h : j ∉ ks) : lget d (lmodAll f l ks) j = lget d l j := by
  induction ks generalizing l with
  | nil => rfl
  | cons k ks ih =>
    obtain ⟨hk, hks⟩ := not_or.mp (mt List.mem_cons.mpr h)
    exact (ih _ hks).trans (lget_lmod_other d l j k f hk)

theorem lget_lmodAll_mem (nodup : ks.Nodup) (h : j ∈ ks) (hj : j < l.length) : lget d (lmodAll f l ks) j = f (lget d l j) := by
  induction ks generalizing l with
  | nil => cases h
  | cons k ks ih =>
    obtain ⟨hk, rest⟩ := List.nodup_cons.mp nodup
    obtain rfl | hjk := eq_or_ne j k
    · exact (lget_lmodAll_notMem d (lmod l j f) j f ks hk).trans (lget_lmod_same d l j f hj)
    · have later := ih (lmod l k f) rest ((List.mem_cons.mp h).resolve_left hjk) (by rwa [length_lmod])
      exact later.trans (congrArg f (lget_lmod_other d l j k f hjk))

end

/-! ### Messages to one sill (R408, R409) -/

theorem Sill.accepts_iff (k : Sill) (epoch : Nat) (forced : Bool) : k.accepts epoch forced = true ↔
    k.epoch < epoch ∧ (forced = true ∨ k.lease ≠ .valid) ∧ ∀ e, k.grant = some e → e < epoch := by
  unfold Sill.accepts
  cases k.grant <;> simp [and_assoc]

/-- A grant accepted is VALID with its epoch from the boundary on. -/
theorem Sill.atBoundary_granted (k : Sill) (e : Nat) (h : k.grant = some e) :
    k.atBoundary.lease = .valid ∧ k.atBoundary.epoch = e ∧ k.atBoundary.missed = 0 := by
  simp [Sill.atBoundary, h]

/-- A LAPSED sill that was renewed is VALID again. -/
theorem Sill.atBoundary_renewed (k : Sill) (hl : k.lease = .lapsed) (hr : k.renewed = true) (hg : k.grant = none) :
    k.atBoundary.lease = .valid := by
  simp [Sill.atBoundary, hl, hr, hg]

/-- What RELEASE makes of a sill that it reaches. -/
def Sill.released (epoch : Nat) (k : Sill) : Sill :=
  if k.epoch = epoch then { k with lease := .released, notice := true } else k

section
variable (m : Mod) (i : Side) (k e : Nat)

theorem setSill_congr {f g : Sill → Sill} (h : f (m.sill k) = g (m.sill k)) : m.setSill k f = m.setSill k g :=
  congrArg (fun t => { m with sills := t }) (lmod_congr Sill.init m.sills k f g h)

theorem grantAt_accepted (forced : Bool) (h : (m.sill k).accepts e forced = true) :
    m.grantAt k e forced = m.setSill k fun x => { x with grant := some e } := setSill_congr m k (if_pos h)

theorem grantAt_refused (forced : Bool) (h : ¬ (m.sill k).accepts e forced = true) : m.grantAt k e forced = m.setSill k id :=
  setSill_congr m k (if_neg h)

theorem renewAt_renews (h : (m.sill k).epoch = (m.leaf i).epoch) : m.renewAt i k = m.setSill k fun x =>
    { x with missed := 0, hold := (m.leaf i).state == .safeHold, renewed := x.renewed || x.lease == .lapsed } :=
  setSill_congr m k (if_pos h)

/-- RELEASE to each sill of a list changes the sills alone. -/
theorem foldl_release_sills (ks : List Nat) :
    ks.foldl (fun m k => m.setSill k fun s =>
      if s.epoch = (m.leaf i).epoch then { s with lease := .released, notice := true } else s) m =
      { m with sills := lmodAll (Sill.released (m.leaf i).epoch) m.sills ks } := by
  induction ks generalizing m with
  | nil => rfl
  | cons k ks ih => exact ih _

/-- The sills that a leaf reaches. -/
def Mod.reached : List Nat := (List.range 8).filter (m.reaches i)

variable {m i k e}

theorem mem_reached (hk : k < 8) : k ∈ m.reached i ↔ m.reaches i k = true := by
  simp [Mod.reached, hk]

theorem release_reached (hk : k < 8) (hl : k < m.sills.length) (hr : m.reaches i k = true) (he : (m.sill k).epoch = e) :
    lget .init (lmodAll (Sill.released e) m.sills (m.reached i)) k = { m.sill k with lease := .released, notice := true } :=
  (lget_lmodAll_mem Sill.init m.sills k _ _ (List.nodup_range.filter _) ((mem_reached hk).mpr hr) hl).trans (if_pos he)

theorem release_spares (hk : k < 8) (h : m.reaches i k = false ∨ (m.sill k).epoch ≠ e) :
    lget .init (lmodAll (Sill.released e) m.sills (m.reached i)) k = m.sill k := by
  obtain hr | he := h
  · exact lget_lmodAll_notMem _ _ _ _ _ (by simp [mem_reached hk, hr])
  · exact lget_lmodAll_fixed _ _ _ _ _ (if_neg he)

end

/-! ### How control moves (R406, R414) -/

section
variable (m : Mod) (i : Side)

@[simp] theorem sendGrants_leaves : (m.sendGrants i).leaves = m.leaves := by
  unfold Mod.sendGrants
  dsimp only
  split
  · exact foldl_keeps Mod.leaves _ (fun m k => setSill_leaves m k _) _ m
  · rfl

/-- A leaf that begins to grant, its first grants sent, grants its next epoch; the rest of the leaves is as it was. -/
theorem startGrant_sendGrants_leaves : ((m.startGrant i).sendGrants i).leaves =
    (m.setLeaf i fun l => { l with epoch := m.nextEpoch i, granting := true }).leaves := sendGrants_leaves ..

theorem startGrant_sendGrants_leaf : ((m.startGrant i).sendGrants i).leaf i =
    { m.leaf i with epoch := m.nextEpoch i, granting := true } :=
  (congrArg (·.leaf.get i) (startGrant_sendGrants_leaves m i)).trans (leaf_setLeaf_same m i _)

/-- The next epoch is above every epoch that the leaf has seen. -/
theorem highest_lt_nextEpoch : (m.leaf i).highest < m.nextEpoch i := by
  unfold Mod.nextEpoch
  omega

/-- Its parity names the leaf. -/
theorem nextEpoch_odd_iff : m.nextEpoch i % 2 = 1 ↔ m.pref = i := by
  by_cases h : m.pref = i <;> simp [Mod.nextEpoch, h]

end

/-- Settles O37: each row is an event whose condition the hypotheses decide; its lemma says what the message makes of its sill, or
the notice of its leaf. -/
theorem leaseAndTakeoverRowsComplete : Obligations.LeaseAndTakeoverRowsComplete := by
  unfold Obligations.LeaseAndTakeoverRowsComplete
  dsimp only [exec, execGrant, execForcedGrant, execRenew, execRelease, execLeaseLapse, execLapseNotice, execRevert]
  refine ⟨fun s i k e hk => ⟨?grant, ?forced, ?refused, fun x => Sill.atBoundary_granted x e, ?renew, Sill.atBoundary_renewed,
      ?release, ?lapse⟩,
    fun s i k => ⟨?notice, ⟨highest_lt_nextEpoch s.cur i, nextEpoch_odd_iff s.cur i⟩, ?revert⟩⟩
  case grant =>
    rintro ⟨hp, hr, hg, hst, hs, he, hall⟩ hlt hlease
    rw [happens_holds _ _ s (by simp [hp, hk, hr, hg, hst, hs, he]),
      grantAt_accepted s.cur k e false ((Sill.accepts_iff ..).mpr ⟨hlt, .inr hlease, hall⟩)]
  case forced =>
    rintro ⟨hp, hr, hg, hst, hs, he, hall⟩ hlt hforced
    rw [happens_holds _ _ s (by simp [hp, hk, hr, hg, hst, hs, he, hforced]),
      grantAt_accepted s.cur k e true ((Sill.accepts_iff ..).mpr ⟨hlt, .inl rfl, hall⟩)]
  case refused =>
    rintro ⟨hp, hr, hg, hst, hs, he, hall⟩ hno
    have refuses : ¬ (s.cur.sill k).accepts e false = true := by
      rw [Sill.accepts_iff]
      rintro ⟨hlt, hlease, -⟩
      exact hno.elim (hlease.resolve_left Bool.false_ne_true) (Nat.not_le.mpr hlt)
    rw [happens_holds _ _ s (by simp [hp, hk, hr, hg, hst, hs, he]), grantAt_refused s.cur k e false refuses]
  case renew =>
    intro hp hh hr he hsill
    rw [happens_holds _ _ s (by simp [hp, hk, hh, hr, he]), renewAt_renews s.cur i k (hsill.trans he.symm)]
  case release =>
    intro hp hact hh hkind
    refine ⟨_, (happens_holds _ _ s ?released).trans (congrArg (Host.Outcome.next { s with cur := · }) (foldl_release_sills ..)),
      release_reached hk, release_spares hk⟩
    obtain h | h | h := hkind <;> simp only [hp, hact, hh, h, BEq.rfl, Bool.and_self]
  case lapse =>
    intro hp hv hm
    exact happens_holds _ _ s (by simp [hp, hk, hv, hm])
  case notice =>
    intro hk hp hs hst hg hn hr hu
    refine ⟨_, happens_holds _ _ s (by simp [hk, hp, hs, hst, hg, hn, hr, hu]), ?_⟩
    rw [startGrant_sendGrants_leaf, startGrant_sendGrants_leaves]
    split
    next => exact ⟨rfl, rfl, hst, fun _ => rfl⟩
    next hno => exact ⟨rfl, rfl, hst, fun h => absurd h hno⟩
  case revert =>
    intro hb hcfg hsb hel hact hclean hrun hla hrel
    exact atEdge_holds _ _ s hb (by simp [hcfg, hsb, hel, hact, hclean, hrun, hla, hrel])

end Sys2Proof.Machine
end

section
/-! PROOFS. Self-diagnosis, reports, the cross-link and FAULT_N (R416, R420, R421, R457). -/

namespace Sys2Proof.Machine

section
variable (m : Mod) (i : Side) (items : BitVec 8)

/-! ### Self-diagnosis (R416) -/

/-- A record is either queued or counted as dropped. -/
theorem record_recs_ne (ty origin : Nat) (data : List Byte) : (m.record ty origin data).recs ≠ m.recs := by
  unfold Mod.record
  split
  · exact fun h => Nat.succ_ne_self _ (congrArg Records.csSeq h)
  · exact fun h => Nat.succ_ne_self _ (congrArg Records.dropped h)

variable {m i}

theorem selfFails_releases (ha : m.leaves.active = some i) (he : m.eligible i.other = true) (hr : m.leaves.releasing = none) :
    (m.selfFails i items).leaves = { m.leaves with releasing := some .release, lastItem := m.itemsOf i items } := by
  simp [Mod.selfFails, ha, he, hr]

theorem selfFails_recorded (ha : m.leaves.active = some i) (he : m.eligible i.other = false) :
    (m.selfFails i items).leaves = m.leaves ∧ (m.selfFails i items).recs ≠ m.recs := by
  simp only [Mod.selfFails, ha, he, Bool.false_and, Bool.false_eq_true, ↓reduceIte]
  exact ⟨record_leaves .., record_recs_ne m _ _ _⟩

theorem selfFails_kept (ha : m.leaves.active ≠ some i) :
    m.selfFails i items = m.setLeaf i fun l => { l with failed := l.failed ||| m.itemsOf i items } := if_neg ha

variable (m i)

/-! ### Reports of the standby (R420) -/

@[simp] theorem eventIf_leaves (g : Session → Bool) (cls : Nat) (body : List Byte) :
    (m.eventIf g cls body).leaves = m.leaves := by
  obtain ⟨l, h, t, e⟩ := eventIf_changes m g cls body
  rw [e]

@[simp] theorem eventIf_sec (g : Session → Bool) (cls : Nat) (body : List Byte) : (m.eventIf g cls body).sec = m.sec := by
  obtain ⟨l, h, t, e⟩ := eventIf_changes m g cls body
  rw [e]

@[simp] theorem eventIf_recs (g : Session → Bool) (cls : Nat) (body : List Byte) : (m.eventIf g cls body).recs = m.recs := by
  obtain ⟨l, h, t, e⟩ := eventIf_changes m g cls body
  rw [e]

/-- The items that a report of the standby names: those that fail now, those kept since the last report, and item 6 while the
leaf's cores are unlocked (R508). -/
def Mod.reportOf : BitVec 8 := m.itemsOf i items ||| (m.leaf i).failed ||| (if m.isUnlocked (1 + i.num) then 0x40 else 0)

/-- The module once such a report is received: its period runs again, and nothing is kept for the next. -/
def Mod.reported : Mod :=
  { m with leaves := { m.leaves with
    reportClean := decide (m.reportOf i items = 0), reportSeen := true, reportItems := m.reportOf i items
    reportTick := m.tick.now
    cleanTicks := if decide (m.reportOf i items = 0) then m.leaves.cleanTicks else 0 } }.setLeaf i fun l => { l with failed := 0 }

theorem reportOf_eq_zero_iff : m.reportOf i items = 0 ↔
    m.itemsOf i items = 0 ∧ (m.leaf i).failed = 0 ∧ m.isUnlocked (1 + i.num) = false := by
  unfold Mod.reportOf
  cases m.isUnlocked (1 + i.num) <;> simp

variable {m i}

/-- The leaves once a report of the standby is received, where no fallback waits for it. -/
theorem standbyReport_leaves {s : State} (hs : s.cur.standby = some i) (hdue : s.cur.leaves.reportTick + 10000 ≤ s.cur.tick.now)
    (hx : s.cur.leaves.xlinkUp = true) (hf : s.cur.sec.fallback = 0) :
    ∃ t, execStandbyReport items s = .next { s with cur := t } ∧ t.leaves = (s.cur.reported i items).leaves := by
  refine ⟨_, happens_holds _ _ s (by simp only [hs, hdue, Option.isSome_some, decide_true, Bool.and_self]), ?_⟩
  rw [hs]
  dsimp only
  rw [if_pos hx]
  refine (congrArg Mod.leaves (if_neg ?noSwitch)).trans (eventIf_leaves ..)
  rintro ⟨waits, -⟩
  rw [eventIf_sec] at waits
  exact absurd (hf.symm.trans waits) Nat.zero_ne_one

variable (m)

/-! ### The cross-link (R421) -/

@[simp] theorem crossEvent_leaves (x : Nat) : (m.crossEvent x).leaves = m.leaves := by
  unfold Mod.crossEvent
  split
  · exact eventIf_leaves ..
  · rfl

@[simp] theorem crossEvent_recs (x : Nat) : (m.crossEvent x).recs = m.recs := by
  unfold Mod.crossEvent
  split
  · exact eventIf_recs ..
  · rfl

end

/-! Degraded cause bit 3 says that the cross-link is down (R421). -/

theorem cause3_set (c : Word) : (c ||| 8).getLsbD 3 = true := by simp

theorem cause3_clear (c : Word) : (c &&& ~~~8).getLsbD 3 = false := by simp

/-- Settles O39: each row is an event whose condition the hypotheses decide; a report or an event of the cross-link sends a packet,
which leaves the leaves. -/
theorem healthRowsComplete : Obligations.HealthRowsComplete := by
  unfold Obligations.HealthRowsComplete
  dsimp only [exec, execSelfDiagnosisFailure, execReportMissing, execCrossLinkDown, execCrossLinkUp,
    execFaultNAssert]
  intro s i items cycles
  refine ⟨fun hs hi => ⟨_, happens_holds _ _ s (by simp only [hs, hi, ne_eq, not_false_eq_true, decide_true, Bool.and_self]),
      ?releases, selfFails_recorded items, selfFails_kept items⟩, ?report, ?missing, ?down, ?up, ?fault⟩
  case releases =>
    intro ha he hr
    rw [selfFails_releases items ha he hr]
    exact ⟨rfl, rfl⟩
  case report =>
    intro hsb hdue hx hf
    obtain ⟨t, runs, leaves⟩ := standbyReport_leaves items hsb hdue hx hf
    refine ⟨t, runs, ?_⟩
    rw [Mod.leaf, leaves, ← reportOf_eq_zero_iff]
    exact ⟨rfl, rfl, congrArg LeafSt.failed (leaf_setLeaf_same _ i _), decide_eq_true_iff⟩
  case missing =>
    intro hr hseen hdue
    exact happens_holds _ _ s (by simp [hr, hseen, hdue])
  case down =>
    intro hm hd
    refine ⟨_, happens_holds _ _ s (by simp [hm, hd]), ?_⟩
    unfold Mod.xlinkDown
    rw [crossEvent_leaves]
    exact ⟨cause3_set _, rfl, rfl⟩
  case up =>
    intro hd hg
    refine ⟨_, happens_holds _ _ s (by simp [hd, hg]), ?_⟩
    unfold Mod.xlinkDown
    split
    next hc =>
      rw [crossEvent_leaves]
      exact ⟨cause3_clear _, rfl, fun _ => crossEvent_recs ..⟩
    next hc =>
      rw [record_leaves, crossEvent_leaves]
      exact ⟨cause3_clear _, rfl, fun h => absurd h hc⟩
  case fault =>
    rintro ht ha hf ⟨b, hb, hn⟩
    exact happens_holds _ _ s (by simp [ht, ha, hf, hb, hn])

end Sys2Proof.Machine
end

section
/-! PROOFS. POWER_REQUEST (R451, R464), and the entries, the wakes and the throttling of the power domains (R452 – R456). -/

namespace Sys2Proof.Machine

/-! ### The domain of a code -/

/-- The first domain of a code after an update of the domains of that code. -/
theorem find_update (l : List Domain) (d : Nat) (f : Domain → Domain) (hf : ∀ x, (f x).code = x.code) :
    (l.map fun x => if x.code = d then f x else x).find? (fun x => x.code == d) = (l.find? fun x => x.code == d).map f := by
  induction l with
  | nil => rfl
  | cons x l ih =>
    by_cases hx : x.code = d
    · simp [hx, hf]
    · simpa [hx] using ih

section
variable {m t : Mod} {d : Nat} {x : Domain} {f : Domain → Domain}

/-- The domain in a module whose domains are those of `m`, that of code `d` updated. -/
theorem domain_of_update (h : t.power.domains = (m.setDomain d f).power.domains := by rfl)
    (hf : ∀ y, (f y).code = y.code := by intro; rfl) (hx : m.domain d = some x) : t.domain d = some (f x) :=
  calc t.domain d = (m.domain d).map f := by
        rw [Mod.domain, h]
        exact find_update _ d f hf
    _ = some (f x) := by rw [hx, Option.map_some]

theorem domainState_of_update {st : DState} (h : t.power.domains = (m.setDomain d f).power.domains := by rfl)
    (hf : ∀ y, (f y).code = y.code := by intro; rfl) (hx : m.domain d = some x) (hst : (f x).state = st := by rfl) :
    (t.domain d).map Domain.state = some st := by
  rw [domain_of_update h hf hx, Option.map_some, hst]

end

/-! ### POWER_REQUEST (R464) -/

section
variable {r : Req} {m : Mod} (sizes : sized r.payload 3 = true) (code : domainCodes.contains (field r.payload 0 2) = true)
  (state : requestOk (field r.payload 0 2) (field r.payload 2 1) = true)

include sizes code state

theorem runPowerRequest_absent (hd : m.variant.domain (field r.payload 0 2) = false) :
    runPowerRequest r m = refuse r eABSENT (badField 0) m := by
  simp only [runPowerRequest, sizes, code, state, hd, Bool.not_true, Bool.not_false, Bool.false_eq_true, ↓reduceIte]

variable (hd : m.variant.domain (field r.payload 0 2) = true)

include hd

theorem runPowerRequest_failed
    (hf : isCourse (field r.payload 0 2) = true ∧ (m.course (field r.payload 0 2)).failed = true) :
    runPowerRequest r m = refuse r eCAPACITY plain m := by
  simp only [runPowerRequest, sizes, code, state, hd, hf, Bool.not_true, Bool.and_self, Bool.false_eq_true, ↓reduceIte]

variable (nf : ¬ (isCourse (field r.payload 0 2) = true ∧ (m.course (field r.payload 0 2)).failed = true))

include nf

theorem runPowerRequest_holding (hh : isBank (field r.payload 0 2) = true ∧ m.state = .safeHold) :
    runPowerRequest r m = refuse r eSAFETY plain m := by
  simp only [runPowerRequest, sizes, code, state, hd, Bool.and_eq_true, if_neg nf, hh, BEq.rfl, Bool.not_true, and_self,
    Bool.false_eq_true, ↓reduceIte]

variable (nh : ¬ (isBank (field r.payload 0 2) = true ∧ m.state = .safeHold))

include nh

theorem runPowerRequest_busy (hb : isCourse (field r.payload 0 2) = false ∧ 2 ≤ field r.payload 2 1 ∧
      m.held5 (field r.payload 0 2) = true) :
    runPowerRequest r m = refuse r eCONFLICT plain m := by
  simp only [runPowerRequest, sizes, code, state, hd, Bool.and_eq_true, if_neg nf, beq_iff_eq, if_neg nh, Bool.not_eq_true',
    decide_eq_true_eq, and_assoc, if_pos hb, Bool.true_eq_false, ↓reduceIte]

theorem runPowerRequest_later (nb : ¬ (isCourse (field r.payload 0 2) = false ∧ 2 ≤ field r.payload 2 1 ∧
      m.held5 (field r.payload 0 2) = true)) :
    runPowerRequest r m = later r (.powerRequest (field r.payload 0 2) (field r.payload 2 1)) m := by
  simp only [runPowerRequest, sizes, code, state, hd, Bool.and_eq_true, if_neg nf, beq_iff_eq, if_neg nh, Bool.not_eq_true',
    decide_eq_true_eq, and_assoc, if_neg nb, Bool.true_eq_false, ↓reduceIte]

end

/-! ### Entries and wakes (R452 – R454) -/

section
variable (m : Mod) {d : Nat} {x : Domain}

/-- A completed entry acts on the courses, a link or the windows; the controller's own state stays. -/
theorem lower_power (st : DState) : (m.lower d st).power = m.power := by
  unfold Mod.lower
  split
  · split
    · exact foldl_keeps Mod.power (fun m c => m.setCourse c Course.clean) (fun _ _ => rfl) [d] m
    · rfl
  split
  · rfl
  split
  · exact foldl_keeps Mod.power (fun (m : Mod) w => m.setLoop w fun l => { l with wstate := .cold }) (fun _ _ => rfl) _ _
  · rfl

theorem lower_domain (st : DState) : (m.lower d st).domain d = m.domain d := by
  unfold Mod.domain
  rw [lower_power]

variable {m} (hx : m.domain d = some x)

include hx

/-- An entry abandoned before its abort point. -/
theorem endEntry_abandons : ((endEntry d true m).domain d).map Domain.state = some .on ∧
    (endEntry d true m).power.aborts = m.power.aborts + 1 ∧ (endEntry d true m).power.entries = m.power.entries := by
  simp only [endEntry, hx, ↓reduceIte]
  exact ⟨domainState_of_update (hx := hx), rfl, rfl⟩

/-- An entry that completes, no wake event waiting. -/
theorem endEntry_completes (hg : x.goal ≠ .on) : ((endEntry d false m).domain d).map Domain.state = some x.entryTo ∧
    (endEntry d false m).power.entries = m.power.entries + 1 ∧ (endEntry d false m).power.aborts = m.power.aborts := by
  have power := lower_power m x.entryTo (d := d)
  have lowered : (m.lower d x.entryTo).domain d = some x := (lower_domain m x.entryTo).trans hx
  have counted := congrArg (Power.entries · + 1) power
  have aborts := congrArg Power.aborts power
  simp only [endEntry, hx, if_neg hg, Bool.false_eq_true, ↓reduceIte]
  exact ⟨domainState_of_update (hx := by exact domain_of_update (hx := lowered)), counted, aborts⟩

end

/-- A wake: a domain whose goal is not RETENTION is ON, and a lane's link has both its lanes. -/
theorem execDomainWake_wakes {s : State} {d : Nat} {x : Domain} (hx : s.cur.domain d = some x) (hw : x.state = .waking)
    (hg : x.goal ≠ .retention) :
    ∃ t, execDomainWake d s = .next { s with cur := t } ∧ (t.domain d).map Domain.state = some .on ∧
      t.power.wakes = s.cur.power.wakes + 1 ∧ (isLane d = true → (t.link (laneLeaf d)).oneLane = false) := by
  refine ⟨_, happens_holds _ _ s (by simp [hx, hw]), ?_⟩
  dsimp only
  split
  next => exact ⟨domainState_of_update (hx := hx) (hst := by exact if_neg hg), rfl,
    fun _ => congrArg LinkSt.oneLane (link_setLink_same ..)⟩
  next nl => exact ⟨domainState_of_update (hx := hx) (hst := by exact if_neg hg), rfl, fun hl => absurd hl nl⟩

/-! ### Throttling (R456) -/

/-- One update of each course that `cs` lists is one of the list of courses. -/
theorem foldl_setCourse (f : Course → Course) (cs : List Nat) (m : Mod) :
    cs.foldl (fun m c => m.setCourse c f) m =
      { m with mortar := { m.mortar with courses := lmodAll f m.mortar.courses cs } } := by
  induction cs generalizing m with
  | nil => rfl
  | cons c cs ih => exact ih (m.setCourse c f)

/-- The courses that throttling moves: fitted, and reserved for nothing. -/
def Mod.throttled (m : Mod) : List Nat :=
  (List.range 16).filter fun c => !m.reservedCourse c && m.variant.courses.getLsbD c

theorem mem_throttled {m : Mod} {c : Nat} :
    c ∈ m.throttled ↔ c < 16 ∧ m.reservedCourse c = false ∧ m.variant.courses.getLsbD c = true := by
  simp [Mod.throttled]

/-- The operating point of a course once `f` has moved each course that throttling moves. -/
theorem opp_throttled {m : Mod} {c : Nat} (f : Course → Course) (hc : c < m.mortar.courses.length) :
    (lget Course.init (lmodAll f m.mortar.courses m.throttled) c).opp =
      if c < 16 ∧ m.reservedCourse c = false ∧ m.variant.courses.getLsbD c = true then (f (m.course c)).opp
      else (m.course c).opp := by
  split
  next h => exact congrArg Course.opp (lget_lmodAll_mem _ _ _ _ _ (List.nodup_range.filter _) (mem_throttled.mpr h) hc)
  next h => exact congrArg Course.opp (lget_lmodAll_notMem _ _ _ _ _ (mt mem_throttled.mp h))

/-! ### The rows -/

/-- Settles O19: the checks of POWER_REQUEST come in the order of the clauses; an entry and a wake update their own domain, and
throttling updates each course of its list once. -/
theorem powerCommandsAndRows : Obligations.PowerCommandsAndRows := by
  unfold Obligations.PowerCommandsAndRows
  dsimp only [exec, execPowerRequest, execIdleTimerExpiry, execDomainEntry, execDomainWake, execThrottle]
  refine ⟨?request, ?rows⟩
  case request =>
    intro s p ha sizes code state
    have runs (g) := commandM_runs 0x91 p runPowerRequest g s ha
    exact ⟨fun hd => runs _ (runPowerRequest_absent sizes code state hd),
      fun hd hf => runs _ (runPowerRequest_failed sizes code state hd hf),
      fun hd nf hh => runs _ (runPowerRequest_holding sizes code state hd nf hh),
      fun hd nf nh hb => runs _ (runPowerRequest_busy sizes code state hd nf nh hb),
      fun hd nf nh nb => runs _ (runPowerRequest_later sizes code state hd nf nh nb)⟩
  case rows =>
    intro s d x hx
    simp only [foldl_setCourse]
    refine ⟨?expiry, ?abandoned, ?completed, ?wake, ?down, ?up⟩
    case expiry =>
      intro ht hc hv hh hi he hs hl
      exact happens_holds _ _ s (by simp [hx, ht, hc, hv, hh, hi, he, hs, hl])
    case abandoned =>
      intro hs hg
      exact ⟨_, happens_holds _ _ s (by simp [hx, hs, hg]), endEntry_abandons hx⟩
    case completed =>
      intro hs hg
      exact ⟨_, happens_holds _ _ s (by simp [hx, hs]), endEntry_completes hx hg⟩
    case wake =>
      intro hs hg
      exact execDomainWake_wakes hx hs hg
    case down =>
      intro ht hstep hany htemp
      refine ⟨_, happens_holds _ _ s ?_, rfl, fun c hc => ?_⟩
      · simpa [ht, hstep, htemp] using hany
      · exact opp_throttled _ hc
    case up =>
      intro ht hstep hany hcool
      refine ⟨_, happens_holds _ _ s ?_, fun c hc => ?_⟩
      · simpa [ht, hstep, hcool] using hany
      refine (opp_throttled _ hc).trans_le ?_
      split
      · exact Nat.sub_le ..
      · exact le_rfl

end Sys2Proof.Machine
end

section
/-! PROOFS. Supplies: their sequence, its violations and their loss (R443 – R447). -/

namespace Sys2Proof.Machine

/-- Where its condition holds, an event ends in the module it makes, of which all that `P` says is to be shown. -/
theorem happens_ends {g : Mod → Bool} {f : Mod → Mod} {s : State} {P : Mod → Prop} (hg : g s.cur = true)
    (hf : ∀ t, f s.cur = t → P t) : ∃ t, happens g f s = .next { s with cur := t } ∧ P t :=
  ⟨f s.cur, happens_holds g f s hg, hf _ rfl⟩

section
variable (m : Mod)

/-! ### Records and violations of the sequence (R445) -/

@[simp] theorem record_sup (ty origin : Nat) (data : List Byte) : (m.record ty origin data).sup = m.sup := by
  obtain ⟨r, e⟩ := record_changes m ty origin data
  rw [e]

@[simp] theorem resetRecord_sup (origin cause leaf function straps prev : Nat) :
    (m.resetRecord origin cause leaf function straps prev).sup = m.sup := record_sup m 3 origin _

/-- A violation touches the records and what the supplies note of it. -/
theorem violation_changes (row interval : Nat) (up : Bool) : ∃ r, m.violation row interval up =
    { m with sup := { m.sup with seq := true, seqHold := m.sup.seqHold || up }, recs := r } := record_changes _ 2 0 _

/-- A violation of the way up that may have come. -/
theorem ite_violation_changes (c : Bool) (row interval : Nat) : ∃ r, (if c then m.violation row interval true else m) =
    { m with sup := { m.sup with seq := m.sup.seq || c, seqHold := m.sup.seqHold || c }, recs := r } := by
  cases c with
  | false => exact ⟨m.recs, by simp⟩
  | true =>
    obtain ⟨r, e⟩ := violation_changes m row interval true
    exact ⟨r, by simpa using e⟩

/-- `n` is `m` but for a violation of the way down that may have been recorded; where `found`, one was. -/
def FallNoted (m n : Mod) (found : Prop) : Prop :=
  n.fabric = m.fabric ∧ (∃ q, n.sup = { m.sup with seq := q }) ∧ (found → n.sup.seq = true)

theorem fallNoted_violation (row interval : Nat) (found : Prop) : FallNoted m (m.violation row interval false) found := by
  obtain ⟨r, e⟩ := violation_changes m row interval false
  rw [e]
  exact ⟨rfl, ⟨true, by rw [Bool.or_false]⟩, fun _ => rfl⟩

theorem fallNoted_self {found : Prop} (h : ¬ found) : FallNoted m m found :=
  ⟨rfl, ⟨m.sup.seq, rfl⟩, fun hf => absurd hf h⟩

/-- An input that falls too soon after the one above it, which fell at `t`, is a violation. -/
theorem fallNoted_interval (t us row : Nat) {found : Prop} (h : ¬ found) :
    FallNoted m (if us < t + 1000 then m.violation row (us - t) false else m) found := by
  split
  · exact fallNoted_violation m row _ _
  · exact fallNoted_self m h

/-! ### Loss (R446) -/

@[simp] theorem lossOf_sup (cause : Nat) : (m.lossOf cause).sup = { m.sup with rails := false, faultN := true } :=
  congrArg (fun k : Supply => { k with rails := false, faultN := true }) (record_sup m 1 0 _)

/-- `t` is without its rails: both leaves OFF, the tick stopped, the engine, the lease and the sessions lost, the elements those
of `m`. -/
def Unpowered (m t : Mod) : Prop :=
  t.sup.rails = false ∧ t.tick.running = false ∧ (t.leaf .a).state = .off ∧ (t.leaf .b).state = .off ∧
    t.leaves.active = none ∧ t.engine = .init ∧ t.sessions = [] ∧ t.fabric = m.fabric

/-- A loss leaves the module so, whatever the supplies then note but the rails. -/
theorem lossOf_unpowered {n : Mod} (cause : Nat) {s : Supply} (hs : s.rails = false) (hf : n.fabric = m.fabric) :
    Unpowered m { n.lossOf cause with sup := s } :=
  ⟨hs, rfl, rfl, rfl, rfl, rfl, rfl, (lossOf_fabric n cause).trans hf⟩

/-- The fall of VAUX or of VANA while the rails are up: a loss that no return of VIN54 ends. -/
def Mod.cutOff (cause : Nat) : Mod :=
  if m.sup.rails then { m.lossOf cause with sup := { (m.lossOf cause).sup with armed := false } } else m

/-- After a fall of which a violation may have been noted, what a loss leaves of the supplies, and of the module. -/
theorem FallNoted.cutOff {m n : Mod} {found : Prop} (h : FallNoted m n found) (cause : Nat) :
    (∃ q a r f, (n.cutOff cause).sup = { m.sup with seq := q, armed := a, rails := r, faultN := f } ∧
        (found → q = true)) ∧
      (m.sup.rails = true → Unpowered m (n.cutOff cause)) := by
  obtain ⟨fabric, ⟨q, sup⟩, seq⟩ := h
  rw [sup] at seq
  unfold Mod.cutOff
  split
  · refine ⟨⟨q, false, false, true, ?_, seq⟩, fun _ => lossOf_unpowered m cause (by rw [lossOf_sup]) fabric⟩
    rw [lossOf_sup, sup]
  next off =>
    rw [sup] at off
    exact ⟨⟨q, _, m.sup.rails, _, sup, seq⟩, fun hr => absurd hr off⟩

/-! ### Power-on (R461) -/

@[simp] theorem relockTarget_sup (t event : Nat) : (m.relockTarget t event).sup = m.sup := by
  obtain ⟨f, r, e⟩ := relockTarget_changes m t event
  rw [e]

theorem powerOn_sup (volts : Nat) (refclk : Bool) (b : BootIn) : (m.powerOn volts refclk b).sup = { m.sup with
    rails := true, armed := false, volts := volts, slotId := b.slotId, memsOk := false, memsBad := 0
    faultN := m.sup.seqHold } := by
  have locked : ([0, 1, 2, 3].foldl (fun (m : Mod) t => m.relockTarget t 2) m).sup = m.sup :=
    foldl_keeps Mod.sup _ (fun m t => relockTarget_sup m t 2) _ m
  rw [← locked]
  unfold Mod.powerOn
  extract_lets m1 m2 _ _ _ _ _ m3 rcd m4
  have recorded (n : Mod) : (rcd n).sup = n.sup := resetRecord_sup n ..
  split
  · exact recorded m3
  · exact (recorded m4).trans (startLeaves_core m3 b).1

end

/-! ### The rows -/

section
variable {s : State} (dt volts : Nat)

theorem execVauxRise_rises (h : s.cur.sup.vaux = false) : ∃ t, execVauxRise dt s = .next { s with cur := t } ∧
    t.sup.vaux = true ∧ t.aux = 0 ∧ t.tick.count = 0 ∧ t.time.hostSet = false ∧ (t.leaf .a).causeLast = 2 ∧
    (t.leaf .b).causeLast = 2 ∧ t.sup.seqHold = (s.cur.sup.seqHold || s.cur.sup.vana || s.cur.sup.vin54) ∧
    t.sup.us = s.cur.sup.us + dt := by
  refine happens_ends (by rw [h]; rfl) fun t ht => ?_
  extract_lets us _ _ _ _ m1 m2 note m3 m4 at ht
  obtain ⟨r2, e2⟩ : ∃ r, m2 = { m1 with recs := r } := record_changes m1 3 0 _
  obtain ⟨r4, e4⟩ : ∃ r, m4 = _ := ite_violation_changes m3 m3.sup.vana 0 noInterval
  obtain ⟨r5, e5⟩ := ite_violation_changes m4 m4.sup.vin54 1 noInterval
  rw [← ht, e5, e4]
  simp only [m3, e2]
  exact ⟨rfl, rfl, rfl, rfl, rfl, rfl, rfl, rfl⟩

theorem execVauxFall_falls (h : s.cur.sup.vaux = true) : ∃ t, execVauxFall dt s = .next { s with cur := t } ∧
    t.sup.vaux = false ∧ t.sup.faultN = true ∧ t.sup.us = s.cur.sup.us + dt ∧
    (s.cur.sup.vana = true ∨ s.cur.sup.vin54 = true → t.sup.seq = true) ∧ (s.cur.sup.rails = true → Unpowered s.cur t) := by
  refine happens_ends h fun t ht => ?_
  extract_lets us _ m1 m2 _ _ m3 _ at ht
  have noted : FallNoted m1 m2 (s.cur.sup.vana = true ∨ s.cur.sup.vin54 = true) := by
    dsimp only [m2]
    split
    · exact fallNoted_violation m1 3 _ _
    next out =>
      split
      · exact fallNoted_interval m1 _ us 3 out
      · exact fallNoted_self m1 out
  obtain ⟨⟨q, a, r, f, sup, seq⟩, lost⟩ := noted.cutOff 2
  subst ht
  refine ⟨rfl, rfl, congrArg Supply.us sup, fun hv => (congrArg Supply.seq sup).trans (seq hv), fun hr => ?_⟩
  obtain ⟨rails, rest⟩ := lost hr
  exact ⟨rails, rest⟩

theorem execVanaRise_rises (h : s.cur.sup.vana = false) : ∃ t, execVanaRise dt s = .next { s with cur := t } ∧
    t.sup.vana = true ∧ t.sup.us = s.cur.sup.us + dt ∧ t.sup.vanaAt = s.cur.sup.us + dt ∧
    (s.cur.sup.vaux = true → s.cur.sup.us + dt < s.cur.sup.vauxAt + 1000 → t.sup.seq = true ∧ t.sup.seqHold = true) ∧
    (s.cur.sup.vaux = true → s.cur.sup.vauxAt + 1000 ≤ s.cur.sup.us + dt →
      t.recs = s.cur.recs ∧ t.sup.seqHold = s.cur.sup.seqHold) := by
  refine happens_ends (by rw [h]; rfl) fun t ht => ?_
  extract_lets us _ m1 at ht
  subst ht
  split
  next early =>
    obtain ⟨r, e⟩ := violation_changes m1 0 (us - m1.sup.vauxAt) true
    rw [e]
    exact ⟨rfl, rfl, rfl, fun _ _ => ⟨rfl, Bool.or_true _⟩, fun _ late => absurd early.2 (Nat.not_lt.mpr late)⟩
  next inTime => exact ⟨rfl, rfl, rfl, fun hv soon => absurd ⟨hv, soon⟩ inTime, fun _ _ => ⟨rfl, rfl⟩⟩

theorem execVanaFall_falls (h : s.cur.sup.vana = true) : ∃ t, execVanaFall dt s = .next { s with cur := t } ∧
    t.sup.vana = false ∧ t.sup.us = s.cur.sup.us + dt ∧
    (s.cur.sup.vaux = true → s.cur.sup.vin54 = true →
      t.sup.seq = true ∧ (s.cur.sup.rails = true → Unpowered s.cur t)) := by
  refine happens_ends h fun t ht => ?_
  extract_lets us old m1 m2 _ _ at ht
  subst ht
  split
  next off => exact ⟨rfl, rfl, fun hv => by simp [m1, old, hv] at off⟩
  split
  · obtain ⟨⟨q, a, r, f, sup, seq⟩, lost⟩ := (fallNoted_violation m1 2 noInterval True).cutOff 1
    exact ⟨congrArg Supply.vana sup, congrArg Supply.us sup,
      fun _ _ => ⟨(congrArg Supply.seq sup).trans (seq trivial), lost⟩⟩
  next down =>
    split
    next fell _ =>
      obtain ⟨-, ⟨q, sup⟩, -⟩ := fallNoted_interval m1 fell us 2 not_false
      exact ⟨congrArg Supply.vana sup, congrArg Supply.us sup, fun _ hv => absurd hv down⟩
    · exact ⟨rfl, rfl, fun _ hv => absurd hv down⟩

theorem execVin54Rise_rises (aux : Nat) (refclk : Bool) (b : BootIn)
    (h : s.cur.sup.vin54 = false ∨ s.cur.mayConvert (s.cur.sup.us + dt) = true) :
    ∃ t, execVin54Rise dt aux volts refclk b s = .next { s with cur := t } ∧ t.sup.vin54 = true ∧
      t.sup.us = s.cur.sup.us + dt ∧
      (s.cur.sup.vaux = true → s.cur.sup.vana = true → s.cur.sup.vanaAt + 1100 ≤ s.cur.sup.us + dt →
        s.cur.sup.armed = true → s.cur.sup.rails = false → t.sup.rails = true ∧ t.fabric.set = s.cur.fabric.set) ∧
      (s.cur.sup.vaux = true → s.cur.sup.vana = false → t.sup.seqHold = true ∧ t.sup.rails = s.cur.sup.rails) := by
  refine happens_ends (by simpa using h) fun t ht => ?_
  extract_lets early old m1 m2 at ht
  obtain ⟨r, e⟩ : ∃ r, m2 = _ := ite_violation_changes m1 early 1 noInterval
  subst ht
  split
  next on =>
    refine ⟨?_, ?_, fun _ _ _ _ _ => ⟨?_, ?_⟩, fun _ hna => ?_⟩
    · rw [powerOn_sup, e]
    · rw [powerOn_sup, e]
    · rw [powerOn_sup]
    · rw [powerOn_set, e]
    · simp [Mod.mayConvert, e, m1, old, hna] at on
  next off =>
    rw [e]
    refine ⟨rfl, rfl, fun hx hn hl ha hr => ?_, fun hx hna => ⟨?_, rfl⟩⟩
    · simp [Mod.mayConvert, e, m1, old, hx, hn, hl, ha, hr] at off
    · have down : s.cur.sup.vin54 = false := h.resolve_right (by simp [Mod.mayConvert, hna])
      simp [early, hx, hna, down]

theorem execVin54Loss_loses (h : s.cur.sup.vin54 = true) : ∃ t, execVin54Loss dt volts s = .next { s with cur := t } ∧
    t.sup.vin54 = false ∧ t.sup.us = s.cur.sup.us + dt ∧ t.sup.armed = true ∧
    (s.cur.sup.rails = true → Unpowered s.cur t) := by
  refine happens_ends h fun t ht => ?_
  extract_lets us _ m1 _ m2 m3 _ at ht
  subst ht
  cases hr : s.cur.sup.rails with
  | true =>
    have lost : m3 = m2.lossOf 0 := if_pos hr
    have sup := (congrArg Mod.sup lost).trans (lossOf_sup m2 0)
    refine ⟨congrArg Supply.vin54 sup, congrArg Supply.us sup, rfl, fun _ => ?_⟩
    rw [lost]
    exact lossOf_unpowered s.cur 0 (congrArg Supply.rails sup) rfl
  | false =>
    have sup : m3.sup = m1.sup := congrArg Mod.sup (if_neg (ne_true_of_eq_false hr))
    exact ⟨congrArg Supply.vin54 sup, congrArg Supply.us sup, rfl, nofun⟩

theorem execVin54Overvoltage_loses (h : s.cur.sup.vin54 = true) (hv : 1200 < volts) :
    ∃ t, execVin54Overvoltage dt volts s = .next { s with cur := t } ∧ t.sup.us = s.cur.sup.us + dt ∧
      t.sup.armed = false ∧ (s.cur.sup.vaux = true → t.sup.seq = true) ∧ (s.cur.sup.rails = true → Unpowered s.cur t) := by
  refine happens_ends (by simp [h, hv]) fun t ht => ?_
  extract_lets _ m1 m2 m3 _ at ht
  have noted : FallNoted m1 m2 (s.cur.sup.vaux = true) := by
    dsimp only [m2]
    split
    · exact fallNoted_violation m1 4 _ _
    next off => exact fallNoted_self m1 off
  obtain ⟨fabric, ⟨q, sup⟩, seq⟩ := noted
  have rails : m2.sup.rails = m1.sup.rails := by rw [sup]
  subst ht
  cases hr : s.cur.sup.rails with
  | true =>
    have lost : m3 = m2.lossOf 3 := if_pos (rails.trans hr)
    have off := (congrArg Mod.sup lost).trans (lossOf_sup m2 3)
    refine ⟨(congrArg Supply.us off).trans (congrArg Supply.us sup), rfl,
      fun hx => (congrArg Supply.seq off).trans (seq hx), fun _ => ?_⟩
    rw [lost]
    exact lossOf_unpowered s.cur 3 (congrArg Supply.rails off) fabric
  | false =>
    have kept : m3.sup = m2.sup := congrArg Mod.sup (if_neg (ne_true_of_eq_false (rails.trans hr)))
    exact ⟨congrArg Supply.us (kept.trans sup), rfl, fun hx => (congrArg Supply.seq kept).trans (seq hx), nofun⟩

end

/-- Settles O36: each row is what its supply does, a violation that may be noted of it, and a loss where the rails were up. -/
theorem supplyRowsComplete : Obligations.SupplyRowsComplete := by
  unfold Obligations.SupplyRowsComplete
  dsimp only [exec]
  intro s dt aux volts refclk b
  exact ⟨execVauxRise_rises dt, execVauxFall_falls dt, execVanaRise_rises dt, execVanaFall_falls dt,
    execVin54Rise_rises dt volts aux refclk b, execVin54Loss_loses dt volts, execVin54Overvoltage_loses dt volts⟩

end Sys2Proof.Machine
end

section
/-! PROOFS. Steps and commands as a whole: what a step takes from the queue, and that every command but VENDOR_SERVICE answers. -/

namespace Sys2Proof.Machine

/-! ### Steps -/

theorem step_of_cons {c : Instr} {q : List Instr} {s : State} (h : s.pending = c :: q) :
    step s = exec c { s with pending := q } := by
  unfold step
  rw [h]

theorem step_of_empty {s : State} (h : s.pending = []) : step s = .next s := by
  unfold step
  rw [h]

/-- Settles O1: `step` by the two forms of the queue. -/
theorem stepRunsFrontCommand : Obligations.StepRunsFrontCommand := by
  unfold Obligations.StepRunsFrontCommand
  exact ⟨fun _ _ _ h => step_of_cons h, fun _ h => step_of_empty h⟩

/-! ### The queue -/

theorem readClears_pending (s : State) (i : Side) (sel : Selects) (a : Nat) : (s.readClears i sel a).pending = s.pending := by
  unfold State.readClears
  split
  · rfl
  split
  · split
    · rfl
    split <;> rfl
  · rfl

theorem readReg_pending (s : State) (acc : Accessor) (i : Side) (a : Nat) : (s.readReg acc i a).2.pending = s.pending := by
  unfold State.readReg
  dsimp only
  split
  · rfl
  · exact readClears_pending _ i _ a

theorem readRegs_pending (acc : Accessor) (i : Side) (l : List Nat) (s : State) :
    (s.readRegs acc i l).2.pending = s.pending := by
  induction l generalizing s with
  | nil => rfl
  | cons a l ih => exact (ih _).trans (readReg_pending s acc i a)

theorem runRegRead_pending (r : Req) (s : State) : (runRegRead r s).pending = s.pending := by
  unfold runRegRead
  dsimp only
  split
  · rfl
  split
  · rfl
  split
  · rfl
  split
  · rfl
  · exact readRegs_pending _ _ _ s

theorem felsoRead_pending (x : FelsoTx) (s : State) : (felsoRead x s).pending = s.pending := by
  unfold felsoRead
  dsimp only
  split
  · rfl
  split
  · rfl
  · exact readReg_pending s _ _ _

theorem runGuard_pending (ok : Bool) (s : State) : (runGuard ok s).pending = s.pending := rfl

theorem tickBoundary_pending (aux power : Nat) (s t : State) (e : execTickBoundary aux power s = .next t) :
    t.pending = s.pending := by
  simp only [execTickBoundary, Host.Outcome.next.injEq] at e
  subst e
  split <;> rfl

theorem guard_pending (ok : Bool) (s t : State) (e : execGuard ok s = .next t) : t.pending = s.pending := by
  simp only [execGuard, Host.Outcome.next.injEq] at e
  subst e
  split
  · exact runGuard_pending ok s
  · rfl

/-- A warm reset that is due puts its module in the place of the live one, the report and the mirror; else nothing changes. -/
theorem warmResetStart_ends (b : BootIn) (s : State) :
    execWarmResetStart b s = .next s ∨ ∃ m, execWarmResetStart b s = .next { s with cur := m, snap := m, mirror := m } := by
  unfold execWarmResetStart
  split
  · next c _ =>
    split
    · exact .inr ⟨warmReset c b s.cur, rfl⟩
    · exact .inl rfl
  · exact .inl rfl

theorem warmResetStart_pending (b : BootIn) (s t : State) (e : execWarmResetStart b s = .next t) :
    t.pending = s.pending := by
  obtain h | ⟨m, h⟩ := warmResetStart_ends b s
  all_goals
    obtain rfl := Host.Outcome.next.inj (h.symm.trans e)
    rfl

theorem commitLaunch_pending (prefer bad : List Nat) (s t : State) (e : execCommitLaunch prefer bad s = .next t) :
    t.pending = s.pending := by
  simp only [execCommitLaunch, Host.Outcome.next.injEq] at e
  subst e
  split <;> rfl

theorem regRead_pending (p : Packet) (s t : State) (e : execRegRead p s = .next t) : t.pending = s.pending := by
  simp only [execRegRead, command, Host.Outcome.next.injEq] at e
  subst e
  obtain ⟨m, e⟩ | e := accept_cases (opRow 0xA0) p runRegRead s
  · rw [e]
  · rw [e]
    exact runRegRead_pending _ { s with cur := s.cur.taken (opRow 0xA0) p }

theorem felsoRegisterRead_pending (x : FelsoTx) (s t : State) (e : execFelsoRegisterRead x s = .next t) :
    t.pending = s.pending := by
  simp only [execFelsoRegisterRead, felso, Host.Outcome.next.injEq] at e
  subst e
  split
  · rfl
  split
  · rfl
  · exact felsoRead_pending x s

/-- A command that changes more than the live module is one of a boundary, or GUARD; each of them keeps the queue too. -/
theorem exec_pending (c : Instr) (s t : State) (e : exec c s = .next t) : t.pending = s.pending := by
  cases hr : atBoundaryRow c with
  | true =>
    cases c
    case tickBoundary aux power => exact tickBoundary_pending aux power s t e
    case warmResetStart b => exact warmResetStart_pending b s t e
    case commitLaunch prefer bad => exact commitLaunch_pending prefer bad s t e
    case regRead p => exact regRead_pending p s t e
    case felsoRegisterRead x => exact felsoRegisterRead_pending x s t e
    all_goals cases hr
  | false =>
    cases hg : mirrorRow c with
    | true =>
      cases c
      case guard ok => exact guard_pending ok s t e
      all_goals cases hg
    | false =>
      obtain ⟨m, rfl⟩ := exec_liveOnly c s hr hg t e
      rfl

/-- Settles O2: a command keeps the queue that it runs on, which is the rest behind it. -/
theorem queueIsFifo : Obligations.QueueIsFifo := by
  unfold Obligations.QueueIsFifo
  refine ⟨exec_pending, fun s t e => ?_⟩
  cases h : s.pending with
  | nil =>
    obtain rfl := Host.Outcome.next.inj ((step_of_empty h).symm.trans e)
    exact h
  | cons c q => exact exec_pending c { s with pending := q } t ((step_of_cons h).symm.trans e)

/-! ### Every command answers -/

theorem undefinedOpcode_answers (opcode : Byte) (p : Packet) (s : State) : ∃ t, execUndefinedOpcode opcode p s = .next t := by
  unfold execUndefinedOpcode
  dsimp only
  split
  · exact ⟨_, rfl⟩
  split
  · exact ⟨_, rfl⟩
  split
  · exact ⟨_, rfl⟩
  split
  · exact ⟨_, rfl⟩
  split <;> exact ⟨_, rfl⟩

theorem warmResetStart_answers (b : BootIn) (s : State) : ∃ t, execWarmResetStart b s = .next t := by
  obtain h | ⟨m, h⟩ := warmResetStart_ends b s
  · exact ⟨s, h⟩
  · exact ⟨_, h⟩

/-- Settles O3: an event, a packet and a transaction of Felso are `.next` of a state that they choose; the rows that choose the
outcome itself answer in each of their branches. -/
theorem everyCommandAnswers : Obligations.EveryCommandAnswers := by
  unfold Obligations.EveryCommandAnswers
  intro c s h
  cases c
  case vendorService op p => exact absurd rfl (h op p)
  case warmResetStart b => exact warmResetStart_answers b s
  case undefinedOpcode op p => exact undefinedOpcode_answers op p s
  all_goals exact ⟨_, rfl⟩

end Sys2Proof.Machine
end

section
/-! PROOFS. Felso (R506, R507, R509, R530): what a transaction that is turned away leaves, and what each operation does. -/

namespace Sys2Proof.Machine

/-! ### Transactions -/

section
variable {op : Nat} {x : FelsoTx} {s : State} (hs : s.cur.serving s.cur.felsoLeaf = true)

include hs

theorem felso_bad_crc (run : State → State) (h : felsoCrc op x ≠ x.crc) :
    felso op x run s = .next { s with cur := s.cur.felsoSays fCrc } := by
  simp [felso, hs, h, onCur]

/-- A transaction with a good CRC runs, and the port keeps its DATA (R530). -/
theorem felso_good_crc (run : State → State) (h : felsoCrc op x = x.crc) :
    felso op x run s = .next (onCur (·.felsoKept x) (run s)) := by
  simp [felso, hs, h, Mod.felsoKept]

theorem felso_unlocked (t : Mod → Nat) (run : Mod → Mod) (h : felsoCrc op x = x.crc) (hu : s.cur.isUnlocked (t s.cur) = true) :
    felso op x (needs t run) s = .next { s with cur := (run s.cur).felsoKept x } := by
  simp [felso_good_crc hs _ h, needs, onCur, hu]

theorem felso_locked (t : Mod → Nat) (run : Mod → Mod) (h : felsoCrc op x = x.crc) (hu : s.cur.isUnlocked (t s.cur) = false) :
    felso op x (needs t run) s = .next { s with cur := (s.cur.felsoSays fLocked).felsoKept x } := by
  simp [felso_good_crc hs _ h, needs, onCur, hu]

end

/-- Every Felso command is a transaction of its operation. -/
theorem exec_felso {i : Instr} {op : Nat} {x : FelsoTx} (s : State) (h : felsoOf i = some (op, x)) :
    ∃ run, exec i s = felso op x run s := by
  cases i
  case felsoRegisterRead =>
    cases h
    exact ⟨felsoRead x, rfl⟩
  case felsoStatus =>
    cases h
    exact ⟨fun s => onCur (fun m => m.felsoAnswer fDone ((s.regValue m.felsoLeaf .init 0xE0004).getD 0)) s, rfl⟩
  case felsoRegisterWrite | selectCore | felsoHalt | felsoResume | felsoStep | setBreakpoint |
      clearBreakpoint | memoryRead | memoryWrite =>
    cases h
    exact ⟨needs _ _, rfl⟩
  all_goals cases h

/-- All but FELSO_REGISTER_READ and FELSO_STATUS need their target unlocked: a register write target 0, SELECT_CORE that of the core
it names, the others that of the core selected (R507). -/
theorem exec_felso_needs {i : Instr} {op : Nat} {x : FelsoTx} (s : State) (h : felsoOf i = some (op, x)) (hr : op ≠ 0x01)
    (hst : op ≠ 0x10) :
    ∃ t run, exec i s = felso op x (needs t run) s ∧
      t s.cur = if op = 0x02 then 0 else if op = 0x11 then targetOfCore (x.addr.toNat % 256) else s.cur.coreTarget := by
  cases i
  case felsoRegisterRead =>
    cases h
    exact absurd rfl hr
  case felsoStatus =>
    cases h
    exact absurd rfl hst
  case felsoRegisterWrite | selectCore | felsoHalt | felsoResume | felsoStep | setBreakpoint | clearBreakpoint | memoryRead |
      memoryWrite =>
    cases h
    exact ⟨_, _, rfl, rfl⟩
  all_goals cases h

theorem felsoOf_read {i : Instr} {x : FelsoTx} (h : felsoOf i = some (0x01, x)) : i = .felsoRegisterRead x := by
  cases i
  case felsoRegisterRead =>
    cases h
    rfl
  all_goals cases h

/-! ### Registers -/

/-- A clear of RC fields leaves the leaves' states, and which leaf is active. -/
theorem clearRc_leaf (m ref : Mod) (mirror : Bool) (sel : Selects) (a : Nat) :
    (m.clearRc ref mirror sel a).leaves.leaf = m.leaves.leaf ∧ (m.clearRc ref mirror sel a).leaves.active = m.leaves.active := by
  unfold Mod.clearRc
  dsimp only
  split
  case h_11 =>
    have e := foldl_setCalClass_leaves (fun c k => { k with rc := k.rc - (ref.calClass c).rc }) (List.range 6) m
    exact ⟨congrArg _ e, congrArg _ e⟩
  all_goals exact ⟨rfl, rfl⟩

theorem felsoLeaf_congr {m n : Mod} (hl : n.leaves.leaf = m.leaves.leaf) (ha : n.leaves.active = m.leaves.active) :
    n.felsoLeaf = m.felsoLeaf := by
  have serving : n.serving = m.serving := funext fun i => by simp only [Mod.serving, Mod.leaf, hl]
  unfold Mod.felsoLeaf
  rw [ha, serving]

theorem clearRc_felsoLeaf (m ref : Mod) (mirror : Bool) (sel : Selects) (a : Nat) :
    (m.clearRc ref mirror sel a).felsoLeaf = m.felsoLeaf := by
  obtain ⟨hl, ha⟩ := clearRc_leaf m ref mirror sel a
  exact felsoLeaf_congr hl ha

theorem readClears_felsoLeaf (s : State) (i : Side) (sel : Selects) (a : Nat) :
    (s.readClears i sel a).cur.felsoLeaf = s.cur.felsoLeaf := by
  unfold State.readClears
  split
  · rfl
  split
  · split
    · exact clearRc_felsoLeaf ..
    split <;> rfl
  · exact clearRc_felsoLeaf ..

/-- A register read does not change which leaf answers Felso. -/
theorem readReg_felsoLeaf (s : State) (acc : Accessor) (i : Side) (a : Nat) :
    (s.readReg acc i a).2.cur.felsoLeaf = s.cur.felsoLeaf := by
  unfold State.readReg
  dsimp only
  split
  · rfl
  · refine (readClears_felsoLeaf _ i _ a).trans ?_
    cases acc <;> rfl


theorem felsoRead_locked {x : FelsoTx} {s : State} (h : s.cur.isUnlocked 0 = false) (ha : 0x18 < x.addr.toNat) :
    felsoRead x s = { s with cur := s.cur.felsoSays fLocked } := by
  simp [felsoRead, h, ha, onCur]

theorem felsoRead_answers {x : FelsoTx} {s : State} {v : Word} (h : s.cur.isUnlocked 0 = true ∨ x.addr.toNat ≤ 0x18)
    (hv : s.regValue s.cur.felsoLeaf (s.cur.selOf .felso) x.addr.toNat = some v) :
    felsoRead x s = onCur (·.felsoAnswer fDone (s.readReg .felso s.cur.felsoLeaf x.addr.toNat).1)
      (s.readReg .felso s.cur.felsoLeaf x.addr.toNat).2 := by
  have open_ : ¬ (!s.cur.isUnlocked 0 && decide (0x18 < x.addr.toNat)) = true := by
    simpa [Nat.not_lt, imp_iff_not_or] using h
  simp only [felsoRead, if_neg open_, hv, Option.isNone_some, Bool.false_eq_true, if_false]

theorem felsoWrite_accepts {x : FelsoTx} {m : Mod} (hl : legal 0xA1 (m.leaf m.felsoLeaf).state = .a)
    (hb : m.writeBad m.felso.sel x.addr.toNat x.data m.felso.prevData = none) :
    felsoWrite x m = ((m.felsoJournal stOK x m.felso.prevData).acceptWrite .felso x.addr.toNat x.data m.felso.prevData
      none).felsoSays fDone := by
  simp only [felsoWrite, hl, hb]

section
variable {s : State} {x : FelsoTx} (hs : s.cur.serving s.cur.felsoLeaf = true)

include hs

theorem felsoRegisterRead_answers {v : Word} (h : felsoCrc 0x01 x = x.crc)
    (hu : s.cur.isUnlocked 0 = true ∨ x.addr.toNat ≤ 0x18)
    (hv : s.regValue s.cur.felsoLeaf (s.cur.selOf .felso) x.addr.toNat = some v) :
    exec (.felsoRegisterRead x) s = .next (onCur
      (fun m => (m.felsoAnswer fDone (s.readReg .felso m.felsoLeaf x.addr.toNat).1).felsoKept x)
      (s.readReg .felso s.cur.felsoLeaf x.addr.toNat).2) := by
  refine (felso_good_crc hs (felsoRead x) h).trans ?_
  rw [felsoRead_answers hu hv]
  simp only [onCur, readReg_felsoLeaf]

theorem felsoStatus_answers (h : felsoCrc 0x10 x = x.crc) :
    exec (.felsoStatus x) s = .next { s with cur :=
      (s.cur.felsoAnswer fDone ((s.regValue s.cur.felsoLeaf .init 0xE0004).getD 0)).felsoKept x } :=
  felso_good_crc hs (fun s => onCur (fun m => m.felsoAnswer fDone ((s.regValue m.felsoLeaf .init 0xE0004).getD 0)) s) h

end

/-! ### Breakpoints and memory -/

/-- The breakpoints that a CLEAR_BREAKPOINT leaves. -/
theorem breaksOf_filter (m : Mod) (core c : Nat) (a : Word) :
    ({ m with felso := { m.felso with
        breaks := m.felso.breaks.filter fun (b : Nat × Word) => !(b.1 == core && b.2 == a) } } : Mod).breaksOf c =
      if c = core then (m.breaksOf c).filter (· != a) else m.breaksOf c := by
  unfold Mod.breaksOf
  dsimp only
  rw [List.filter_filter]
  split
  · next h =>
    subst h
    rw [List.filter_map, List.filter_filter]
    congr 1
    refine List.filter_congr fun b _ => ?_
    cases b.1 == c <;> simp [Function.comp, bne]
  · next h =>
    congr 1
    refine List.filter_congr fun b _ => ?_
    cases hb : b.1 == c with
    | true =>
      have ne : (b.1 == core) = false := by simpa [beq_iff_eq.mp hb] using h
      simp [ne]
    | false => rfl

/-- A word put into a keyed list in the place of what was there is the one found. -/
theorem find?_replaced {α β : Type} [BEq α] [LawfulBEq α] (l : List (α × β)) (k : α) (v : β) :
    ((l.filter fun e => e.1 != k) ++ [(k, v)]).find? (fun e => e.1 == k) = some (k, v) := by
  have none_left : (l.filter fun e => e.1 != k).find? (fun e => e.1 == k) = none := by
    simp [List.find?_eq_none]
  rw [List.find?_append, none_left]
  simp

/-! ### The operations on cores -/

section
variable {s : State} {x : FelsoTx} (hs : s.cur.serving s.cur.felsoLeaf = true)

include hs

theorem selectCore_selects (h : felsoCrc 0x11 x = x.crc) (hu : s.cur.isUnlocked (targetOfCore (x.addr.toNat % 256)) = true)
    (hc : s.cur.variant.core (x.addr.toNat % 256) = true) (hb : s.cur.coreBarred (x.addr.toNat % 256) = false) :
    exec (.selectCore x) s = .next { s with cur := (({ s.cur with felso :=
      { s.cur.felso with core := x.addr.toNat % 256 } }).felsoSays fDone).felsoKept x } := by
  refine (felso_unlocked hs _ _ h hu).trans ?_
  simp only [hc, hb, Bool.not_true, Bool.false_eq_true, if_false]

variable (hu : s.cur.isUnlocked s.cur.coreTarget = true)

include hu

/-- An operation on the selected core, its target unlocked, does its own step `r`. -/
theorem felso_core {op : Nat} {run : Mod → Mod} {r : Mod} (h : felsoCrc op x = x.crc) (hr : run s.cur = r) :
    felso op x (needs Mod.coreTarget run) s = .next { s with cur := r.felsoKept x } :=
  hr ▸ felso_unlocked hs _ run h hu

theorem felsoHalt_halts (h : felsoCrc 0x20 x = x.crc) (hb : s.cur.coreBarred s.cur.felso.core = false) :
    exec (.felsoHalt x) s = .next { s with cur := (({ s.cur with felso :=
      { s.cur.felso with halted := insertNew s.cur.felso.core s.cur.felso.halted } }).felsoSays fDone).felsoKept x } :=
  felso_core hs hu h (if_neg (ne_true_of_eq_false hb))

theorem felsoResume_resumes (h : felsoCrc 0x21 x = x.crc) :
    ∃ t : Mod, exec (.felsoResume x) s = .next { s with cur := t.felsoKept x } ∧ s.cur.felso.core ∉ t.felso.halted ∧
      t.felso.breaks = s.cur.felso.breaks :=
  ⟨_, felso_core hs hu h rfl, by simp [Mod.felsoSays, Mod.felsoAnswer], rfl⟩

theorem felsoStep_steps (h : felsoCrc 0x22 x = x.crc) (hh : s.cur.felso.core ∈ s.cur.felso.halted)
    (hc : 16 ≤ s.cur.felso.core) :
    exec (.felsoStep x) s = .next { s with cur := (({ s.cur with felso :=
      { s.cur.felso with steps := amod 0 s.cur.felso.steps s.cur.felso.core (· + 1) } }).felsoSays fDone).felsoKept x } := by
  refine felso_core hs hu h ?_
  simp only [List.contains_iff_mem.mpr hh, Bool.not_true, Bool.false_eq_true, if_false, if_neg (Nat.not_lt.mpr hc)]

theorem setBreakpoint_sets (h : felsoCrc 0x23 x = x.crc) (hb : s.cur.coreBarred s.cur.felso.core = false)
    (hn : x.addr ∉ s.cur.breaksOf s.cur.felso.core) (hl : (s.cur.breaksOf s.cur.felso.core).length < 8) :
    exec (.setBreakpoint x) s = .next { s with cur := (({ s.cur with felso :=
      { s.cur.felso with breaks := s.cur.felso.breaks ++ [(s.cur.felso.core, x.addr)] } }).felsoSays fDone).felsoKept x } := by
  refine felso_core hs hu h ?_
  simp only [hb, mt List.contains_iff_mem.mp hn, if_neg (Nat.not_le.mpr hl), Bool.false_eq_true, if_false]

theorem clearBreakpoint_clears (h : felsoCrc 0x24 x = x.crc) (hb : s.cur.coreBarred s.cur.felso.core = false) :
    ∃ t : Mod, exec (.clearBreakpoint x) s = .next { s with cur := t.felsoKept x } ∧
      x.addr ∉ t.breaksOf s.cur.felso.core ∧ ∀ c, c ≠ s.cur.felso.core → t.breaksOf c = s.cur.breaksOf c := by
  refine ⟨_, felso_core hs hu h (if_neg (ne_true_of_eq_false hb)), ?_, fun c hc => ?_⟩
  · refine ((breaksOf_filter s.cur s.cur.felso.core s.cur.felso.core x.addr).trans (if_pos rfl)).symm ▸ ?_
    simp
  · exact (breaksOf_filter s.cur s.cur.felso.core c x.addr).trans (if_neg hc)

theorem memoryRead_reads (h : felsoCrc 0x30 x = x.crc) (ha : s.cur.inSram x.addr.toNat = true) :
    exec (.memoryRead x) s = .next { s with cur := (s.cur.felsoAnswer fDone (BitVec.ofNat 32
      (unle (memBytes (s.cur.course (s.cur.felso.core - 16)).sram x.addr.toNat 4)))).felsoKept x } :=
  felso_core hs hu h (if_pos ha)

theorem memoryWrite_sram (h : felsoCrc 0x31 x = x.crc) (ha : s.cur.inSram x.addr.toNat = true) :
    exec (.memoryWrite x) s = .next { s with cur := ((s.cur.setCourse (s.cur.felso.core - 16) fun k =>
      { k with sram := memWrite k.sram x.addr.toNat (le 4 x.data.toNat) }).felsoSays fDone).felsoKept x } :=
  felso_core hs hu h (if_pos ha)

theorem memoryWrite_keeps (h : felsoCrc 0x31 x = x.crc) (ha : s.cur.inSram x.addr.toNat = false) :
    ∃ t : Mod, exec (.memoryWrite x) s = .next { s with cur := t.felsoKept x } ∧
      (t.felso.coreMem.find? fun e => e.1 == (s.cur.felso.core, x.addr.toNat)) =
        some ((s.cur.felso.core, x.addr.toNat), x.data) :=
  ⟨_, felso_core hs hu h (if_neg (ne_true_of_eq_false ha)), find?_replaced _ _ _⟩

end

/-- Settles O50: the transaction decides whether it runs, and each operation that runs ends as its lemma says. -/
theorem felsoTransactions : Obligations.FelsoTransactions := by
  unfold Obligations.FelsoTransactions
  refine ⟨fun i op x s hi hs => ⟨?crc, ?locked, ?readLocked⟩, fun s x hs => ?operations⟩
  case crc =>
    intro h
    obtain ⟨run, e⟩ := exec_felso s hi
    exact e.trans (felso_bad_crc hs run h)
  case locked =>
    intro h hr hst hu
    obtain ⟨t, run, e, target⟩ := exec_felso_needs s hi hr hst
    exact e.trans (felso_locked hs t run h (target ▸ hu))
  case readLocked =>
    rintro h rfl hu ha
    obtain rfl := felsoOf_read hi
    refine (felso_good_crc hs (felsoRead x) h).trans ?_
    rw [felsoRead_locked hu ha]
    rfl
  case operations =>
    intro m f a good ends withF
    refine ⟨?read, ?write, ?status, ?select, fun hu => ⟨felsoHalt_halts hs hu, felsoResume_resumes hs hu,
      felsoStep_steps hs hu, setBreakpoint_sets hs hu, clearBreakpoint_clears hs hu, memoryRead_reads hs hu,
      memoryWrite_sram hs hu, memoryWrite_keeps hs hu⟩⟩
    case read => exact fun v h => felsoRegisterRead_answers hs h
    case write =>
      intro h hu hl hb
      refine (felso_unlocked hs _ _ h hu).trans ?_
      rw [felsoWrite_accepts hl hb]
    case status => exact felsoStatus_answers hs
    case select => exact selectCore_selects hs

end Sys2Proof.Machine
end

section
/-! PROOFS. KEY_ENROL (R479, R480), UNLOCK_CHALLENGE and UNLOCK_RESPONSE (R507, R508): the equation of each command past its own
checks, and what an enrolment and a revocation leave at their boundary. -/

namespace Sys2Proof.Machine

section
variable {r : Req} {m : Mod}

/-! ### Keys -/

/-- The key that a KEY_ENROL payload enrols. -/
def enrolled (pl : List Byte) : Key :=
  { id := wordAt pl 4, purpose := field pl 1 1, pub := slice pl 8 32, label := slice pl 40 16 }

section
variable (h : sized r.payload 64 = true) (hz2 : zeros r.payload 2 2 = true) (hz56 : zeros r.payload 56 8 = true)
  (h0 : wordAt r.payload 4 ≠ 0) (hid : (wordAt r.payload 4).toNat < 0xFFFF0000)

include h hz2 hz56 h0 hid

theorem runKeyEnrol_enrols (hop : field r.payload 0 1 = 0) (hp : field r.payload 1 1 ∈ [1, 2, 3, 8, 9])
    (hn : (m.keysNext.find? fun k => k.id == wordAt r.payload 4) = none) (hl : m.keysNext.length < 32) :
    runKeyEnrol r m = later r (.enrolKey (enrolled r.payload) (m.keyOf r.w.link r.w.session)) m := by
  simp only [runKeyEnrol, h, hop, if_neg (Nat.not_lt.mpr (Nat.zero_le 1)), hp, hz2, hz56,
    if_neg (not_or.mpr ⟨h0, Nat.not_le.mpr hid⟩), if_neg Nat.zero_ne_one, hn, enrolled, Option.isSome_none, if_neg (Nat.not_le.mpr hl), not_true_eq_false, and_false,
    Bool.not_true, Bool.false_eq_true, if_false]

theorem runKeyEnrol_revokes {k : Key} (hop : field r.payload 0 1 = 1)
    (hk : (m.keysNext.find? fun k => k.id == wordAt r.payload 4) = some k)
    (hlast : ¬ (k.purpose = 3 ∧ (m.keysNext.filter fun x => x.purpose == 3).length = 1)) :
    runKeyEnrol r m =
      later r (.revokeKey (wordAt r.payload 4) (m.keyOf r.w.link r.w.session) (slice r.payload 40 16)) m := by
  have purpose : ¬ ((1 : Nat) = 0 ∧ field r.payload 1 1 ∉ [1, 2, 3, 8, 9]) := fun bad => Nat.one_ne_zero bad.1
  simp only [runKeyEnrol, h, hop, if_neg (Nat.lt_irrefl 1), if_neg purpose, hz2, hz56,
    if_neg (not_or.mpr ⟨h0, Nat.not_le.mpr hid⟩), if_true, hk, if_neg hlast, Bool.not_true, Bool.false_eq_true, if_false]

end

/-- A revocation of a key of the table: the sessions raised with it fall to the observer role, the key goes, and the record names
it. -/
theorem applyRevoke_of_find {m : Mod} {id : Word} {k : Key} (n : Nat) (l : List Byte)
    (h : (m.sec.keys.find? fun (x : Key) => x.id == id) = some k) :
    m.applyRevoke id n l = ({ m with
      sessions := m.sessions.map fun (t : Session) => if t.keyId = some id then { t with role := 0 } else t
      sec := { m.sec with keys := m.sec.keys.filter fun (x : Key) => x.id != id } }).keyRecord 1 k n l := by
  unfold Mod.applyRevoke
  rw [h]
  rfl

/-! ### Debug unlock -/

theorem runUnlockChallenge_challenges (h : sized r.payload 1 = true) (ht : field r.payload 0 1 ≤ 3) :
    runUnlockChallenge r m = answer r stOK (m.freeBytes 32) { m.useFree 32 with
      sec := { m.sec with challenge := some (field r.payload 0 1, m.tick.now, m.freeBytes 32) } } := by
  have target : ¬ field r.payload 0 1 = 0xFF := by omega
  simp only [runUnlockChallenge, h, if_neg target, if_neg (Nat.not_lt.mpr ht), Bool.not_true, Bool.false_eq_true, if_false]
  rfl

/-- TARGET 0xFF relocks every target. -/
theorem runUnlockChallenge_relocks (h : sized r.payload 1 = true) (ht : field r.payload 0 1 = 0xFF) :
    runUnlockChallenge r m = answer r stOK (List.replicate 32 0) ([0, 1, 2, 3].foldl
      (fun (m : Mod) t => m.relockTarget t 1) { m with sec := { m.sec with challenge := none } }) := by
  simp only [runUnlockChallenge, h, if_pos ht, Bool.not_true, Bool.false_eq_true, if_false]

/-- A response in time, to the challenge that the module keeps, with a valid signature of a key that may unlock. -/
structure UnlockAnswered (r : Req) (m : Mod) (proof : Option Proven) (t at1 : Nat) (n : List Byte) : Prop where
  size : sized r.payload 7864 = true
  reserved : zeros r.payload 4 4 = true
  challenge : m.sec.challenge = some (t, at1, n)
  inTime : m.tick.now ≤ at1 + 100000
  allowed : m.mayUnlock (field r.payload 0 4) = true
  signed : m.signed proof (field r.payload 0 4) (n ++ serial ++ le 1 t) (slice r.payload 8 7856) = true

section
variable {proof : Option Proven} {t at1 : Nat} {n : List Byte} (h : UnlockAnswered r m proof t at1 n)

include h

theorem UnlockAnswered.passes : ¬ (at1 + 100000 < m.tick.now ∨
    (!m.signed proof (field r.payload 0 4) (n ++ serial ++ le 1 t) (slice r.payload 8 7856)) = true ∨
    (!m.mayUnlock (field r.payload 0 4)) = true) := by
  rintro (late | unsigned | barred)
  · exact absurd h.inTime (Nat.not_le.mpr late)
  · rw [h.signed] at unsigned
    cases unsigned
  · rw [h.allowed] at barred
    cases barred

theorem runUnlockResponse_unlocks (hi : ∀ i, targetLeaf t = some i → m.leaves.active ≠ some i) :
    runUnlockResponse proof r m = answer r stOK []
      ({ m with sec := { m.sec with challenge := none } }.unlockTarget t (field r.payload 0 4)) := by
  simp only [runUnlockResponse, h.size, h.reserved, h.challenge, if_neg h.passes, Bool.not_true, Bool.false_eq_true, if_false]
  cases ht : targetLeaf t with
  | none => rfl
  | some i => exact if_neg (hi i ht)

/-- The active leaf's target opens after control has moved: the Switch waits for the boundary. -/
theorem runUnlockResponse_switches {i : Side} (hi : targetLeaf t = some i) (ha : m.leaves.active = some i)
    (he : { m with sec := { m.sec with challenge := none } }.eligible i.other = true) (hs : m.leaves.switchTo = none)
    (hr : m.leaves.releasing = none) (hu : m.sec.unlocking = none) :
    runUnlockResponse proof r m =
      (let m := pend r { m with sec := { m.sec with challenge := none } }
      { m with
        sec := { m.sec with unlocking := some (t, r.w, BitVec.ofNat 32 (field r.payload 0 4)) }
        deferred := m.deferred ++ [{ eff := .leafSwitch i.other r.w false, reply := none, pkt := none }] }) := by
  have ready : ¬ (m.leaves.switchTo.isSome = true ∨ m.leaves.releasing.isSome = true ∨ m.sec.unlocking.isSome = true) := by
    simp [hs, hr, hu]
  simp only [runUnlockResponse, h.size, h.reserved, h.challenge, if_neg h.passes, hi, if_pos ha, Bool.not_true,
    Bool.false_eq_true, if_false]
  exact (if_neg (by rw [he]; exact Bool.false_ne_true)).trans (if_neg ready)

end

end

/-- Settles O25: the equations of the three commands, and what the two effects of KEY_ENROL leave. -/
theorem keyAndUnlockCommandsComplete : Obligations.KeyAndUnlockCommandsComplete := by
  unfold Obligations.KeyAndUnlockCommandsComplete
  refine ⟨fun s p ha h hz2 hz56 => ?keys, fun s p => ?unlock⟩
  case keys =>
    intro pl id purpose label m0 keys old by_ h0 hid
    refine ⟨?enrol, ?revoke, fun _ _ _ => rfl, fun _ _ n l hk => applyRevoke_of_find n l hk⟩
    case enrol =>
      intro hop hp hn hl
      exact commandM_runs 0x87 p _ _ s ha (runKeyEnrol_enrols h hz2 hz56 h0 hid hop hp hn hl)
    case revoke =>
      intro k hop hk hlast
      exact commandM_runs 0x87 p _ _ s ha (runKeyEnrol_revokes h hz2 hz56 h0 hid hop hk hlast)
  case unlock =>
    intro pl m0 key
    refine ⟨fun ha h => ⟨?challenge, ?relock⟩, fun t at1 n ha h hz hc ht hk => ?response⟩
    case challenge => exact fun ht => commandM_runs 0x85 p _ _ s ha (runUnlockChallenge_challenges h ht)
    case relock => exact fun ht => commandM_runs 0x85 p _ _ s ha (runUnlockChallenge_relocks h ht)
    case response =>
      intro proof
      have answered : UnlockAnswered (packetReq p (opRow 0x86)) (m0 0x86) proof t at1 n :=
        ⟨h, hz, hc, ht, hk, (signed_iff (m0 0x86) proof key _ _).mpr rfl⟩
      exact ⟨fun hi => commandM_runs 0x86 p _ _ s ha (runUnlockResponse_unlocks answered hi),
        fun i hi hact he hs hr hu => commandM_runs 0x86 p _ _ s ha (runUnlockResponse_switches answered hi hact he hs hr hu)⟩

end Sys2Proof.Machine
end

section
/-! PROOFS. Firmware images, keys and unlocks (R482, R486, R490, R492, R493, R510), and the records (R25, R500, R501, R503 – R505): what
each row leaves. -/

namespace Sys2Proof.Machine

/-! ### What records, events and finals leave -/

section
variable (m : Mod)

@[simp] theorem record_sec (ty origin : Nat) (data : List Byte) : (m.record ty origin data).sec = m.sec := by
  obtain ⟨r, e⟩ := record_changes m ty origin data
  rw [e]

@[simp] theorem imageRecord_sec (event slot : Nat) (img : Slot) (link : Nat) : (m.imageRecord event slot img link).sec = m.sec :=
  record_sec ..

@[simp] theorem final_sec (w : Waiter) (st : Nat) (pl : List Byte) : (m.final w st pl).sec = m.sec := by
  obtain ⟨l, h, t, d, e⟩ := final_changes m w st pl
  rw [e]

@[simp] theorem record_felso (ty origin : Nat) (data : List Byte) : (m.record ty origin data).felso = m.felso := by
  obtain ⟨r, e⟩ := record_changes m ty origin data
  rw [e]

@[simp] theorem event_recs (cls : Nat) (body : List Byte) : (m.event cls body).recs = m.recs := by
  obtain ⟨l, h, t, e⟩ := event_changes m cls body
  rw [e]

theorem reportDropped_changes : ∃ q n d x, m.reportDropped = { m with recs :=
    { m.recs with queue := q, csSeq := n, dropped := d, dropAux := x } } := by
  unfold Mod.reportDropped
  split
  · exact ⟨_, _, _, _, rfl⟩
  · next h =>
    have room : m.recs.queue.length < 4096 := Nat.not_le.mp (not_or.mp h).2
    simp only [Mod.record, room, true_or, if_true]
    exact ⟨_, _, _, _, rfl⟩

/-! ### Images (R490, R492, R493) -/

theorem confirm_sec (link : Nat) : (m.confirm link).sec = { m.sec with
    counter := m.sec.primary.version, primary := { m.sec.primary with sstate := 3 }, mode := 0, trialEnd := none
    trialBoots := 0, trialResets := 0, health := false, confirming := some none, golden := { m.sec.golden with sstate := 5 } } :=
  imageRecord_sec ..

theorem fallBack_sec : m.fallBack.sec = { m.sec with
    primary := { m.sec.golden with sstate := 3 }, trialBoots := 0, trialResets := 0, trialEnd := none, health := false
    staged := if m.sec.staged.sstate = 2 then { m.sec.staged with sstate := 4 } else m.sec.staged } :=
  imageRecord_sec ..

/-- A leaf that stops discards the downloads of its sessions; the images and the counter stay. -/
theorem leafStops_sec (i : Side) (held : Bool) : ∃ b, (m.leafStops i held).sec = { m.sec with buffers := b } := by
  obtain ⟨f, e⟩ := resetFelso_changes m i
  obtain ⟨f', r, e'⟩ := relockTarget_changes ((m.resetFelso i).closeSessions fun s => s.link == i) (1 + i.num) 2
  unfold Mod.leafStops
  simp only [e']
  exact ⟨_, by rw [e]; rfl⟩

theorem askLeafReset_image (i : Side) (cause : Nat) : (m.askLeafReset i cause).sec.primary = m.sec.primary ∧
    (m.askLeafReset i cause).sec.counter = m.sec.counter := by
  obtain ⟨b, e⟩ := leafStops_sec m i true
  have e : (m.askLeafReset i cause).sec = _ := e
  rw [e]
  exact ⟨rfl, rfl⟩

/-- A fallback while running puts golden in the place of the trial image; the counter stays (R493). -/
theorem fallBackRunning_image : (fallBackRunning m).sec.primary = { m.sec.golden with sstate := 3 } ∧
    (fallBackRunning m).sec.counter = m.sec.counter := by
  have fallen := fallBack_sec { m with sec := { m.sec with mode := 2 } }
  have primary := congrArg Sec.primary fallen
  have counter := congrArg Sec.counter fallen
  unfold fallBackRunning
  dsimp only
  split
  · split
    · obtain ⟨p, c⟩ := askLeafReset_image { ({ m with sec := { m.sec with mode := 2 } } : Mod).fallBack with sec := _ } _ 6
      exact ⟨p.trans primary, c.trans counter⟩
    · exact ⟨primary, counter⟩
  · obtain ⟨p, c⟩ := askLeafReset_image { ({ m with sec := { m.sec with mode := 2 } } : Mod).fallBack with sec := _ } _ 6
    exact ⟨p.trans primary, c.trans counter⟩
  · exact ⟨primary, counter⟩

theorem fwStageWriteDone_writes {s : State} {b : Buffer} {w : Waiter} (h : s.cur.sec.writing = some (b, w)) :
    ∃ t, execFwStageWriteDone s = .next { s with cur := t } ∧
      t.sec = { s.cur.sec with writing := none, staged := b.slot } := by
  refine ⟨_, happens_holds _ _ s (by rw [h]; rfl), ?_⟩
  rw [h]
  exact (final_sec ..).trans (imageRecord_sec ..)

theorem autoConfirm_confirms {s : State} (hc : s.cur.sec.cfg.getLsbD 1 = true) (ht : s.cur.onTrial = true)
    (hh : s.cur.sec.health = true) (hr : s.cur.running = true) :
    execAutoConfirm s = .next { s with cur := s.cur.confirm 0xFF } :=
  happens_holds _ _ s (by rw [hc, ht, hh, hr]; rfl)

theorem goldenCopyDone_copies {s : State} (hc : s.cur.sec.confirming.isSome = true) (hr : s.cur.sup.rails = true) :
    execGoldenCopyDone s = .next { s with cur := s.cur.goldenDone } :=
  happens_holds _ _ s (by rw [hc, hr]; rfl)

theorem fwTrialExpiry_falls {s : State} (ht : s.cur.onTrial = true) (ha : s.cur.leaves.active.isSome = true)
    (h : 3 ≤ s.cur.sec.trialResets ∨ ∃ b, s.cur.sec.trialEnd = some b ∧ b ≤ s.cur.tick.now) :
    execFwTrialExpiry s = .next { s with cur := fallBackRunning s.cur } := by
  refine happens_holds _ _ s ?_
  rw [ht, ha, Bool.and_self, Bool.true_and, Bool.or_eq_true, decide_eq_true_eq]
  refine h.imp id fun ⟨b, e, past⟩ => ?_
  rw [e]
  exact decide_eq_true past

/-! ### Unlocks (R510) -/

theorem isUnlocked_iff (k : Nat) : m.isUnlocked k = true ↔ ∃ p ∈ m.felso.unlocked, p.1 = k := by
  simp only [Mod.isUnlocked, List.any_eq_true, beq_iff_eq]

/-- A target that is unlocked relocks, its cores run on, and the other targets stay as they are. -/
theorem relockTarget_felso {k : Nat} (event : Nat) (h : m.isUnlocked k = true) :
    (m.relockTarget k event).felso = { m.felso with
      unlocked := m.felso.unlocked.filter fun (p : Nat × Nat) => p.1 != k
      halted := m.felso.halted.filter fun c => targetOfCore c != k
      steps := m.felso.steps.filter fun (c : Nat × Nat) => targetOfCore c.1 != k
      breaks := m.felso.breaks.filter fun (b : Nat × Word) => targetOfCore b.1 != k } := by
  unfold Mod.relockTarget
  rw [if_neg (by rw [h]; decide)]
  exact record_felso ..

theorem relockTarget_relocks {k : Nat} (event : Nat) (h : m.isUnlocked k = true) :
    (m.relockTarget k event).isUnlocked k = false ∧
      (∀ j, j ≠ k → (m.relockTarget k event).isUnlocked j = m.isUnlocked j) ∧
      ∀ c ∈ (m.relockTarget k event).felso.halted, targetOfCore c ≠ k := by
  simp only [Mod.isUnlocked, relockTarget_felso m event h, List.any_filter]
  refine ⟨?_, fun j hj => ?_, fun c hc => ?_⟩
  · simp
  · congr 1
    funext p
    cases hp : p.1 == j with
    | true => simp [beq_iff_eq.mp hp, hj]
    | false => simp
  · simpa using (List.mem_filter.mp hc).2

theorem felsoRelock_relocks {s : State} {k : Nat}
    (h : ∃ p ∈ s.cur.felso.unlocked, p.1 = k ∧ p.2 + 360000000 ≤ s.cur.tick.now) :
    execFelsoRelock k s = .next { s with cur := s.cur.relockTarget k 3 } :=
  happens_holds _ _ s (by simpa only [List.any_eq_true, Bool.and_eq_true, beq_iff_eq, decide_eq_true_eq] using h)

/-! ### The Cornerstone log (R500, R501) -/

/-- The oldest record of the queue goes to the end of the log, of which the last 65,536 stay; what is reported as dropped then changes
the queue alone. -/
theorem writeRecord_log {r : CRec} {rest : List CRec} (h : m.recs.queue = r :: rest) :
    m.writeRecord.recs.log = (m.recs.log ++ [r]).drop (m.recs.log.length + 1 - 65536) ∧
      m.writeRecord.recs.wrapped = (m.recs.wrapped || decide (65536 < m.recs.log.length + 1)) := by
  unfold Mod.writeRecord
  rw [h]
  dsimp only
  obtain ⟨q, n, d, x, e⟩ := reportDropped_changes ((Mod.event { m with recs := _ } 8 _).fire 7)
  rw [e]
  simp

theorem writeRecord_queue {r : CRec} {rest : List CRec} (h : m.recs.queue = r :: rest) (hd : m.recs.dropped = 0) :
    m.writeRecord.recs.queue = rest ∧ m.writeRecord.recs.csSeq = m.recs.csSeq := by
  unfold Mod.writeRecord
  rw [h]
  dsimp only
  rw [Mod.reportDropped, if_pos (.inl (by simp [hd]))]
  simp

theorem cornerstoneWrite_writes {s : State} {r : CRec} {rest : List CRec} (hv : s.cur.sup.vaux = true)
    (hl : s.cur.die.up.getLsbD 0 = true ∨ s.cur.die.up.getLsbD 1 = true) (h : s.cur.recs.queue = r :: rest) :
    execCornerstoneWrite s = .next { s with cur := s.cur.writeRecord } :=
  happens_holds _ _ s (by simp only [hv, (Bool.or_eq_true _ _).mpr hl, h, List.isEmpty_cons, Bool.not_false, Bool.and_self])

end

/-! ### Keys and the Keyhole (R482, R503, R505) -/

section
variable {s : State}

theorem attBatchPrepare_uses (hr : s.cur.sup.rails = true) (hb : s.cur.sec.batchReady = false) (h : s.cur.sec.keysLeft = 0) :
    execAttBatchPrepare s = .next { s with cur := { s.cur with sec :=
      { s.cur.sec with batch := s.cur.sec.batch + 1, keysLeft := 1024 } } } := by
  refine (happens_holds _ _ s (by simp [hr, hb, h])).trans ?_
  rw [if_pos h]

theorem attBatchPrepare_readies (hr : s.cur.sup.rails = true) (hb : s.cur.sec.batchReady = false) (h0 : 0 < s.cur.sec.keysLeft)
    (h : s.cur.sec.keysLeft ≤ 256) :
    execAttBatchPrepare s = .next { s with cur := { s.cur with sec := { s.cur.sec with batchReady := true } } } := by
  refine (happens_holds _ _ s (by simp [hr, hb, h])).trans ?_
  rw [if_neg (Nat.ne_of_gt h0)]

theorem keyholeSnapshot_takes (ht : s.cur.tick.running = true) (hd : s.cur.keyhole.due ≠ 0)
    (hl : s.cur.keyhole.ring.length < 4096) :
    execKeyholeSnapshot s = .next { s with cur := { s.cur with keyhole := { s.cur.keyhole with
      ring := s.cur.keyhole.ring ++ [{ seq := s.cur.keyhole.seq, triggers := s.cur.keyhole.due, values := s.slotValues }]
      seq := s.cur.keyhole.seq + 1, due := 0 } } } := by
  have room : ∀ x : KSnap, (s.cur.keyhole.ring ++ [x]).length - 4096 = 0 := fun x => by
    rw [List.length_append, List.length_singleton]
    omega
  unfold execKeyholeSnapshot
  refine (happens_holds _ _ s (Bool.and_eq_true_iff.mpr ⟨ht, bne_iff_ne.mpr hd⟩)).trans ?_
  dsimp only
  rw [room, List.drop_zero]

theorem keyholeAutoResume_resumes {b : Nat} (ht : s.cur.tick.running = true) (hf : s.cur.keyhole.frozen = some b)
    (hb : b + 6000000 ≤ s.cur.tick.now) :
    execKeyholeAutoResume s = .next { s with cur := { s.cur with keyhole := { s.cur.keyhole with frozen := none } } } :=
  happens_holds _ _ s (by simp [ht, hf, hb])

end

/-- Settles O49: each row is an event whose condition the hypotheses decide; what it leaves is said by the lemmas above. -/
theorem firmwareAndRecordRowsComplete : Obligations.FirmwareAndRecordRowsComplete := by
  unfold Obligations.FirmwareAndRecordRowsComplete
  refine ⟨fun s k => ?firmware, fun s r rest => ?records⟩
  case firmware =>
    intro m
    refine ⟨fun hr hb => ⟨attBatchPrepare_uses hr hb, attBatchPrepare_readies hr hb⟩, ?write, ?confirm, ?golden, ?trial,
      ?relock⟩
    case write =>
      intro b w h
      obtain ⟨t, e, sec⟩ := fwStageWriteDone_writes h
      refine ⟨t, e, ?_⟩
      rw [sec]
      exact ⟨rfl, rfl, rfl, rfl, rfl⟩
    case confirm =>
      intro hc ht hh hr
      refine ⟨_, autoConfirm_confirms hc ht hh hr, ?_⟩
      rw [confirm_sec]
      exact ⟨rfl, rfl, rfl, rfl⟩
    case golden => exact goldenCopyDone_copies
    case trial => exact fun ht ha h => ⟨_, fwTrialExpiry_falls ht ha h, fallBackRunning_image m⟩
    case relock =>
      intro due
      have ⟨p, hp, hk, _⟩ := due
      exact ⟨_, felsoRelock_relocks due, relockTarget_relocks m 3 ((isUnlocked_iff m k).mpr ⟨p, hp, hk⟩)⟩
  case records =>
    intro m
    refine ⟨?room, ?full, keyholeSnapshot_takes, fun b => keyholeAutoResume_resumes⟩
    case room =>
      intro hv hl hq hn hd
      refine ⟨_, cornerstoneWrite_writes hv hl hq, ?_, writeRecord_queue m hq hd⟩
      rw [(writeRecord_log m hq).1, Nat.sub_eq_zero_of_le (by omega), List.drop_zero]
    case full =>
      intro hv hl hq hn
      obtain ⟨log, wrapped⟩ := writeRecord_log m hq
      refine ⟨_, cornerstoneWrite_writes hv hl hq, ?_, ?_⟩
      · rw [log, hn, List.drop_append_of_le_length (by omega)]
      · rw [wrapped, hn]
        exact Bool.or_true _

end Sys2Proof.Machine
end
